-- ==== Sys2Proof/Word.lean ====
section
/-! DEFINITION. The names every block of the TC-62 counts by (corridors, links, carriages, directions, sides) and the plain
containers that hold one thing for each of them: a pair, a triple, six slots, and a sparse table keyed by a number. -/

namespace Sys2Proof

/-- The two corridors (00, "Terms and abbreviations"): F the Feed corridor, T the Take corridor. -/
inductive Corridor where
  | f | t
  deriving DecidableEq, Repr

/-- The other corridor. -/
def Corridor.other : Corridor → Corridor
  | .f => .t
  | .t => .f

/-- The three master links (00). -/
inductive LinkId where
  | l1 | l2 | l3
  deriving DecidableEq, Repr

/-- The six carriage names (00, "Names"). -/
inductive CarriageName where
  | f1 | f2 | f3 | t1 | t2 | t3
  deriving DecidableEq, Repr

/-- A carriage's name fixes its corridor (R3). -/
def CarriageName.corridor : CarriageName → Corridor
  | .f1 | .f2 | .f3 => .f
  | .t1 | .t2 | .t3 => .t

/-- A carriage's name fixes its ordinal, counted from the north end (00). -/
def CarriageName.ordinal : CarriageName → Nat
  | .f1 | .t1 => 1
  | .f2 | .t2 => 2
  | .f3 | .t3 => 3

/-- The carriages of a corridor by ordinal, lowest first. -/
def Corridor.carriages : Corridor → List CarriageName
  | .f => [.f1, .f2, .f3]
  | .t => [.t1, .t2, .t3]

/-- Every corridor, F before T. -/
def Corridor.all : List Corridor := [.f, .t]

/-- Every link, in number order. -/
def LinkId.all : List LinkId := [.l1, .l2, .l3]

/-- Every carriage name, F1 to T3. -/
def CarriageName.all : List CarriageName := [.f1, .f2, .f3, .t1, .t2, .t3]

/-- A link's number. -/
def LinkId.number : LinkId → Nat
  | .l1 => 1
  | .l2 => 2
  | .l3 => 3

/-- The link of a number, where there is one. -/
def LinkId.ofNumber : Nat → Option LinkId
  | 1 => some .l1
  | 2 => some .l2
  | 3 => some .l3
  | _ => none

/-- Travel directions (00, "Positions and directions"): SOUTH increases the position. -/
inductive Dir where
  | north | south
  deriving DecidableEq, Repr

/-- Sides of the corridor as seen looking south (00). -/
inductive Side where
  | left | right
  deriving DecidableEq, Repr

/-- One thing for each corridor. -/
structure Two (α : Type) where
  f : α
  t : α
  deriving DecidableEq, Repr

def Two.get {α : Type} (x : Two α) : Corridor → α
  | .f => x.f
  | .t => x.t

def Two.set {α : Type} (x : Two α) (c : Corridor) (v : α) : Two α :=
  match c with
  | .f => { x with f := v }
  | .t => { x with t := v }

/-- One thing for each link. -/
structure Three (α : Type) where
  l1 : α
  l2 : α
  l3 : α
  deriving DecidableEq, Repr

def Three.get {α : Type} (x : Three α) : LinkId → α
  | .l1 => x.l1
  | .l2 => x.l2
  | .l3 => x.l3

def Three.set {α : Type} (x : Three α) (l : LinkId) (v : α) : Three α :=
  match l with
  | .l1 => { x with l1 := v }
  | .l2 => { x with l2 := v }
  | .l3 => { x with l3 := v }

/-- One thing for each carriage name. -/
structure Six (α : Type) where
  f1 : α
  f2 : α
  f3 : α
  t1 : α
  t2 : α
  t3 : α
  deriving DecidableEq, Repr

def Six.get {α : Type} (x : Six α) : CarriageName → α
  | .f1 => x.f1
  | .f2 => x.f2
  | .f3 => x.f3
  | .t1 => x.t1
  | .t2 => x.t2
  | .t3 => x.t3

def Six.set {α : Type} (x : Six α) (n : CarriageName) (v : α) : Six α :=
  match n with
  | .f1 => { x with f1 := v }
  | .f2 => { x with f2 := v }
  | .f3 => { x with f3 := v }
  | .t1 => { x with t1 := v }
  | .t2 => { x with t2 := v }
  | .t3 => { x with t3 := v }

/-- A table keyed by a number: keys strictly rising, one value a key. -/
structure Table (α : Type) where
  entries : List (Nat × α)
  deriving DecidableEq, Repr

namespace Table

/-- The table with no entry. -/
def empty {α : Type} : Table α := ⟨[]⟩

def getL {α : Type} : List (Nat × α) → Nat → Option α
  | [], _ => none
  | (k, v) :: rest, n => if n = k then some v else getL rest n

def putL {α : Type} : List (Nat × α) → Nat → α → List (Nat × α)
  | [], n, w => [(n, w)]
  | (k, v) :: rest, n, w =>
    if n < k then (n, w) :: (k, v) :: rest
    else if n = k then (n, w) :: rest
    else (k, v) :: putL rest n w

def delL {α : Type} : List (Nat × α) → Nat → List (Nat × α)
  | [], _ => []
  | (k, v) :: rest, n => if n = k then delL rest n else (k, v) :: delL rest n

/-- The value under a key, where there is one. -/
def get? {α : Type} (t : Table α) (n : Nat) : Option α := getL t.entries n

/-- Adds the entry, or replaces the one under the key. -/
def put {α : Type} (t : Table α) (n : Nat) (v : α) : Table α := ⟨putL t.entries n v⟩

/-- Removes the entry under a key. -/
def del {α : Type} (t : Table α) (n : Nat) : Table α := ⟨delL t.entries n⟩

/-- Whether a key has an entry. -/
def has {α : Type} (t : Table α) (n : Nat) : Bool := (t.get? n).isSome

/-- The number of entries. -/
def size {α : Type} (t : Table α) : Nat := t.entries.length

/-- The keys, rising. -/
def keys {α : Type} (t : Table α) : List Nat := t.entries.map (·.1)

/-- Changes every value. -/
def mapValues {α : Type} (g : Nat → α → α) (t : Table α) : Table α := ⟨t.entries.map fun e => (e.1, g e.1 e.2)⟩

/-- Keys strictly rising from above a bound. -/
def risingFrom {α : Type} : Nat → List (Nat × α) → Bool
  | _, [] => true
  | b, (k, _) :: rest => decide (b ≤ k) && risingFrom (k + 1) rest

/-- The canonical form: keys strictly rising. -/
def wf {α : Type} (t : Table α) : Bool := risingFrom 0 t.entries

end Table

/-- ⌈a / b⌉ on whole numbers. -/
def ceilDiv (a b : Nat) : Nat := (a + b - 1) / b

end Sys2Proof
end

