-- ==== Sys2Proof/Syntax.lean ====
section
/-! DEFINITION. The commands the TC-62 takes: one constructor of Instr for each row of spec/opcode_table.json, with the
operands the row's rule gives it (R179 for the fields of request lines, R181 for status answers). A word in a place that
defines its words is held as `Named`: one of the defined words, or some other word of the right form (which the owning block
refuses with RANGE, R176). -/

namespace Sys2Proof

/-- A word in its place: one the place defines, or another word of the right form (R176). -/
inductive Named (α : Type) where
  | known (a : α)
  | unknown
  deriving DecidableEq, Repr

/-- The value of a defined word. -/
def Named.val? {α : Type} : Named α → Option α
  | .known a => some a
  | .unknown => none

/-- A request line's fields: of the form the request calls for, or not (SYNTAX, R176). A line whose request word, with its sub-word, is none
of section 12.6 has no row of its own: it is the row STATUS with the words it gives in their place, `unlisted` (log 7). -/
inductive Req (α : Type) where
  | malformed
  | unlisted (words : List (List Char))
  | args (a : α)
  deriving DecidableEq, Repr

/-- The level of a gate input (R99). -/
inductive Level where
  | clear | present
  deriving DecidableEq, Repr

/-- The level of a stop input: its loop closed or open (R155). -/
inductive LoopState where
  | closed | opened
  deriving DecidableEq, Repr

/-- The levels at the unit's inputs: the numbers of the gate inputs that are present, and the two loops (00, R99, R155). -/
structure Pins where
  present : List Nat
  loopF : LoopState
  loopT : LoopState
  deriving DecidableEq, Repr

inductive LaneKind where
  | bay | buffer | station
  deriving DecidableEq, Repr

inductive StationRole where
  | source | sink
  deriving DecidableEq, Repr

inductive Readiness where
  | growing | ready | held | empty
  deriving DecidableEq, Repr

inductive OrderClass where
  | urgent | normal | background
  deriving DecidableEq, Repr

/-- The permissions of a link (R3). -/
inductive Permission where
  | order | inventory | fence | override | layout
  deriving DecidableEq, Repr

/-- The key word of a TIMING item (R3). -/
inductive TimingKey where
  | corridor (c : Corridor)
  | unit
  deriving DecidableEq, Repr

/-- A layout item named by kind and key (R5, R6). -/
inductive ItemKey where
  | corridor (c : Named Corridor)
  | segment (c : Named Corridor) (k : Nat)
  | gate (c : Named Corridor) (k : Nat)
  | lane (n : Nat)
  | mouth (n : Nat) (c : Named Corridor)
  | carriage (n : Named CarriageName)
  | link (n : Nat)
  | timing (k : Named TimingKey)
  deriving DecidableEq, Repr

/-- The fields of LAYOUT SET after its word (R6, R179): REMOVE, or all settable fields of one item.
A deceleration of `none` is the word DEFAULT. The level that stands beside a GATE item is not a field of the line:
it is the level at that input at the moment the request is taken (R7; log 14). -/
inductive LayoutEdit where
  | remove (k : ItemKey)
  | corridor (c : Named Corridor) (length : Nat)
  | segment (c : Named Corridor) (k length : Nat)
  | gate (c : Named Corridor) (k input : Nat) (level : Level)
  | lane (n : Nat) (kind : LaneKind) (role : Option (Named StationRole)) (capacity : Nat)
  | mouth (n : Nat) (c : Named Corridor) (side : Named Side) (dock : Nat)
  | carriage (n : Named CarriageName) (length : Nat) (decel : Named (Option Nat)) (home : Named Dir) (address : Nat)
  | link (n : Nat) (perms : List (Named Permission))
  | timing (c : Corridor) (vmax reaction margin tol slip trust : Nat)
  | timingUnit (aging allowance rehome : Nat)
  deriving DecidableEq, Repr

/-- ARRIVE: bench, station, batch, readiness, [reference] (R31, R179). -/
structure ArriveArgs where
  bench : Nat
  lane : Nat
  batch : Nat
  readiness : Named Readiness
  reference : Option Nat
  deriving DecidableEq, Repr

/-- LANE SET: lane, then 0 to 32 bench numbers from index 0 (R33, R179). -/
structure LaneSetArgs where
  lane : Nat
  benches : List Nat
  deriving DecidableEq, Repr

/-- BENCH SET: bench, then one to three of BATCH, READINESS, REFERENCE; a reference of `known none` is the word NONE (R34, R179). -/
structure BenchSetArgs where
  bench : Nat
  batch : Option Nat
  readiness : Option (Named Readiness)
  reference : Option (Named (Option Nat))
  deriving DecidableEq, Repr

/-- Two bench numbers (R37). -/
structure BenchSwapArgs where
  n : Nat
  m : Nat
  deriving DecidableEq, Repr

/-- Where a straddling bench ended (R38). -/
inductive SettleWhere where
  | aboard | inLane
  deriving DecidableEq, Repr

structure BenchSettleArgs where
  bench : Nat
  place : Named SettleWhere
  deriving DecidableEq, Repr

/-- The source of a MOVE (R42). -/
inductive MoveSource where
  | bench (n : Nat)
  | laneEnd (lane : Nat) (c : Named Corridor)
  | aboard (n : Named CarriageName)
  deriving DecidableEq, Repr

/-- MOVE: source, destination lane, [corridor], class (R42, R179). -/
structure MoveArgs where
  source : MoveSource
  dest : Nat
  corridor : Option (Named Corridor)
  cls : Named OrderClass
  deriving DecidableEq, Repr

/-- A corridor word and a segment number or gate index. -/
structure TrackArgs where
  c : Named Corridor
  k : Nat
  deriving DecidableEq, Repr

/-- The service word of GATE SERVICE (R107). -/
inductive ServiceWord where
  | putIn | takeOut
  deriving DecidableEq, Repr

structure GateServiceArgs where
  c : Named Corridor
  k : Nat
  word : Named ServiceWord
  deriving DecidableEq, Repr

/-- DECLARE: carriage, p, tolerance (R114, R179). -/
structure DeclareArgs where
  carriage : Named CarriageName
  p : Nat
  tolerance : Nat
  deriving DecidableEq, Repr

/-- The kinds of event a watch slot may name (R166). -/
inductive EventKind where
  | arrived | departed | ended | identity | fence
  deriving DecidableEq, Repr

/-- The lane selector of a watch slot as the line gives it (R167). -/
inductive LaneSelArg where
  | any
  | number (n : Nat)
  | kind (k : LaneKind)
  | unknown
  deriving DecidableEq, Repr

/-- The reference condition of a watch slot (R167). -/
inductive RefCond where
  | any | present | absent
  | equal (v : Nat)
  deriving DecidableEq, Repr

/-- All fields of a watch slot as the line gives them (R167, R179); a corridor selector of `known none` is ANY. -/
structure SlotArgs where
  enabled : Bool
  andPrev : Named Bool
  events : List (Named EventKind)
  corridor : Named (Option Corridor)
  lane : LaneSelArg
  batchValue : Nat
  batchMask : Nat
  readiness : List (Named Readiness)
  reference : RefCond
  deriving DecidableEq, Repr

/-- The three forms of WATCH (R167). -/
inductive WatchOp where
  | read
  | off
  | write (a : SlotArgs)
  deriving DecidableEq, Repr

structure WatchArgs where
  slot : Nat
  op : WatchOp
  deriving DecidableEq, Repr

/-- What makes a line a bad line (R174). -/
inductive BadLineCause where
  | tooLong | framing | badSum | newStart
  deriving DecidableEq, Repr

/-- The drive states of a status answer (R147). -/
inductive DriveState where
  | standing | moving | atTarget | working | transferDone | transferFailed | driveFault
  deriving DecidableEq, Repr

/-- The fields of a status answer (R147, R181): the odometer is the signed 32-bit count as it travels. -/
structure StatusAnswer where
  address : Nat
  state : DriveState
  loaded : Bool
  odometer : BitVec 32
  speed : Nat
  faultCode : Nat
  bytes : List Nat
  deriving DecidableEq, Repr

/-- The commands: one constructor for each row of spec/opcode_table.json, in the table's order. -/
inductive Instr where
  | powerOn (pins : Pins)
  | status (l : LinkId) (q : Req Unit)
  | layoutGet (l : LinkId) (q : Req ItemKey)
  | layoutSet (l : LinkId) (q : Req LayoutEdit)
  | modeConfigure (l : LinkId) (q : Req Unit)
  | modeRun (l : LinkId) (q : Req Unit)
  | save (l : LinkId) (q : Req Unit)
  | saveComplete (same : Bool)
  | restart (l : LinkId) (q : Req Unit) (pins : Pins)
  | laneGet (l : LinkId) (q : Req Nat)
  | benchGet (l : LinkId) (q : Req Nat)
  | arrive (l : LinkId) (q : Req ArriveArgs)
  | handoff (l : LinkId) (q : Req Nat)
  | laneSet (l : LinkId) (q : Req LaneSetArgs)
  | benchSet (l : LinkId) (q : Req BenchSetArgs)
  | benchDelete (l : LinkId) (q : Req Nat)
  | benchIdent (l : LinkId) (q : Req Nat)
  | benchSwap (l : LinkId) (q : Req BenchSwapArgs)
  | benchSettle (l : LinkId) (q : Req BenchSettleArgs)
  | move (l : LinkId) (q : Req MoveArgs)
  | cancel (l : LinkId) (q : Req Nat)
  | abort (l : LinkId) (q : Req Nat)
  | orderGet (l : LinkId) (q : Req Nat)
  | orderList (l : LinkId) (q : Req (Option Nat))
  | clear (l : LinkId) (q : Req (Named CarriageName))
  | carriageGet (l : LinkId) (q : Req (Named CarriageName))
  | carriageList (l : LinkId) (q : Req (Named Corridor))
  | fence (l : LinkId) (q : Req TrackArgs)
  | unfence (l : LinkId) (q : Req TrackArgs)
  | segmentGet (l : LinkId) (q : Req TrackArgs)
  | segmentList (l : LinkId) (q : Req (Named Corridor))
  | home (l : LinkId) (q : Req (Named CarriageName))
  | declare (l : LinkId) (q : Req DeclareArgs)
  | gateService (l : LinkId) (q : Req GateServiceArgs)
  | gateGet (l : LinkId) (q : Req TrackArgs)
  | authorityGet (l : LinkId) (q : Req (Named CarriageName))
  | lineGet (l : LinkId) (q : Req (Named Corridor))
  | watch (l : LinkId) (q : Req WatchArgs)
  | fetch (l : LinkId) (q : Req (Option Nat))
  | attention (l : LinkId) (q : Req (Named Bool))
  | badLine (l : LinkId) (cause : BadLineCause)
  | overrun (l : LinkId)
  | answerSent (l : LinkId)
  | orderAging (id : Nat)
  | gateRisingEdge (c : Corridor) (k : Nat) (mid : Level)
  | gateFallingEdge (c : Corridor) (k : Nat) (mid : Level)
  | stopOpen (c : Corridor) (mid : LoopState)
  | stopClosed (c : Corridor) (mid : LoopState)
  | pollingCycle (c : Corridor)
  | statusAnswer (c : Corridor) (a : StatusAnswer)
  | missedExchange (c : Corridor)
  | broadcastBrake (c : Corridor)
  | transferTimeout (n : CarriageName)
  | homingTimeout (n : CarriageName)
  | powerLoss (cutRetained : Bool)
  deriving DecidableEq, Repr

end Sys2Proof
end

