-- ==== Sys2Proof/WellFormed.lean ====
section
/-! DEFINITION. Which commands have the form their place calls for (R176.1, R179, R181, R182). The ports use the request forms
to answer SYNTAX; the drive lines use the answer form to tell a status answer that can stand on the wire. -/

namespace Sys2Proof

/-- A number field has at most 10 decimal digits (R176, R179). -/
def numberOk (n : Nat) : Bool := decide (n < 10000000000)

def optNumberOk : Option Nat → Bool
  | none => true
  | some n => numberOk n

def ItemKey.form : ItemKey → Bool
  | .corridor _ => true
  | .segment _ k => numberOk k
  | .gate _ k => numberOk k
  | .lane n => numberOk n
  | .mouth n _ => numberOk n
  | .carriage _ => true
  | .link n => numberOk n
  | .timing _ => true

def LayoutEdit.form : LayoutEdit → Bool
  | .remove k => k.form
  | .corridor _ length => numberOk length
  | .segment _ k length => numberOk k && numberOk length
  | .gate _ k input _ => numberOk k && numberOk input
  | .lane n _ _ capacity => numberOk n && numberOk capacity
  | .mouth n _ _ dock => numberOk n && numberOk dock
  | .carriage _ length decel _ address =>
    numberOk length && (match decel with | .known d => optNumberOk d | .unknown => true) && numberOk address
  | .link n _ => numberOk n
  | .timing _ vmax reaction margin tol slip trust => [vmax, reaction, margin, tol, slip, trust].all numberOk
  | .timingUnit aging allowance rehome => [aging, allowance, rehome].all numberOk

def ArriveArgs.form (a : ArriveArgs) : Bool :=
  numberOk a.bench && numberOk a.lane && numberOk a.batch && optNumberOk a.reference

/-- 0 to 32 bench numbers (R179): a field beyond those the request takes is a SYNTAX fault. -/
def LaneSetArgs.form (a : LaneSetArgs) : Bool :=
  numberOk a.lane && a.benches.all numberOk && decide (a.benches.length ≤ 32)

/-- One to three pairs (R179). -/
def BenchSetArgs.form (a : BenchSetArgs) : Bool :=
  numberOk a.bench && (a.batch.isSome || a.readiness.isSome || a.reference.isSome) && optNumberOk a.batch
    && (match a.reference with | some (.known r) => optNumberOk r | _ => true)

def BenchSwapArgs.form (a : BenchSwapArgs) : Bool := numberOk a.n && numberOk a.m

def BenchSettleArgs.form (a : BenchSettleArgs) : Bool := numberOk a.bench

def MoveSource.form : MoveSource → Bool
  | .bench n => numberOk n
  | .laneEnd l _ => numberOk l
  | .aboard _ => true

def MoveArgs.form (a : MoveArgs) : Bool := a.source.form && numberOk a.dest

def TrackArgs.form (a : TrackArgs) : Bool := numberOk a.k

def GateServiceArgs.form (a : GateServiceArgs) : Bool := numberOk a.k

def DeclareArgs.form (a : DeclareArgs) : Bool := numberOk a.p && numberOk a.tolerance

def SlotArgs.form (a : SlotArgs) : Bool :=
  (match a.lane with | .number n => numberOk n | _ => true) && numberOk a.batchValue && numberOk a.batchMask
    && (match a.reference with | .equal v => numberOk v | _ => true)

def WatchArgs.form (a : WatchArgs) : Bool :=
  numberOk a.slot && (match a.op with | .write b => b.form | _ => true)

/-- A request's fields where the line has the form the request calls for; none makes the port answer SYNTAX (R176). -/
def Req.fields {α : Type} (form : α → Bool) : Req α → Option α
  | .malformed => none
  | .unlisted _ => none
  | .args a => if form a then some a else none

/-- A status answer that can stand on the wire (R147, R181): speed of 2 bytes, code of 1, at most 12 reader bytes. -/
def StatusAnswer.form (a : StatusAnswer) : Bool :=
  decide (a.address < 256) && decide (a.speed < 65536) && decide (a.faultCode < 256)
    && decide (a.bytes.length ≤ 12) && a.bytes.all (fun b => decide (b < 256))

def Pins.form (p : Pins) : Bool := p.present.all fun i => decide (1 ≤ i) && decide (i ≤ 96)

/-- Well-formed commands: requests whose fields have their form, inputs and answers the wires can carry. -/
def Instr.wellFormed : Instr → Bool
  | .powerOn pins => pins.form
  | .status _ q => (q.fields fun _ => true).isSome
  | .layoutGet _ q => (q.fields ItemKey.form).isSome
  | .layoutSet _ q => (q.fields LayoutEdit.form).isSome
  | .modeConfigure _ q => (q.fields fun _ => true).isSome
  | .modeRun _ q => (q.fields fun _ => true).isSome
  | .save _ q => (q.fields fun _ => true).isSome
  | .saveComplete _ => true
  | .restart _ q pins => (q.fields fun _ => true).isSome && pins.form
  | .laneGet _ q => (q.fields numberOk).isSome
  | .benchGet _ q => (q.fields numberOk).isSome
  | .arrive _ q => (q.fields ArriveArgs.form).isSome
  | .handoff _ q => (q.fields numberOk).isSome
  | .laneSet _ q => (q.fields LaneSetArgs.form).isSome
  | .benchSet _ q => (q.fields BenchSetArgs.form).isSome
  | .benchDelete _ q => (q.fields numberOk).isSome
  | .benchIdent _ q => (q.fields numberOk).isSome
  | .benchSwap _ q => (q.fields BenchSwapArgs.form).isSome
  | .benchSettle _ q => (q.fields BenchSettleArgs.form).isSome
  | .move _ q => (q.fields MoveArgs.form).isSome
  | .cancel _ q => (q.fields numberOk).isSome
  | .abort _ q => (q.fields numberOk).isSome
  | .orderGet _ q => (q.fields numberOk).isSome
  | .orderList _ q => (q.fields optNumberOk).isSome
  | .clear _ q => (q.fields fun _ => true).isSome
  | .carriageGet _ q => (q.fields fun _ => true).isSome
  | .carriageList _ q => (q.fields fun _ => true).isSome
  | .fence _ q => (q.fields TrackArgs.form).isSome
  | .unfence _ q => (q.fields TrackArgs.form).isSome
  | .segmentGet _ q => (q.fields TrackArgs.form).isSome
  | .segmentList _ q => (q.fields fun _ => true).isSome
  | .home _ q => (q.fields fun _ => true).isSome
  | .declare _ q => (q.fields DeclareArgs.form).isSome
  | .gateService _ q => (q.fields GateServiceArgs.form).isSome
  | .gateGet _ q => (q.fields TrackArgs.form).isSome
  | .authorityGet _ q => (q.fields fun _ => true).isSome
  | .lineGet _ q => (q.fields fun _ => true).isSome
  | .watch _ q => (q.fields WatchArgs.form).isSome
  | .fetch _ q => (q.fields optNumberOk).isSome
  | .attention _ q => (q.fields fun _ => true).isSome
  | .badLine _ _ => true
  | .overrun _ => true
  | .answerSent _ => true
  | .orderAging _ => true
  | .gateRisingEdge _ k _ => decide (k ≤ 40)
  | .gateFallingEdge _ k _ => decide (k ≤ 40)
  | .stopOpen _ _ => true
  | .stopClosed _ _ => true
  | .pollingCycle _ => true
  | .statusAnswer _ a => a.form
  | .missedExchange _ => true
  | .broadcastBrake _ => true
  | .transferTimeout _ => true
  | .homingTimeout _ => true
  | .powerLoss _ => true

end Sys2Proof
end

