-- ==== Sys2Proof/Decode.lean ====
section
/-! DEFINITION. The TC-62 is a block: its commands come as lines, telegrams and edges, and spec/opcode_table.json gives no row any
bits, so no word spells a command. The lines and telegrams are read in Machine/Wire.lean. -/

namespace Sys2Proof

/-- The command a word spells by the table's bits: the table gives bits to no row. -/
def decodeTableWord (_nbits _w : Nat) : Option Instr := none

end Sys2Proof
end

