-- ==== Sys2Proof/Config.lean ====
section
/-! DEFINITION. What the unit fixes once for all (the numbers the rules state), and the model's one free value. -/

namespace Sys2Proof

namespace Config

/-- At most 2,000 bench records (R25 and the text before it). -/
def maxBenches : Nat := 2000
/-- At most 48 live orders (R40). -/
def maxOrders : Nat := 48
/-- At most 24 live orders placed by one link (R40). -/
def maxShare : Nat := 24
/-- Entries of a notice queue (R164). -/
def queueSize : Nat := 16
/-- The ceiling of u, in mm (R97). -/
def maxU : Nat := 1500
/-- The crawl speed, in mm/s (R122). -/
def crawl : Nat := 100
/-- u after a homing, in mm (R111). -/
def homedU : Nat := 10
/-- The transfer timeout, in ms (R138). -/
def transferTimeout : Nat := 60000
/-- The homing timeouts, in ms (R112). -/
def firstHomingTimeout : Nat := 180000
def laterHomingTimeout : Nat := 90000
/-- The answer window, in ms (R145). -/
def answerWindow : Nat := 20
/-- The polling period, in ms (R144). -/
def pollingPeriod : Nat := 100
/-- The telegram's ten characters take about 1 ms (R180, 09 section 9.10). -/
def telegramTime : Nat := 1
/-- The default deceleration (R3). -/
def defaultDecel : Nat := 400

end Config

/-- FREE VALUE (log 17): of two carriages waiting at one segment either may be taken first (R82). The n-th such choice. -/
opaque Config.higherOrdinalFirst : Nat → Bool

end Sys2Proof
end

