-- ==== Sys2Proof/Machine/State.lean ====
section
/-! DEFINITION. The state of the TC-62: every table, record, mark and count the spec gives the unit, with its value at reset. -/

namespace Sys2Proof.Machine

/-! ## The working layout (R1 to R4) -/

/-- A LANE item (R2). -/
structure LaneItem where
  kind : LaneKind
  role : Option StationRole
  capacity : Nat
  deriving DecidableEq, Repr

/-- A MOUTH item (R2), kept under its corridor and lane number. -/
structure MouthItem where
  side : Side
  dock : Nat
  deriving DecidableEq, Repr

/-- A CARRIAGE item (R3). -/
structure CarriageItem where
  length : Nat
  decel : Nat
  home : Dir
  address : Nat
  deriving DecidableEq, Repr

/-- TIMING F and TIMING T (R3). -/
structure Timing where
  vmax : Nat
  reaction : Nat
  margin : Nat
  tol : Nat
  slip : Nat
  trust : Nat
  deriving DecidableEq, Repr

/-- TIMING UNIT (R3). -/
structure UnitTiming where
  aging : Nat
  allowance : Nat
  rehome : Nat
  deriving DecidableEq, Repr

/-- A layout: the settable fields of its items (R1 to R3). Derived fields are computed (Machine/Geometry.lean). -/
structure Layout where
  length : Two (Option Nat)
  segments : Two (Table Nat)
  gates : Two (Table Nat)
  lanes : Table LaneItem
  mouths : Two (Table MouthItem)
  carriages : Six (Option CarriageItem)
  perms : Three (Option (List Permission))
  timing : Two Timing
  unit : UnitTiming
  deriving DecidableEq, Repr

/-- The saved layout with its check word: `valid` when the two agree (R12, log 9). -/
structure SavedLayout where
  content : Layout
  valid : Bool
  deriving DecidableEq, Repr

/-- The unit modes (R9). -/
inductive UnitMode where
  | configuring | running
  deriving DecidableEq, Repr

/-! ## Lanes and benches (R18, R25) -/

/-- What the inventory and the transfer unit hold for a lane number (R18, R129). -/
structure Lane where
  benches : List Nat
  incoming : Nat
  outgoing : Nat
  lock : Option Corridor
  waiting : Option CarriageName
  deriving DecidableEq, Repr

/-- The place of a bench (R26). The index of IN_LANE is its position in the lane's list. A mouth is named by its corridor. -/
inductive Place where
  | inLane (lane : Nat)
  | aboard (n : CarriageName)
  | straddling (n : CarriageName) (lane : Nat) (mouth : Corridor)
  | outside
  deriving DecidableEq, Repr

/-- The identity of a bench (R27). -/
inductive Identity where
  | verified
  | unread
  | doubtful (read : Option Nat)
  deriving DecidableEq, Repr

/-- A bench record (R25). -/
structure Bench where
  batch : Nat
  readiness : Readiness
  reference : Option Nat
  place : Place
  identity : Identity
  claim : Option Nat
  lastMoved : Nat
  deriving DecidableEq, Repr

/-! ## Orders (R39) -/

/-- The source of an order (R39). -/
inductive Source where
  | bench (n : Nat)
  | laneEnd (lane : Nat)
  | aboard (n : CarriageName)
  deriving DecidableEq, Repr

/-- The states of a live order (R39, R46). -/
inductive Phase where
  | queued | assigned | fetching | pulling | carrying | pushing
  deriving DecidableEq, Repr

/-- The end states (R39). -/
inductive EndState where
  | done | failed | cancelled | aborted
  deriving DecidableEq, Repr

/-- The end reasons (R39). -/
inductive EndReason where
  | nothingPulled | notReleased | transferFailed | interrupted | carriageFault
  deriving DecidableEq, Repr

/-- An order record (R39). `srcLane` is the lane of the source mouth (log 21). -/
structure Order where
  id : Nat
  link : LinkId
  base : OrderClass
  eff : OrderClass
  source : Source
  srcLane : Option Nat
  corridor : Corridor
  dest : Nat
  bench : Option Nat
  carriage : Option CarriageName
  phase : Phase
  placedAt : Nat
  raisedAt : Nat
  deriving DecidableEq, Repr

/-! ## Carriages (R60, R61, R116, R126, R132, R140, R143) -/

/-- The carriage states (R62). -/
inductive CarState where
  | unplaced | unhomed | homing | idle | running | docked | transferring | halted | faulted
  deriving DecidableEq, Repr

/-- The remembered states of a HALTED carriage (R60). -/
inductive Remembered where
  | homing | running | docked | idle
  deriving DecidableEq, Repr

/-- The fault kinds (R60, R64). -/
inductive FaultKind where
  | positionLost | linkLost | driveFault | transferInterrupted | homingFailed
  deriving DecidableEq, Repr

/-- A carriage's load (R60). -/
inductive Load where
  | empty
  | bench (n : Nat)
  | straddled
  deriving DecidableEq, Repr

inductive TaskKind where
  | order | shift | homing
  deriving DecidableEq, Repr

/-- The work on whose behalf a shift runs (R61). -/
inductive Work where
  | order (id : Nat)
  | homing (n : CarriageName)
  deriving DecidableEq, Repr

/-- A task record (R61): the travel interval runs from `lo` to `hi`. -/
structure Task where
  kind : TaskKind
  lo : Int
  hi : Int
  waitingFor : List CarriageName
  target : Option Int
  work : Option Work
  deriving DecidableEq, Repr

/-- A transfer mark (R14): the mouth is the one on the carriage's corridor. -/
structure TransferMark where
  lane : Nat
  mouth : Corridor
  bench : Nat
  deriving DecidableEq, Repr

/-- The homing fields (R110). -/
structure HomingFields where
  gate : Nat
  target : Int
  start : Nat
  deriving DecidableEq, Repr

/-- A leg (R116). -/
structure Leg where
  target : Int
  dir : Dir
  deriving DecidableEq, Repr

/-- Set-point modes (R124, R180). -/
inductive SetMode where
  | hold | brake | run | crawlNorth | crawlSouth | pull | push
  deriving DecidableEq, Repr

/-- Whether the authority end is a run end or a fence end (R119). -/
inductive EndKind where
  | runEnd | fenceEnd
  deriving DecidableEq, Repr

/-- The figures of the last set-point composed (R126); `second` is the seconds count at which it was sent (log 82). -/
structure Figures where
  mode : SetMode
  target : Option (BitVec 32)
  cap : Nat
  capV : Nat
  capA : Option Nat
  capT : Option Nat
  capC : Option Nat
  authority : Option (Int × EndKind)
  dA : Option Int
  dT : Option Int
  second : Nat
  deriving DecidableEq, Repr

inductive TransferKind where
  | pull | push
  deriving DecidableEq, Repr

/-- A transfer record (R132): the mouth is the one on the carriage's corridor. -/
structure Transfer where
  kind : TransferKind
  lane : Nat
  side : Side
  order : Nat
  bench : Nat
  startLoaded : Bool
  start : Nat
  deriving DecidableEq, Repr

/-- A tag recognizer (R140). -/
inductive Recognizer where
  | hunt (count : Nat)
  | body (bytes : List Nat)
  deriving DecidableEq, Repr

inductive LinkState where
  | up | lost
  deriving DecidableEq, Repr

/-- A carriage record with its leg, figures, transfer, recognizer and drive record; `lostSpeed` is the last speed reported before its
drive's link was last LOST (log 42), `lastLoad` the load of the last valid answer (R152). It exists while the working layout holds
the CARRIAGE item of its name; p, u, load and mark are retained under the name whether or not it exists (R14, log 10). -/
structure Carriage where
  state : CarState
  remembered : Option Remembered
  faultKind : Option FaultKind
  faultCode : Option Nat
  load : Load
  assigned : Option Nat
  task : Option Task
  p : Option Int
  offset : Option Int
  u : Nat
  uBase : Nat
  sinceCorrection : Nat
  sinceHoming : Nat
  slip : Bool
  rehome : Bool
  dir : Option Dir
  speed : Nat
  driveState : Option DriveState
  lastLoad : Option Bool
  mark : Option TransferMark
  homings : Nat
  lastOdometer : Option (BitVec 32)
  prevAnswer : Option (Int × Nat)
  homing : Option HomingFields
  leg : Option Leg
  horizon : Option Int
  requestList : List Nat
  figures : Option Figures
  docked : Option Nat
  transfer : Option Transfer
  recognizer : Recognizer
  slot : Option Nat
  slotOverrun : Bool
  link : LinkState
  misses : Nat
  lastAnswer : Option Nat
  returned : Bool
  lostSpeed : Nat
  deriving DecidableEq, Repr

/-! ## Track (R77, R99) -/

/-- The reasons of an AUTO fence (R77). -/
inductive FenceReason where
  | intrusion (gate : Nat)
  | carriageLost (n : CarriageName)
  | restartOverlap
  deriving DecidableEq, Repr

/-- A fence (R77). -/
inductive Fence where
  | operator (l : LinkId)
  | auto (r : FenceReason)
  deriving DecidableEq, Repr

/-- A segment record (R77). -/
structure Segment where
  fence : Option Fence
  running : Option (CarriageName × Dir)
  standing : Option CarriageName
  waiting : List CarriageName
  deriving DecidableEq, Repr

/-- The last three samples of an input, newest first (R99, R155). -/
structure Samples (α : Type) where
  newest : α
  middle : α
  oldest : α
  deriving DecidableEq, Repr

inductive Service where
  | inService | outOfService
  deriving DecidableEq, Repr

/-- What a gate's most recent rising edge did (R99). -/
inductive EdgeOutcome where
  | none | corrected | homed | attributed | rejected | ambiguous | intrusion
  deriving DecidableEq, Repr

/-- A gate record (R99); its input number is the GATE item's. -/
structure Gate where
  service : Service
  misses : Nat
  samples : Samples Level
  level : Level
  rising : Option Nat
  duration : Option Nat
  attributed : Option CarriageName
  standstill : Bool
  outcome : EdgeOutcome
  deriving DecidableEq, Repr

/-! ## Drive lines and stop inputs (R143, R155) -/

/-- An exchange in flight (R143): the carriage is absent when its record was discarded meanwhile (R144); `failed` tells that an
answer has been taken in this window and has failed its tests, so that what still arrives is discarded (R145). -/
structure Exchange where
  address : Nat
  carriage : Option CarriageName
  mode : SetMode
  sentAt : Nat
  failed : Bool
  deriving DecidableEq, Repr

/-- A command telegram or the broadcast (R180); address 0 is the broadcast. -/
structure Telegram where
  address : Nat
  mode : SetMode
  target : BitVec 32
  cap : Nat
  side : Option Side
  deriving DecidableEq, Repr

/-- A line record (R143) with the drives this cycle has still to call (R144), the telegram last sent and, from the beginning of a
broadcast until the line goes on behind it, the moment that broadcast ends (R150, log 47). -/
structure Line where
  inFlight : Option Exchange
  broadcast : Bool
  cycleStart : Nat
  toCall : List (Nat × CarriageName)
  sent : Option Telegram
  broadcastEnds : Option Nat
  deriving DecidableEq, Repr

/-- A stop record (R155) with the level at its input. -/
structure Stop where
  input : LoopState
  samples : Samples LoopState
  loop : LoopState
  deriving DecidableEq, Repr

/-! ## Master links and notices (R164, R167, R173, R179) -/

/-- The request words with their sub-words (section 12.6), and the words a line gives in their place where they are none of these (R176,
R179, log 7). -/
inductive ReqWord where
  | status | layoutGet | layoutSet | modeConfigure | modeRun | save | restart | laneGet | benchGet | arrive | handoff
  | laneSet | benchSet | benchDelete | benchIdent | benchSwap | benchSettle | move | cancel | abort | orderGet | orderList
  | clear | carriageGet | carriageList | fence | unfence | segmentGet | segmentList | home | declare | gateService | gateGet
  | authorityGet | lineGet | watch | fetch | attention
  | other (words : List (List Char))
  deriving DecidableEq, Repr

/-- The status words (R176). -/
inductive Status where
  | ok | badForm | denied | mode | busy | unknown | range | full | laneFull | laneEmpty | claimed | collision | noPath
  | committed | identity | state | storeFailed
  deriving DecidableEq, Repr

/-- A field of an answer or notice line (R179). -/
inductive Field where
  | num (n : Int)
  | word (w : String)
  | words (ws : List String)
  | nums (ns : List Nat)
  deriving DecidableEq, Repr

inductive GateOutCause where
  | missed | link
  deriving DecidableEq, Repr

/-- The events offered to the watches, with their own fields (R166). -/
inductive Event where
  | arrived (lane bench : Nat)
  | departed (lane bench : Nat)
  | ended (id : Nat) (st : EndState) (reason : Option EndReason) (bench : Option Nat)
  | identity (bench : Nat) (flag : Identity)
  | fence (c : Corridor) (k : Nat) (set : Bool) (f : Fence)
  deriving DecidableEq, Repr

/-- What a notice tells (R165, R166). -/
inductive NoticeBody where
  | started (m : UnitMode)
  | retainedLost
  | fault (n : CarriageName) (k : FaultKind) (code : Option Nat)
  | stopOpen (c : Corridor)
  | stopClosed (c : Corridor)
  | intrusion (c : Corridor) (k : Nat)
  | gateOut (c : Corridor) (k : Nat) (cause : GateOutCause)
  | strayRead (n : CarriageName) (number : Nat)
  | event (e : Event)
  deriving DecidableEq, Repr

/-- A notice (R164): `fired` is present on watch notices and on own-order ENDED notices. -/
structure Notice where
  body : NoticeBody
  stamp : Nat
  fired : Option (List Nat)
  deriving DecidableEq, Repr

/-- The lane selector of a watch slot (R167). -/
inductive LaneSel where
  | any
  | number (n : Nat)
  | kind (k : LaneKind)
  deriving DecidableEq, Repr

/-- A watch slot (R167); a corridor selector of none is ANY. -/
structure WatchSlot where
  enabled : Bool
  andPrev : Bool
  events : List EventKind
  corridor : Option Corridor
  lane : LaneSel
  batchValue : Nat
  batchMask : Nat
  readiness : List Readiness
  reference : RefCond
  deriving DecidableEq, Repr

/-- An answer line (R179) with the notice lines that follow a FETCH answer (R170). -/
structure AnswerLine where
  word : ReqWord
  status : Status
  fields : List Field
  overrun : Bool
  notices : List Notice
  deriving DecidableEq, Repr

/-- A master link port and its notice unit (R173, R164, R171, R167). The permission set is the LINK item's. `noticesFollow` tells that a
FETCH answer is sent and its notice lines are going out behind it (R175, log 6). -/
structure Link where
  assembling : Option (List Char)
  outstanding : Option ReqWord
  overrun : Bool
  badLines : Nat
  answer : Option AnswerLine
  noticesFollow : Bool
  queue : List Notice
  lost : Nat
  attention : Bool
  slots : List WatchSlot
  deriving DecidableEq, Repr

/-! ## The whole -/

/-- The state of the unit. `starting` tells that no polling cycle of a corridor has yet been completed that leaves no drive uncalled
since the start, or since its record was created (log 16). -/
structure State where
  powered : Bool
  mode : UnitMode
  layout : Layout
  saved : SavedLayout
  storeBusy : Option LinkId
  retainedAgrees : Bool
  millis : Nat
  inputs : List Nat
  lanes : Table Lane
  benches : Table Bench
  book : List Order
  nextId : Nat
  carriages : Six Carriage
  segments : Two (Table Segment)
  gates : Two (Table Gate)
  lines : Two Line
  stops : Two Stop
  links : Three Link
  owed : Two Bool
  starting : Two Bool
  free : Nat
  pending : List Instr
  deriving DecidableEq, Repr

/-- Why a step could stop with a fault: no rule of the spec stops the unit, so there is no reason. -/
inductive Fault where
  deriving DecidableEq, Repr

/-- Why a command could be refused. -/
inductive Refusal where
  /-- Raised by exec for a command that has no meaning yet, and by nothing else. Safe. -/
  | notModelled (mnemonic : String)
  deriving DecidableEq, Repr

/-! ## Values at reset -/

/-- Every permission (R4). -/
def allPermissions : List Permission := [.order, .inventory, .fence, .override, .layout]

/-- The defaults of TIMING F and TIMING T (R3). -/
def Timing.default : Timing := ⟨800, 300, 500, 50, 20, 400⟩

/-- The empty working layout (R4). -/
def Layout.empty : Layout where
  length := ⟨none, none⟩
  segments := ⟨Table.empty, Table.empty⟩
  gates := ⟨Table.empty, Table.empty⟩
  lanes := Table.empty
  mouths := ⟨Table.empty, Table.empty⟩
  carriages := ⟨none, none, none, none, none, none⟩
  perms := ⟨some allPermissions, some allPermissions, some allPermissions⟩
  timing := ⟨Timing.default, Timing.default⟩
  unit := ⟨120, 1000, 2000⟩

/-- A lane entry with nothing in it (R23). -/
def Lane.blank : Lane := ⟨[], 0, 0, none, none⟩

/-- A segment record with empty layers (R94). -/
def Segment.blank : Segment := ⟨none, none, none, []⟩

/-- Three samples of one level. -/
def Samples.all {α : Type} (v : α) : Samples α := ⟨v, v, v⟩

/-- A gate record at its start values, its input clear (R99), as it stands where no GATE item gives it an input (log 81). -/
def Gate.blank : Gate := ⟨.inService, 0, Samples.all .clear, .clear, none, none, none, false, .none⟩

/-- The values a record is created with (R68, R116, R126, R142, R143), in the state UNPLACED, nothing retained (log 28). -/
def Carriage.blank : Carriage where
  state := .unplaced
  remembered := none
  faultKind := none
  faultCode := none
  load := .empty
  assigned := none
  task := none
  p := none
  offset := none
  u := 0
  uBase := 0
  sinceCorrection := 0
  sinceHoming := 0
  slip := false
  rehome := false
  dir := none
  speed := 0
  driveState := none
  lastLoad := none
  mark := none
  homings := 0
  lastOdometer := none
  prevAnswer := none
  homing := none
  leg := none
  horizon := none
  requestList := []
  figures := none
  docked := none
  transfer := none
  recognizer := .hunt 0
  slot := none
  slotOverrun := false
  link := .up
  misses := 0
  lastAnswer := none
  returned := false
  lostSpeed := 0

/-- A line record at its start values (R143). -/
def Line.blank : Line := ⟨none, false, 0, [], none, none⟩

/-- A stop record at a start, from the input's present level (R155). -/
def Stop.start (v : LoopState) : Stop := ⟨v, Samples.all v, v⟩

/-- A cleared watch slot (R167). -/
def WatchSlot.cleared : WatchSlot := ⟨false, false, [], none, .any, 0, 0, [], .any⟩

/-- Six cleared slots (R172). -/
def clearedSlots : List WatchSlot := List.replicate 6 WatchSlot.cleared

/-- A port at its start values with its notice unit's (R172, R173), the queue holding the given notices. -/
def Link.start (q : List Notice) : Link := ⟨none, none, false, 0, none, false, q, 0, true, clearedSlots⟩

/-- The notices of a start (R15, R16, R172). -/
def startNotices (m : UnitMode) (lost : Bool) : List Notice :=
  ⟨.started m, 0, none⟩ :: (if lost then [⟨.retainedLost, 0, none⟩] else [])

/-- Right after the first power-on of a new unit: the store was never written and is invalid (R12), retained memory failed its
check and was cleared (R16), so the unit is in CONFIGURING with the empty working layout (R15) (log 1). -/
def State.reset : State where
  powered := true
  mode := .configuring
  layout := Layout.empty
  saved := ⟨Layout.empty, false⟩
  storeBusy := none
  retainedAgrees := true
  millis := 0
  inputs := []
  lanes := Table.empty
  benches := Table.empty
  book := []
  nextId := 1
  carriages := ⟨Carriage.blank, Carriage.blank, Carriage.blank, Carriage.blank, Carriage.blank, Carriage.blank⟩
  segments := ⟨Table.empty, Table.empty⟩
  gates := ⟨Table.empty, Table.empty⟩
  lines := ⟨Line.blank, Line.blank⟩
  stops := ⟨Stop.start .closed, Stop.start .closed⟩
  links := ⟨Link.start (startNotices .configuring true), Link.start (startNotices .configuring true),
    Link.start (startNotices .configuring true)⟩
  owed := ⟨false, false⟩
  starting := ⟨true, true⟩
  free := 0
  pending := []

end Sys2Proof.Machine
end

