-- ==== Sys2Proof/Machine/Ops.lean ====
section
/-! DEFINITION. The named operations over the unit's state: one home for each record, with the operations that read and write it,
and the small questions the rules ask of a single record. -/

namespace Sys2Proof.Machine

namespace State

/-! ## Clock -/

/-- The seconds count (R15): the millisecond count runs beside it and both start from 0 (R99, log 20). -/
def seconds (s : State) : Nat := s.millis / 1000

/-- The clock has come at least to a moment (log 3). -/
def atLeast (s : State) (m : Nat) : State := { s with millis := max s.millis m }

/-! ## Lanes -/

/-- The lane entry of a number (R18). -/
def lane (s : State) (n : Nat) : Lane := (s.lanes.get? n).getD Lane.blank

def setLane (s : State) (n : Nat) (v : Lane) : State := { s with lanes := s.lanes.put n v }

def modLane (s : State) (n : Nat) (g : Lane → Lane) : State := s.setLane n (g (s.lane n))

/-- The LANE item of a number; a lane is present when it has one (02 section 2.1). -/
def laneItem (s : State) (n : Nat) : Option LaneItem := s.layout.lanes.get? n

/-- The MOUTH item of a lane on a corridor (R2). -/
def mouth (s : State) (n : Nat) (c : Corridor) : Option MouthItem := (s.layout.mouths.get c).get? n

/-- Whether a lane number is a BAY lane. -/
def isBay (s : State) (n : Nat) : Bool :=
  match s.laneItem n with
  | some it => decide (it.kind = .bay)
  | none => false

/-! ## Benches -/

/-- The record of a registered bench (R25). -/
def bench? (s : State) (b : Nat) : Option Bench := s.benches.get? b

def setBench (s : State) (b : Nat) (v : Bench) : State := { s with benches := s.benches.put b v }

def modBench (s : State) (b : Nat) (g : Bench → Bench) : State :=
  match s.bench? b with
  | some v => s.setBench b (g v)
  | none => s

/-- Sets the place of a bench and its last-moved stamp (R26). -/
def moveBench (s : State) (b : Nat) (pl : Place) : State :=
  s.modBench b fun v => { v with place := pl, lastMoved := s.seconds }

/-- The claim of a bench: none for an unregistered one. -/
def claimOf (s : State) (b : Nat) : Option Nat := (s.bench? b).bind (·.claim)

/-- Whether a bench record straddles at a mouth of a lane. -/
def straddlesAt (n : Nat) (v : Bench) : Bool :=
  match v.place with
  | .straddling _ l _ => decide (l = n)
  | _ => false

/-- The numbers of the benches straddling at the mouths of a lane (R20, R30), by rising number (log 73). -/
def straddlers (s : State) (n : Nat) : List Nat :=
  (s.benches.entries.filter fun e => straddlesAt n e.2).map (·.1)

/-- The held count of a lane (R20). -/
def held (s : State) (n : Nat) : Nat := (s.lane n).benches.length + (s.straddlers n).length

/-- Held count plus incoming count equals the capacity (R20); taken as at least, which no rule lets be exceeded. -/
def laneFull (s : State) (n : Nat) : Bool :=
  match s.laneItem n with
  | some it => decide (it.capacity ≤ s.held n + (s.lane n).incoming)
  | none => false

/-! ## Orders -/

def order? (s : State) (id : Nat) : Option Order := s.book.find? fun o => decide (o.id = id)

def modOrder (s : State) (id : Nat) (g : Order → Order) : State :=
  { s with book := s.book.map fun o => if o.id = id then g o else o }

/-- The share of a link (R40). -/
def share (s : State) (l : LinkId) : Nat := (s.book.filter fun o => decide (o.link = l)).length

/-! ## Carriages -/

def car (s : State) (n : CarriageName) : Carriage := s.carriages.get n

def setCar (s : State) (n : CarriageName) (v : Carriage) : State := { s with carriages := s.carriages.set n v }

def modCar (s : State) (n : CarriageName) (g : Carriage → Carriage) : State := s.setCar n (g (s.car n))

/-- The CARRIAGE item of a name; the carriage record exists while it does (R60). -/
def item (s : State) (n : CarriageName) : Option CarriageItem := s.layout.carriages.get n

def hasRecord (s : State) (n : CarriageName) : Bool := (s.item n).isSome

/-- The carriages of a corridor that have records, by ordinal. -/
def carsOf (s : State) (c : Corridor) : List CarriageName := c.carriages.filter s.hasRecord

/-- A carriage is free while it is IDLE and has no task (R61). -/
def isFree (s : State) (n : CarriageName) : Bool :=
  s.hasRecord n && decide ((s.car n).state = .idle) && (s.car n).task.isNone

/-- The corridor hold (R86): some carriage of the corridor is UNPLACED, or FAULTED without a position. -/
def hold (s : State) (c : Corridor) : Bool :=
  (s.carsOf c).any fun n =>
    decide ((s.car n).state = .unplaced) || (decide ((s.car n).state = .faulted) && (s.car n).p.isNone)

/-! ## Segments -/

def seg (s : State) (c : Corridor) (k : Nat) : Segment := ((s.segments.get c).get? k).getD Segment.blank

def setSeg (s : State) (c : Corridor) (k : Nat) (v : Segment) : State :=
  { s with segments := s.segments.set c ((s.segments.get c).put k v) }

def modSeg (s : State) (c : Corridor) (k : Nat) (g : Segment → Segment) : State := s.setSeg c k (g (s.seg c k))

/-- A segment record is in use while its SEGMENT item is present (R77). -/
def segInUse (s : State) (c : Corridor) (k : Nat) : Bool := (s.layout.segments.get c).has k

/-- The numbers of the segments in use, rising. -/
def segsInUse (s : State) (c : Corridor) : List Nat := (s.layout.segments.get c).keys

/-! ## Gates, lines, stops, links -/

def gate (s : State) (c : Corridor) (k : Nat) : Gate := ((s.gates.get c).get? k).getD Gate.blank

def setGate (s : State) (c : Corridor) (k : Nat) (v : Gate) : State :=
  { s with gates := s.gates.set c ((s.gates.get c).put k v) }

def modGate (s : State) (c : Corridor) (k : Nat) (g : Gate → Gate) : State := s.setGate c k (g (s.gate c k))

/-- The input number of a gate; the record is in use while its GATE item is present (R99). -/
def gateInput (s : State) (c : Corridor) (k : Nat) : Option Nat := (s.layout.gates.get c).get? k

def line (s : State) (c : Corridor) : Line := s.lines.get c

def modLine (s : State) (c : Corridor) (g : Line → Line) : State := { s with lines := s.lines.set c (g (s.lines.get c)) }

def stop (s : State) (c : Corridor) : Stop := s.stops.get c

def modStop (s : State) (c : Corridor) (g : Stop → Stop) : State := { s with stops := s.stops.set c (g (s.stops.get c)) }

/-- The corridor's stop loop is open (R155). -/
def loopOpen (s : State) (c : Corridor) : Bool := decide ((s.stop c).loop = .opened)

def link (s : State) (l : LinkId) : Link := s.links.get l

def modLink (s : State) (l : LinkId) (g : Link → Link) : State := { s with links := s.links.set l (g (s.links.get l)) }

/-- The level at a gate input. -/
def inputLevel (s : State) (i : Nat) : Level := if s.inputs.contains i then .present else .clear

/-- The permission set of a link, read from its LINK item (R173); a link without one has none. -/
def permits (s : State) (l : LinkId) (p : Permission) : Bool :=
  ((s.layout.perms.get l).getD []).contains p

def timing (s : State) (c : Corridor) : Timing := s.layout.timing.get c

/-- An allocator run is owed for a corridor in the event under way (R69, log 15). -/
def owe (s : State) (c : Corridor) : State := { s with owed := s.owed.set c true }

/-- A run is owed for a corridor, and for the other where the lane is a BAY lane (R69). -/
def oweAt (s : State) (c : Corridor) (laneNo : Nat) : State :=
  if s.isBay laneNo then (s.owe c).owe c.other else s.owe c

end State

/-! ## Small tables of the rules -/

/-- A carriage's load as the transfer unit and inventory see it. -/
def Load.bench? : Load → Option Nat
  | .bench n => some n
  | _ => none

/-- Whether a carriage has a SHIFT task. -/
def Carriage.onShift (v : Carriage) : Bool :=
  match v.task with
  | some k => decide (k.kind = .shift)
  | none => false

/-- Fault kinds ranked by what CLEAR must restore (R64). -/
def FaultKind.rank : FaultKind → Nat
  | .driveFault | .transferInterrupted => 0
  | .linkLost => 1
  | .positionLost | .homingFailed => 2

/-- Class order: URGENT before NORMAL before BACKGROUND (R70). -/
def classRank : OrderClass → Nat
  | .urgent => 0
  | .normal => 1
  | .background => 2

/-- One step up (R45). -/
def raise : OrderClass → OrderClass
  | .background => .normal
  | .normal => .urgent
  | .urgent => .urgent

/-- Whether a segment record's running or standing layer names a carriage: the carriage holds it (R77). -/
def Segment.holds (g : Segment) (n : CarriageName) : Bool :=
  decide (g.running.map (·.1) = some n) || decide (g.standing = some n)

/-- Whether a layer names a carriage other than this one. -/
def Segment.namesOther (g : Segment) (n : CarriageName) : Bool :=
  (match g.running with | some (m, _) => decide (m ≠ n) | none => false)
    || (match g.standing with | some m => decide (m ≠ n) | none => false)

/-- Takes a carriage out of both layers. -/
def Segment.clearOf (g : Segment) (n : CarriageName) : Segment :=
  { g with
    running := if g.running.map (·.1) = some n then none else g.running
    standing := if g.standing = some n then none else g.standing }

/-- The level held by at least two of three samples (R100, R155). -/
def Samples.majority {α : Type} [DecidableEq α] (x : Samples α) : α :=
  if x.newest = x.middle then x.newest else if x.newest = x.oldest then x.newest else x.middle

/-- A new sample joins the last three. -/
def Samples.push {α : Type} (x : Samples α) (v : α) : Samples α := ⟨v, x.newest, x.middle⟩

/-- Whether the list index of a number in a list; the length when it is not there. -/
def indexIn (b : Nat) (l : List Nat) : Nat := l.findIdx fun x => decide (x = b)

end Sys2Proof.Machine
end

