-- ==== Sys2Proof/Machine/Geometry.lean ====
section
/-! DEFINITION. Lengths along a corridor: the derived fields of R1, stretches and footprints (00), the stopping distance (R117) and
the speed that a distance allows (R121). A stretch is given by its first and last position. -/

namespace Sys2Proof.Machine

/-- The segment count of a corridor (R1). -/
def Layout.segCount (y : Layout) (c : Corridor) : Nat := (y.segments.get c).size

/-- The sum of the lengths of segments 0 to k - 1 (R1); absent while one of them is (log 13). -/
def Layout.north (y : Layout) (c : Corridor) : Nat → Option Nat
  | 0 => some 0
  | k + 1 =>
    match y.north c k, (y.segments.get c).get? k with
    | some a, some b => some (a + b)
    | _, _ => none

/-- The north and south boundary of a segment (R1). -/
def Layout.bounds (y : Layout) (c : Corridor) (k : Nat) : Option (Nat × Nat) :=
  match y.north c k, (y.segments.get c).get? k with
  | some a, some b => some (a, a + b)
  | _, _ => none

/-- The position of a gate (R1): the north boundary of its segment, or the corridor length at the segment count; absent while that
segment or one north of it is (log 13). -/
def Layout.gatePos (y : Layout) (c : Corridor) (k : Nat) : Option Nat :=
  if k = y.segCount c then y.length.get c else (y.bounds c k).map (·.1)

/-- Two stretches meet when they share a position (00). -/
def meet (a b : Int × Int) : Bool := decide (a.1 ≤ b.2) && decide (b.1 ≤ a.2)

/-- The smallest stretch that contains two (R71). -/
def hull (a b : Int × Int) : Int × Int := (min a.1 b.1, max a.2 b.2)

/-- The first and last position a segment holds (R1): the last segment also holds the corridor length. -/
def Layout.segSpan (y : Layout) (c : Corridor) (k : Nat) : Option (Int × Int) :=
  match y.bounds c k with
  | none => none
  | some (a, b) =>
    if k + 1 = y.segCount c then
      some ((a : Int), max ((b : Int) - 1) (((y.length.get c).getD 0 : Nat) : Int))
    else some ((a : Int), (b : Int) - 1)

/-- Whether a segment meets a stretch (R1, R77). -/
def Layout.segMeets (y : Layout) (c : Corridor) (k : Nat) (r : Int × Int) : Bool :=
  match y.bounds c k with
  | none => false
  | some (a, b) =>
    meet ((a : Int), (b : Int) - 1) r ||
      (decide (k + 1 = y.segCount c) &&
        match y.length.get c with
        | some e => meet ((e : Int), (e : Int)) r
        | none => false)

namespace State

/-- The footprint: p to p + L (00). -/
def footprint (s : State) (n : CarriageName) : Option (Int × Int) :=
  match s.item n, (s.car n).p with
  | some it, some p => some (p, p + it.length)
  | _, _ => none

/-- The uncertain footprint: p - u to p + L + u (00). -/
def uncertain (s : State) (n : CarriageName) : Option (Int × Int) :=
  match s.item n, (s.car n).p with
  | some it, some p => some (p - (s.car n).u, p + it.length + (s.car n).u)
  | _, _ => none

/-- The segments in use that meet a stretch, rising. -/
def segsMeeting (s : State) (c : Corridor) (r : Int × Int) : List Nat :=
  (s.segsInUse c).filter fun k => s.layout.segMeets c k r

/-- The segments a carriage holds, rising (R77, R79). -/
def heldRun (s : State) (n : CarriageName) : List Nat :=
  ((s.segments.get n.corridor).entries.filter fun e => e.2.holds n).map (·.1)

end State

/-- The front of a footprint in a direction of travel (00). -/
def frontOf (r : Int × Int) : Dir → Int
  | .south => r.2
  | .north => r.1

/-- The stopping distance D(v) (R117): ⌈v·t_r/1000 + v²/(2a)⌉. -/
def stopDistance (a reaction v : Nat) : Nat := ceilDiv (2 * a * v * reaction + 1000 * (v * v)) (2000 * a)

/-- The greatest number below 2^bits above acc, bit by bit from the top, at which a test that only falls once holds. -/
def greatest (test : Nat → Bool) : Nat → Nat → Nat
  | 0, acc => acc
  | b + 1, acc => if test (acc + 2 ^ b) then greatest test b (acc + 2 ^ b) else greatest test b acc

/-- The inequality of R121. -/
def capTest (a reaction x v : Nat) : Bool :=
  decide (1000 * (v * v) + 2 * a * reaction * v ≤ 2000 * a * x)

/-- capfor(x) (R121): 0 for x ≤ 0, else the greatest v of the inequality; no v with more bits than 2·a·x satisfies it. -/
def capFor (a reaction : Nat) (x : Int) : Nat :=
  if x ≤ 0 then 0 else greatest (capTest a reaction x.toNat) (Nat.log2 (2 * a * x.toNat) + 1) 0

/-- The value of R97: u base + ⌈s·k_eff/1000⌉, before the ceiling of u. -/
def uValue (uBase sinceCorrection slipAllowance : Nat) (slipMark : Bool) : Nat :=
  uBase + ceilDiv (sinceCorrection * (if slipMark then 2 * slipAllowance else slipAllowance)) 1000

end Sys2Proof.Machine
end

