-- ==== Sys2Proof/Machine/Check.lean ====
section
/-! DEFINITION. The consistency check (R8): the eleven conditions in their order, each answering the first item that fails it;
a condition on both corridors judges F before T (log 36). -/

namespace Sys2Proof.Machine

/-- The kind and key of a layout item, as a failed check names it (R8). -/
inductive ItemName where
  | corridor (c : Corridor)
  | segment (c : Corridor) (k : Nat)
  | gate (c : Corridor) (k : Nat)
  | lane (n : Nat)
  | mouth (n : Nat) (c : Corridor)
  | carriage (n : CarriageName)
  | link (l : LinkId)
  deriving DecidableEq, Repr

/-- Some LINK item holds LAYOUT. -/
def Layout.layoutHeld (y : Layout) : Bool :=
  LinkId.all.any fun l => ((y.perms.get l).getD []).contains .layout

namespace State

/-- Condition 1: both CORRIDOR items have a length; F is judged before T (log 36). -/
def check1 (s : State) : Option ItemName :=
  (Corridor.all.find? fun c => (s.layout.length.get c).isNone).map .corridor

/-- The sum of the lengths of a corridor's segments. -/
def segSum (s : State) (c : Corridor) : Nat := (s.layout.segments.get c).entries.foldl (fun t e => t + e.2) 0

/-- Condition 2 on one corridor: segments numbered 0 upward, at least 2, whose lengths sum to the corridor's. -/
def check2On (s : State) (c : Corridor) : Option ItemName :=
  let count := s.layout.segCount c
  match (List.range count).find? fun k => !s.segInUse c k with
  | some k => some (.segment c k)
  | none =>
    if count < 2 ∨ some (s.segSum c) ≠ s.layout.length.get c then some (.corridor c) else none

/-- Condition 2, F before T (log 36). -/
def check2 (s : State) : Option ItemName := Corridor.all.findSome? s.check2On

/-- Condition 3 on one corridor: gates 0 up to the segment count, none beyond. -/
def check3On (s : State) (c : Corridor) : Option ItemName :=
  let count := s.layout.segCount c
  match (List.range (count + 1)).find? fun k => (s.gateInput c k).isNone with
  | some k => some (.gate c k)
  | none => ((s.layout.gates.get c).keys.find? fun k => decide (count < k)).map (.gate c)

/-- Condition 3, F before T (log 36). -/
def check3 (s : State) : Option ItemName := Corridor.all.findSome? s.check3On

/-- The gates of the layout with their inputs, F before T, lower index first. -/
def allGates (s : State) : List ((Corridor × Nat) × Nat) :=
  Corridor.all.flatMap fun c => (s.layout.gates.get c).entries.map fun e => ((c, e.1), e.2)

/-- The first of a list whose input an earlier one uses. -/
def firstRepeated : List Nat → List ((Corridor × Nat) × Nat) → Option (Corridor × Nat)
  | _, [] => none
  | seen, (g, i) :: rest => if seen.contains i then some g else firstRepeated (i :: seen) rest

/-- Condition 4: no two gates use one input. -/
def check4 (s : State) : Option ItemName := (firstRepeated [] s.allGates).map fun g => .gate g.1 g.2

/-- The lane numbers (02). -/
def laneNumbers : List Nat := (List.range 120).map (· + 1)

/-- Whether a mouth fails condition 5: its lane is absent, its corridor has no length, or a carriage would pass the corridor's end. -/
def badMouth (s : State) (n : Nat) (c : Corridor) : Bool :=
  match s.mouth n c with
  | none => false
  | some m =>
    (s.laneItem n).isNone ||
      match s.layout.length.get c with
      | none => true
      | some e => (s.carsOf c).any fun x =>
          match s.item x with
          | some it => decide (e < m.dock + it.length)
          | none => false

/-- Condition 5: every mouth belongs to a lane and lies within its corridor for every carriage. -/
def check5 (s : State) : Option ItemName :=
  laneNumbers.findSome? fun n => (Corridor.all.find? fun c => s.badMouth n c).map (.mouth n)

/-- The number of mouths condition 6 asks of a lane. -/
def mouthsFit (s : State) (n : Nat) (it : LaneItem) : Bool :=
  let f := (s.mouth n .f).isSome
  let t := (s.mouth n .t).isSome
  if it.kind = .bay then f && t else f != t

/-- Condition 6: every BAY lane has both mouths, every other lane exactly one. -/
def check6 (s : State) : Option ItemName :=
  (s.layout.lanes.entries.find? fun e => !s.mouthsFit e.1 e.2).map fun e => .lane e.1

/-- Condition 7: no held count above a capacity. -/
def check7 (s : State) : Option ItemName :=
  (s.layout.lanes.entries.find? fun e => decide (e.2.capacity < s.held e.1)).map fun e => .lane e.1

/-- Whether a bench straddles at a lane without a LANE item, or without a MOUTH item on the carriage's corridor. -/
def straddlesNowhere (s : State) (n : Nat) : Bool :=
  s.benches.entries.any fun e =>
    match e.2.place with
    | .straddling x l _ => decide (l = n) && ((s.laneItem n).isNone || (s.mouth n x.corridor).isNone)
    | _ => false

/-- Condition 8: no bench stands or straddles at a lane the layout lacks. -/
def check8 (s : State) : Option ItemName :=
  (laneNumbers.find? fun n =>
    (!(s.lane n).benches.isEmpty && (s.laneItem n).isNone) || s.straddlesNowhere n).map .lane

/-- Whether a bench is aboard or straddling a carriage. -/
def benchOn (s : State) (x : CarriageName) : Bool :=
  s.benches.entries.any fun e =>
    match e.2.place with
    | .aboard y => decide (y = x)
    | .straddling y _ _ => decide (y = x)
    | _ => false

/-- Condition 9: no bench on a carriage the layout lacks. -/
def check9 (s : State) : Option ItemName :=
  (CarriageName.all.find? fun x => s.benchOn x && (s.item x).isNone).map .carriage

/-- Condition 10 on one corridor, carriage by carriage: `seen` holds the addresses of the lower ordinals. -/
def firstOffending (s : State) : List Nat → Bool → List CarriageName → Option CarriageName
  | _, _, [] => none
  | seen, first, x :: rest =>
    match s.item x with
    | none => if first || rest.any s.hasRecord then some x else none
    | some it => if seen.contains it.address then some x else firstOffending s (it.address :: seen) false rest

/-- Condition 10: 1 to 3 carriages with ordinals from 1 upward and distinct addresses; F before T (log 36). -/
def check10 (s : State) : Option ItemName :=
  (Corridor.all.findSome? fun c => s.firstOffending [] true c.carriages).map .carriage

/-- Condition 11: at least one LINK item holds LAYOUT. -/
def check11 (s : State) : Option ItemName := if s.layout.layoutHeld then none else some (.link .l1)

/-- The consistency check (R8): the first failing item, or none when it passes. -/
def check (s : State) : Option ItemName :=
  s.check1 <|> s.check2 <|> s.check3 <|> s.check4 <|> s.check5 <|> s.check6 <|> s.check7 <|> s.check8 <|> s.check9
    <|> s.check10 <|> s.check11

end State

end Sys2Proof.Machine
end

