-- ==== Sys2Proof/Machine/Notices.lean ====
section
/-! DEFINITION. The notice unit (chapter 11): queues and lost counts, events offered to the watches, slots, chains and attention. -/

namespace Sys2Proof.Machine

/-- A notice joins the tail of a link's queue, or is dropped and counted (R164). -/
def Link.enqueue (k : Link) (m : Notice) : Link :=
  if k.queue.length < Config.queueSize then { k with queue := k.queue ++ [m] }
  else { k with lost := min 255 (k.lost + 1) }

namespace State

/-- Queues a notice, stamped with the seconds count, on one link (R164). -/
def notify (s : State) (l : LinkId) (b : NoticeBody) (fired : Option (List Nat)) : State :=
  s.modLink l fun k => k.enqueue ⟨b, s.seconds, fired⟩

/-- Queues a system notice on every link (R165). -/
def notifyAll (s : State) (b : NoticeBody) : State :=
  ((s.notify .l1 b none).notify .l2 b none).notify .l3 b none

/-- The attention line (R171). -/
def attentionLine (s : State) (l : LinkId) : Bool := (s.link l).attention && !(s.link l).queue.isEmpty

end State

/-- An event with the fields a slot judges it by (R166); `own` is the placing link of an ENDED event (R169). The corridor is absent
where the event's station has no mouth (log 34). -/
structure Offer where
  event : Event
  corridor : Option Corridor
  lane : Option Nat
  bench : Option Nat
  own : Option LinkId
  deriving DecidableEq, Repr

def Event.kind : Event → EventKind
  | .arrived _ _ => .arrived
  | .departed _ _ => .departed
  | .ended _ _ _ _ => .ended
  | .identity _ _ => .identity
  | .fence _ _ _ _ => .fence

/-- The lane selector (R168.4). -/
def laneSelMatches (s : State) (sel : LaneSel) (lane : Option Nat) : Bool :=
  match sel, lane with
  | .any, _ => true
  | .number n, some l => decide (n = l)
  | .kind k, some l => decide ((s.laneItem l).map (·.kind) = some k)
  | _, none => false

/-- The reference condition (R168.7); the bench is absent for an event without one. -/
def refMatches (r : RefCond) (b : Option Bench) : Bool :=
  match r, b with
  | .any, _ => true
  | .present, some v => v.reference.isSome
  | .absent, some v => v.reference.isNone
  | .equal n, some v => decide (v.reference = some n)
  | _, none => false

/-- A slot matches an event (R168). -/
def slotMatches (s : State) (o : Offer) (w : WatchSlot) : Bool :=
  let b := o.bench.bind s.bench?
  w.enabled
    && w.events.contains o.event.kind
    && (match w.corridor with | none => true | some c => decide (some c = o.corridor))
    && laneSelMatches s w.lane o.lane
    && (match b with | some v => decide (v.batch &&& w.batchMask = w.batchValue &&& w.batchMask) | none => decide (w.batchMask = 0))
    && (match b with
        | some v => w.readiness.contains v.readiness
        | none => [Readiness.growing, .ready, .held, .empty].all w.readiness.contains)
    && refMatches w.reference b

/-- The chains from slot i on, the chain led by `lead` so far matching or not (R169). -/
def chainsFrom (matched : WatchSlot → Bool) : Nat → Nat → Bool → List WatchSlot → List Nat
  | _, lead, ok, [] => if ok then [lead] else []
  | i, lead, ok, w :: rest =>
    if w.andPrev then chainsFrom matched (i + 1) lead (ok && matched w) rest
    else (if ok then [lead] else []) ++ chainsFrom matched (i + 1) i (matched w) rest

/-- The fired set: the leading-slot indices of the chains that fire, rising (R169). -/
def firedSet (matched : WatchSlot → Bool) : List WatchSlot → List Nat
  | [] => []
  | w :: rest => chainsFrom matched 1 0 (matched w) rest

namespace State

/-- One link's judgement of an event: at most one notice (R169). -/
def offerOn (s : State) (o : Offer) (l : LinkId) : State :=
  let fired := firedSet (slotMatches s o) (s.link l).slots
  if o.own = some l then s.notify l (.event o.event) (some fired)
  else if fired.isEmpty then s
  else s.notify l (.event o.event) (some fired)

/-- Offers an event to the watches of every link (R166, R169). -/
def offer (s : State) (o : Offer) : State := ((s.offerOn o .l1).offerOn o .l2).offerOn o .l3

/-- A fence is set or lifted (R87). -/
def offerFence (s : State) (c : Corridor) (k : Nat) (set : Bool) (f : Fence) : State :=
  s.offer ⟨.fence c k set f, some c, none, none, none⟩

/-- Sets a fence where the layer is NONE, and offers it; an existing fence stands unchanged (R87). -/
def setFence (s : State) (c : Corridor) (k : Nat) (f : Fence) : State :=
  if (s.seg c k).fence.isNone then (s.modSeg c k fun g => { g with fence := some f }).offerFence c k true f else s

/-- Lifts a fence and offers the lift (R87). -/
def liftFence (s : State) (c : Corridor) (k : Nat) : State :=
  match (s.seg c k).fence with
  | some f => (s.modSeg c k fun g => { g with fence := none }).offerFence c k false f
  | none => s

end State

end Sys2Proof.Machine
end

