-- ==== Sys2Proof/Machine/Shifts.lean ====
section
/-! DEFINITION. Legs (R116), what stands against a stretch (R72), and the placing of shifts (R73). -/

namespace Sys2Proof.Machine

namespace State

/-- A leg begins: toward its target, SOUTH when the target is at or south of p (R116). -/
def beginLeg (s : State) (n : CarriageName) (target : Int) : State :=
  s.modCar n fun v =>
    { v with leg := some ⟨target, if (v.p.getD target) ≤ target then .south else .north⟩ }

/-- Whether a stretch meets the travel interval of a busy carriage of the corridor other than one (R72, R73). -/
def meetsBusy (s : State) (c : Corridor) (r : Int × Int) (except : CarriageName) : Bool :=
  (s.carsOf c).any fun n =>
    decide (n ≠ except) &&
      match (s.car n).task with
      | some k => meet (k.lo, k.hi) r
      | none => false

/-- A carriage stands as an obstacle by its uncertain footprint (R62, R72): FAULTED, UNHOMED or UNPLACED with a position. -/
def obstacle (s : State) (n : CarriageName) : Option (Int × Int) :=
  if (s.car n).state = .faulted ∨ (s.car n).state = .unhomed ∨ (s.car n).state = .unplaced then s.uncertain n else none

/-- Whether a stretch meets an obstacle of the corridor, leaving one carriage out of account where one is named. -/
def meetsObstacle (s : State) (c : Corridor) (r : Int × Int) (except : Option CarriageName) : Bool :=
  (s.carsOf c).any fun n =>
    decide (some n ≠ except) &&
      match s.obstacle n with
      | some q => meet q r
      | none => false

end State

/-- One shift to be given: the carriage, its target and its travel interval (R73). -/
structure Shift where
  carriage : CarriageName
  target : Int
  interval : Int × Int
  deriving DecidableEq, Repr

/-- The target position of a shift that clears a stretch (R73). -/
def shiftTarget (side : Dir) (stretch : Int × Int) (length u : Nat) : Int :=
  match side with
  | .north => stretch.1 - length - u - 1
  | .south => stretch.2 + u + 1

/-- The shifts of one side, from the stretch outward over the carriages of that side (R73). Absent when one cannot be placed.
`prev` is the target uncertain footprint of the carriage shifted last; a carriage further out clears that. -/
def planSide (s : State) (worker : CarriageName) (side : Dir) (stretch : Int × Int) (forced : Option CarriageName) :
    Option (Int × Int) → List CarriageName → Option (List Shift)
  | _, [] => some []
  | prev, n :: rest =>
    match s.item n, s.uncertain n with
    | some it, some now =>
      if s.isFree n && (decide (some n = forced) || meet now stretch || prev.any (meet now)) then
        let u := (s.car n).u
        let target := shiftTarget side (prev.getD stretch) it.length u
        let there := (target - u, target + it.length + u)
        let way := hull now there
        if 0 ≤ target ∧ target + it.length ≤ (((s.layout.length.get n.corridor).getD 0 : Nat) : Int)
            ∧ s.meetsBusy n.corridor way worker = false ∧ s.meetsObstacle n.corridor way none = false then
          match planSide s worker side stretch forced (some there) rest with
          | some more => some (⟨n, target, way⟩ :: more)
          | none => none
        else none
      else planSide s worker side stretch forced prev rest
    | _, _ => planSide s worker side stretch forced prev rest

/-- The shifts that clear a stretch for a worker's work (R73): carriages of lower ordinal north, of higher ordinal south, each
side from the stretch outward. `forced` names a carriage that is to go whether or not its footprint meets the stretch (R85).
The order of the shifts, north before south and each side from the stretch outward, is that of the waiting-for set they make (log 40). -/
def planShifts (s : State) (worker : CarriageName) (stretch : Int × Int) (forced : Option CarriageName) : Option (List Shift) :=
  let cars := s.carsOf worker.corridor
  let northern := (cars.filter fun n => decide (n.ordinal < worker.ordinal)).reverse
  let southern := cars.filter fun n => decide (worker.ordinal < n.ordinal)
  match planSide s worker .north stretch forced none northern, planSide s worker .south stretch forced none southern with
  | some a, some b => some (a ++ b)
  | _, _ => none

/-- A shifted carriage is given its SHIFT task and becomes RUNNING toward its target (R73). -/
def giveShift (work : Option Work) (s : State) (h : Shift) : State :=
  (s.modCar h.carriage fun v =>
    { v with
      state := .running
      task := some ⟨.shift, h.interval.1, h.interval.2, [], some h.target, work⟩ }).beginLeg h.carriage h.target

def giveShifts (work : Option Work) (l : List Shift) (s : State) : State := l.foldl (giveShift work) s

end Sys2Proof.Machine
end

