-- ==== Sys2Proof/Machine/Track.lean ====
section
/-! DEFINITION. The reservation table (chapter 5): grant requests with their horizon (R80 to R82, R118), shift requests for a segment
(R85), releases (R83), conversions (R84) and seating (R93). -/

namespace Sys2Proof.Machine

namespace State

/-! ## Waiting sets -/

/-- Takes a carriage out of every waiting set of its corridor (R80, R81). -/
def unwait (s : State) (n : CarriageName) : State :=
  { s with
    segments := s.segments.set n.corridor
      ((s.segments.get n.corridor).mapValues fun _ g => { g with waiting := g.waiting.filter fun m => decide (m ≠ n) }) }

/-- Empties every waiting set of a corridor (R81, R93). -/
def unwaitAll (s : State) (c : Corridor) : State :=
  { s with segments := s.segments.set c ((s.segments.get c).mapValues fun _ g => { g with waiting := [] }) }

/-- Puts a carriage into the waiting set of one segment and takes it out of any other (R80). -/
def waitAt (s : State) (n : CarriageName) (k : Nat) : State :=
  (s.unwait n).modSeg n.corridor k fun g =>
    { g with waiting := n.corridor.carriages.filter fun m => decide (m = n) || g.waiting.contains m }

/-! ## The request (R118) -/

/-- The horizon of a carriage and the stretch it requests (R118): the uncertain footprint alone where the horizon lies inside it (log 44)
and, by the model's choice, where the horizon lies wholly behind it (log 78). -/
def requestStretch (s : State) (n : CarriageName) (leg : Leg) (p : Int) (it : CarriageItem) : Int × (Int × Int) :=
  let tm := s.timing n.corridor
  let u : Int := (s.car n).u
  let d : Int := stopDistance it.decel tm.reaction tm.vmax
  match leg.dir with
  | .south =>
    let horizon := min (p + it.length + d + tm.margin + u) (leg.target + it.length + u)
    (horizon, (p - u, max horizon (p + it.length + u)))
  | .north =>
    let horizon := max (p - d - tm.margin - u) (leg.target - u)
    (horizon, (min horizon (p - u), p + it.length + u))

/-- The request list: the segments in use that meet the stretch and that the carriage does not hold, from near to far. -/
def requestList (s : State) (n : CarriageName) (dir : Dir) (r : Int × Int) : List Nat :=
  let l := (s.segsMeeting n.corridor r).filter fun k => !(s.seg n.corridor k).holds n
  match dir with
  | .south => l
  | .north => l.reverse

/-! ## The judgement (R80) -/

/-- Whether a segment lies next to the end of a run: the end toward a direction. -/
def nextTo (run : List Nat) (dir : Dir) (k : Nat) : Bool :=
  match dir with
  | .south => run.getLast?.any fun e => decide (k = e + 1)
  | .north => run.head?.any fun e => decide (k + 1 = e)

/-- The tests of R80 that do not look at the run. The unit mode and the hold are tested before the request is taken (R81). -/
def openTo (s : State) (n : CarriageName) (k : Nat) : Bool :=
  let g := s.seg n.corridor k
  s.segInUse n.corridor k && g.fence.isNone && g.running.isNone
    && (match g.standing with | none => true | some m => decide (m = n))

/-- A grant: the running layer becomes the carriage's, and its standing layer NONE (R80). -/
def grant (s : State) (n : CarriageName) (dir : Dir) (k : Nat) : State :=
  s.modSeg n.corridor k fun g => { g with running := some (n, dir), standing := none }

def opposite : Dir → Dir
  | .north => .south
  | .south => .north

/-- A segment lies next to the far end of a carriage's held run, or, when it holds none, meets its uncertain footprint (R80). -/
def reachable (s : State) (n : CarriageName) (dir : Dir) (k : Nat) : Bool :=
  if (s.heldRun n).isEmpty then
    (match s.uncertain n with | some r => s.layout.segMeets n.corridor k r | none => false)
  else nextTo (s.heldRun n) dir k

/-- A segment lies next to the near end of a carriage's held run (R80). -/
def nearSide (s : State) (n : CarriageName) (dir : Dir) (k : Nat) : Bool := nextTo (s.heldRun n) (opposite dir) k

/-- The table takes the list in order (R80); it answers the segment it stopped at, where there is one, and a near-side segment it refuses
is none (log 69). -/
def judge (n : CarriageName) (dir : Dir) : List Nat → State → State × Option Nat
  | [], s => (s, none)
  | k :: rest, s =>
    if s.reachable n dir k && s.openTo n k then judge n dir rest (s.grant n dir k)
    else if s.nearSide n dir k then
      if s.openTo n k then judge n dir rest (s.grant n dir k)
      else if (s.seg n.corridor k).namesOther n then
        judge n dir rest (s.setFence n.corridor k (.auto .restartOverlap))
      else judge n dir rest s
    else (s, some k)

/-- The work a waiting carriage does, on whose behalf a free carriage is shifted (R85); for one that waits on a shift of its own, the
work that shift runs for (log 50). -/
def workOf (s : State) (n : CarriageName) : Option Work :=
  match (s.car n).assigned with
  | some id => some (.order id)
  | none =>
    match (s.car n).task with
    | some k => if k.kind = .homing then some (.homing n) else k.work
    | none => none

/-- Asks the allocator to shift a free carriage clear of the segment another waits for (R85). -/
def askShift (s : State) (n : CarriageName) (k : Nat) : State :=
  let g := s.seg n.corridor k
  match g.standing, s.layout.segSpan n.corridor k with
  | some m, some span =>
    if g.fence.isNone && g.running.isNone && decide (m ≠ n) && s.isFree m then
      match planShifts s n span (some m) with
      | some l => giveShifts (s.workOf n) l s
      | none => s
    else s
  | _, _ => s

/-- A grant request for a carriage (R80, R81, R118). A carriage that is neither RUNNING nor HOMING makes none; under the corridor
hold and in CONFIGURING none is taken; a RUNNING carriage without a leg has no work to ask for (log 26). -/
def grantRequest (s : State) (n : CarriageName) : State :=
  let v := s.car n
  if v.state = .running ∨ v.state = .homing then
    if s.mode = .configuring ∨ s.hold n.corridor = true then s.unwait n
    else
      match s.item n, v.p, v.leg with
      | some it, some p, some leg =>
        let req := s.requestStretch n leg p it
        let list := s.requestList n leg.dir req.2
        let s1 := s.modCar n fun w => { w with horizon := some req.1, requestList := list }
        match judge n leg.dir list s1 with
        | (s2, none) => s2.unwait n
        | (s2, some k) => (s2.waitAt n k).askShift n k
      | _, _, _ => s.unwait n
  else s

/-- The carriages waiting at a segment retry (R82). Of two, either may be taken first: a free value decides (log 17). -/
def retry (s : State) (c : Corridor) (k : Nat) : State :=
  match (s.seg c k).waiting with
  | [] => s
  | [a] => s.grantRequest a
  | a :: b :: _ =>
    let s1 := { s with free := s.free + 1 }
    if Config.higherOrdinalFirst s.free then (s1.grantRequest b).grantRequest a
    else (s1.grantRequest a).grantRequest b

def retryAll (c : Corridor) (l : List Nat) (s : State) : State := l.foldl (fun t k => t.retry c k) s

/-! ## Releases, conversions, seating -/

/-- Clears the layers that name a carriage on the listed segments. -/
def clearLayers (s : State) (n : CarriageName) (l : List Nat) : State :=
  l.foldl (fun t k => t.modSeg n.corridor k fun g => g.clearOf n) s

/-- Whether every position of a segment lies on the near side of a stretch, going in a direction (R83); a segment without derived
boundaries is not behind (log 13). -/
def whollyBehind (s : State) (n : CarriageName) (dir : Dir) (r : Int × Int) (k : Nat) : Bool :=
  match s.layout.segSpan n.corridor k with
  | none => false
  | some (a, b) =>
    match dir with
    | .south => decide (b < r.1)
    | .north => decide (r.2 < a)

/-- Release behind (R83): from the near end up to the first held segment that is not behind; all of them are released, then the carriages
waiting at them retry (log 70). -/
def releaseBehind (s : State) (n : CarriageName) : State :=
  match (s.car n).dir, s.uncertain n with
  | some dir, some r =>
    let run := s.heldRun n
    let fromNear := match dir with | .south => run | .north => run.reverse
    let gone := fromNear.takeWhile fun k => s.whollyBehind n dir r k
    retryAll n.corridor gone (s.clearLayers n gone)
  | _, _ => s

/-- Seats one segment (R93): standing where no layer names another carriage, else an overlap fence. -/
def seatOne (n : CarriageName) (s : State) (k : Nat) : State :=
  if (s.seg n.corridor k).namesOther n then s.setFence n.corridor k (.auto .restartOverlap)
  else s.modSeg n.corridor k fun g => { g with standing := some n }

/-- A held segment moves to the standing layer (R84). -/
def toStanding (n : CarriageName) (s : State) (k : Nat) : State :=
  s.modSeg n.corridor k fun g =>
    { g with running := if g.running.map (·.1) = some n then none else g.running, standing := some n }

/-- A carriage's running layer on a segment: it becomes NONE when the segment is converted or seated anew, which the waiting
carriages hear of (R82). -/
def runsOn (s : State) (n : CarriageName) (k : Nat) : Bool := decide ((s.seg n.corridor k).running.map (·.1) = some n)

/-- Conversion at standstill (R84): the layers, the retries at every segment released or left by a running layer (R82, log 70), then the
seating on the segments not held. A segment held that is not in use is treated like the others (log 71). -/
def convert (s : State) (n : CarriageName) : State :=
  let run := s.heldRun n
  match s.uncertain n with
  | none => retryAll n.corridor (run.filter (s.runsOn n)) ((run.foldl (toStanding n) s).unwait n)
  | some r =>
    let kept := run.filter fun k => s.layout.segMeets n.corridor k r
    let gone := run.filter fun k => !s.layout.segMeets n.corridor k r
    let fresh := (s.segsMeeting n.corridor r).filter fun k => !run.contains k
    let s1 := (kept.foldl (toStanding n) (s.clearLayers n gone)).unwait n
    fresh.foldl (seatOne n) (retryAll n.corridor (run.filter fun k => gone.contains k || s.runsOn n k) s1)

/-- Seating of one carriage (R93), then the retries at every segment it gave up or held in a running layer (R82; the order is log 61). -/
def seat (s : State) (n : CarriageName) : State :=
  let run := s.heldRun n
  let s1 := (s.clearLayers n run).unwait n
  if (s.car n).state = .unplaced then retryAll n.corridor run s1
  else
    match s.uncertain n with
    | none => retryAll n.corridor run s1
    | some r =>
      let met := s1.segsMeeting n.corridor r
      retryAll n.corridor (run.filter fun k => !met.contains k || s.runsOn n k) (met.foldl (seatOne n) s1)

/-- The carriages of a corridor that want a segment at a seating of all together (R11 step 2). -/
def wanting (s : State) (c : Corridor) (k : Nat) : List CarriageName :=
  (s.carsOf c).filter fun n =>
    decide ((s.car n).state ≠ .unplaced) &&
      match s.uncertain n with
      | some r => s.layout.segMeets c k r
      | none => false

/-- One segment of that building. -/
def seatWanted (c : Corridor) (s : State) (k : Nat) : State :=
  match s.wanting c k with
  | [] => s
  | [n] => s.modSeg c k fun g => { g with standing := some n }
  | _ :: _ :: _ => s.setFence c k (.auto .restartOverlap)

/-- Clears every running layer, standing layer and waiting set of a corridor (R93, R94). -/
def clearTrack (s : State) (c : Corridor) : State :=
  { s with
    segments := s.segments.set c
      ((s.segments.get c).mapValues fun _ g => { g with running := none, standing := none, waiting := [] }) }

/-- Seats all carriages of a corridor together (R11 step 2, R93, R94), segment by segment from the north (log 62). -/
def seatAll (s : State) (c : Corridor) : State :=
  (s.segsInUse c).foldl (seatWanted c) (s.clearTrack c)

/-- MODE RUN drops the fences of records at or beyond the segment count (R11 step 1), by rising number (log 62). -/
def dropStaleFences (s : State) (c : Corridor) : State :=
  ((s.segments.get c).entries.filter fun e => e.2.fence.isSome && decide (s.layout.segCount c ≤ e.1)).foldl
    (fun t e => t.liftFence c e.1) s

/-- Lifts every CARRIAGE_LOST fence set for a carriage, and answers the segments it lifted (R66, R92). -/
def lostFences (s : State) (n : CarriageName) : List Nat :=
  ((s.segments.get n.corridor).entries.filter fun e => decide (e.2.fence = some (.auto (.carriageLost n)))).map (·.1)

/-- Fences every segment a carriage holds with reason CARRIAGE_LOST (R92), by rising number (log 62). -/
def fenceHeld (s : State) (n : CarriageName) : State :=
  (s.heldRun n).foldl (fun t k => t.setFence n.corridor k (.auto (.carriageLost n))) s

end State

end Sys2Proof.Machine
end

