-- ==== Sys2Proof/Machine/Orders.lean ====
section
/-! DEFINITION. The order book: mouths and end-most benches (R19, R39), source readiness (R47), and the end of an order (R53, R54). -/

namespace Sys2Proof.Machine

/-- Whether the mouth end of a lane at a corridor's mouth is the end of index 0 (R19): all but the T mouth of a BAY lane. -/
def frontEnd (k : LaneKind) (c : Corridor) : Bool := !(decide (k = .bay) && decide (c = .t))

namespace State

/-- The end-most bench at a lane's mouth on a corridor (R19). -/
def endMost (s : State) (laneNo : Nat) (c : Corridor) : Option Nat :=
  match s.laneItem laneNo with
  | none => none
  | some it => if frontEnd it.kind c then (s.lane laneNo).benches.head? else (s.lane laneNo).benches.getLast?

/-- A bench joins a lane's list at the mouth end (R19); in a lane without a LANE item, at index 0 (log 43). -/
def joinAt (s : State) (laneNo : Nat) (c : Corridor) (b : Nat) : State :=
  let kind := ((s.laneItem laneNo).map (·.kind)).getD .buffer
  s.modLane laneNo fun v => { v with benches := if frontEnd kind c then b :: v.benches else v.benches ++ [b] }

/-- A bench leaves a lane's list, and the others keep their order (R19, R32). -/
def leaveLane (s : State) (laneNo : Nat) (b : Nat) : State :=
  s.modLane laneNo fun v => { v with benches := v.benches.erase b }

/-- The dock point of the mouth of a lane on a corridor. -/
def dock (s : State) (laneNo : Nat) (c : Corridor) : Option Int := (s.mouth laneNo c).map fun m => (m.dock : Int)

/-- The lane of an order's next transfer (R128): the source lane in FETCHING, the destination in CARRYING. -/
def nextLane (o : Order) : Option Nat :=
  match o.phase with
  | .fetching => o.srcLane
  | .carrying => some o.dest
  | _ => none

/-- The target of the leg of an order's carriage (R116). -/
def orderTarget (s : State) (o : Order) : Option Int := (nextLane o).bind fun l => s.dock l o.corridor

/-- Another live order with a pull at the same mouth is in ASSIGNED, FETCHING or PULLING (R47). -/
def pullPending (s : State) (o : Order) : Bool :=
  s.book.any fun q =>
    decide (q.id ≠ o.id) && decide (q.corridor = o.corridor) && decide (q.srcLane = o.srcLane) && q.srcLane.isSome
      && (decide (q.phase = .assigned) || decide (q.phase = .fetching) || decide (q.phase = .pulling))

/-- The source of an order is ready (R47). -/
def sourceReady (s : State) (o : Order) : Bool :=
  match o.source, o.srcLane with
  | .bench n, some l => decide (s.endMost l o.corridor = some n) && !s.pullPending o
  | .laneEnd _, some l =>
    (match s.endMost l o.corridor with
     | some b => (s.claimOf b).isNone
     | none => false) && !s.pullPending o
  | .aboard n, _ => decide ((s.car n).state = .idle)
  | _, none => false

/-- Incoming count down by one. -/
def decIncoming (s : State) (l : Nat) : State := s.modLane l fun v => { v with incoming := v.incoming - 1 }

/-- Outgoing count down by one. -/
def decOutgoing (s : State) (l : Nat) : State := s.modLane l fun v => { v with outgoing := v.outgoing - 1 }

/-- Clears the claim of an order on a bench, where the bench carries it (R53). -/
def unclaim (s : State) (b : Nat) (id : Nat) : State :=
  s.modBench b fun v => if v.claim = some id then { v with claim := none } else v

/-- The returns of R53, by the state at the end. On DONE both counts are spent. -/
def giveBack (s : State) (o : Order) (st : EndState) : State :=
  let s1 := match o.bench with | some b => s.unclaim b o.id | none => s
  let s2 :=
    match o.phase, o.srcLane with
    | .queued, some l | .assigned, some l | .fetching, some l | .pulling, some l => s1.decOutgoing l
    | _, _ => s1
  if st = .done then s2 else s2.decIncoming o.dest

/-- The carriage of an ended order has it no longer; the leg of one that runs ends with it, and a HALTED carriage keeps its leg (R53,
R75, R116). -/
def unassign (s : State) (n : CarriageName) (id : Nat) : State :=
  if (s.car n).assigned = some id then
    s.modCar n fun v =>
      { v with assigned := none, leg := if v.state = .running then none else v.leg }
  else s

/-- The end of an order (R53, R54): returns, the carriage's assigned order, the ENDED notice and event, then it leaves the book. -/
def endOrder (s : State) (id : Nat) (st : EndState) (reason : Option EndReason) : State :=
  match s.order? id with
  | none => s
  | some o =>
    let s1 := s.giveBack o st
    let s2 := match o.carriage with | some n => s1.unassign n id | none => s1
    let s3 := s2.offer ⟨.ended id st reason o.bench, some o.corridor, o.bench.map fun _ => o.dest, o.bench, some o.link⟩
    let s4 := { s3 with book := s3.book.filter fun q => decide (q.id ≠ id) }
    let bay := s4.isBay o.dest || (match o.srcLane with | some l => s4.isBay l | none => false)
    if bay then (s4.owe o.corridor).owe o.corridor.other else s4.owe o.corridor

end State

end Sys2Proof.Machine
end

