-- ==== Sys2Proof/Machine/Carriages.lean ====
section
/-! DEFINITION. Carriage transitions: becoming HOMING (R109, R110), becoming FAULTED (R64), the end of a shift (R73), becoming IDLE
(R63), the withdrawal of a carriage from its work (R56, R75), interruption (R138) and faults with their effect on orders (R51). -/

namespace Sys2Proof.Machine

namespace State

/-! ## The expected gate (R109) -/

/-- The in-service gates in use of a corridor with their positions, from the north. -/
def serviceGates (s : State) (c : Corridor) : List (Nat × Int) :=
  (s.layout.gates.get c).keys.filterMap fun k =>
    if (s.gate c k).service = .inService then (s.layout.gatePos c k).map fun g => (k, (g : Int)) else none

/-- The gates in the order a carriage going in a direction would meet them. -/
def gatesAlong (s : State) (c : Corridor) : Dir → List (Nat × Int)
  | .south => s.serviceGates c
  | .north => (s.serviceGates c).reverse

/-- At or beyond a point in a direction. -/
def atOrBeyond (dir : Dir) (x y : Int) : Bool :=
  match dir with
  | .south => decide (x ≤ y)
  | .north => decide (y ≤ x)

/-- The expected gate of a carriage with a position (R109), and whether the identification is ambiguous. -/
def expectedGate (s : State) (n : CarriageName) : Option ((Nat × Int) × Bool) :=
  match s.item n, s.footprint n with
  | some it, some r =>
    let c := n.corridor
    let u : Int := (s.car n).u
    let f := frontOf r it.home
    let from_ := match it.home with | .south => f - u | .north => f + u
    let along := (s.gatesAlong c it.home).dropWhile fun g => !atOrBeyond it.home from_ g.2
    let ends := fun g : Nat × Int => decide (g.1 = 0) || decide (g.1 = s.layout.segCount c)
    let rest := along.dropWhile fun g => ends g || decide ((s.gate c g.1).level = .present)
    match rest with
    | [] => none
    | g :: [] => some (g, false)
    | g :: h :: _ => some (g, decide (((h.2 - g.2).natAbs : Int) ≤ 2 * u + ((s.timing c).tol : Int)))
  | _, _ => none

/-! ## Becoming FAULTED (R64) -/

/-- A shifted carriage faulted: it leaves the waiting-for set, and the work it ran for does not start (R73, log 30). -/
def shiftFailed (s : State) (n : CarriageName) : State :=
  match (s.carsOf n.corridor).find? fun w =>
      match (s.car w).task with | some k => k.waitingFor.contains n | none => false with
  | none => s.owe n.corridor
  | some w =>
    let s1 :=
      match (s.car w).assigned with
      | some id => s.modOrder id fun o => { o with phase := .queued, carriage := none }
      | none => s
    (s1.modCar w fun v => { v with task := none, assigned := none }).owe n.corridor

/-- A lock wait is withdrawn (R131). -/
def withdrawWait (s : State) (n : CarriageName) : State :=
  match (s.car n).docked with
  | some l => if (s.lane l).waiting = some n then s.modLane l fun v => { v with waiting := none } else s
  | none => s

/-- The carriage's own part of becoming FAULTED (R64): the task ends, the remembered state, leg and homing fields are dropped. -/
def enterFaulted (s : State) (n : CarriageName) (kind : FaultKind) (code : Option Nat) : State :=
  let s1 := ((s.withdrawWait n).unwait n).modCar n fun v =>
    { v with
      state := .faulted, faultKind := some kind, faultCode := code, remembered := none, task := none, leg := none
      homing := none, docked := none }
  let s2 := if (s.car n).onShift then s1.shiftFailed n else s1
  s2.owe n.corridor

/-- A carriage becomes HOMING (R110): the expected gate is identified and recorded, or the carriage faults at once. -/
def enterHoming (s : State) (n : CarriageName) : State :=
  match s.item n, s.expectedGate n with
  | some it, some (g, false) =>
    let tol : Int := (s.timing n.corridor).tol
    let target : Int := match it.home with | .south => g.2 + tol - it.length | .north => g.2 - tol
    s.modCar n fun v =>
      { v with state := .homing, homing := some ⟨g.1, target, s.millis⟩, leg := some ⟨target, it.home⟩ }
  | _, _ => (s.enterFaulted n .homingFailed none).notifyAll (.fault n .homingFailed none)

/-! ## The end of a shift (R73) and becoming IDLE (R63) -/

/-- The carriage of an order out of QUEUED or ASSIGNED starts (R46, R72): FETCHING, or CARRYING for an ABOARD source. -/
def startOrder (s : State) (n : CarriageName) : State :=
  match (s.car n).assigned with
  | none => s
  | some id =>
    let s1 := s.modOrder id fun o =>
      { o with phase := match o.source with | .aboard _ => .carrying | _ => .fetching }
    let s2 := s1.modCar n fun v => { v with state := .running }
    match (s2.order? id).bind s2.orderTarget with
    | some t => s2.beginLeg n t
    | none => s2

/-- Waiting work starts (R73). -/
def startWork (s : State) (n : CarriageName) : State :=
  match (s.car n).task with
  | some k =>
    match k.kind with
    | .order => s.startOrder n
    | .homing => s.enterHoming n
    | .shift => s
  | none => s

/-- A shift ends: its carriage leaves the waiting-for set of the work it ran for, which starts when the set is empty (R73). -/
def endShift (s : State) (n : CarriageName) : State :=
  let s0 := s.owe n.corridor
  match (s0.carsOf n.corridor).find? fun w =>
      match (s0.car w).task with | some k => k.waitingFor.contains n | none => false with
  | none => s0
  | some w =>
    let s1 := s0.modCar w fun v =>
      { v with task := v.task.map fun k => { k with waitingFor := k.waitingFor.filter fun m => decide (m ≠ n) } }
    match (s1.car w).task with
    | some k => if k.waitingFor.isEmpty then s1.startWork w else s1
    | none => s1

/-- A carriage becomes IDLE where it stands (R63): its task ends, its run is converted (R84), and a shift it ran ends (R73). -/
def becomeIdle (s : State) (n : CarriageName) : State :=
  let s1 := s.modCar n fun v =>
    { v with state := .idle, remembered := none, task := none, leg := none, docked := none }
  let s2 := (s1.convert n).owe n.corridor
  if (s.car n).onShift then s2.endShift n else s2

/-- What an order's end leaves its carriage with (R56, R57, R75): by its state. -/
def withdraw (s : State) (n : CarriageName) : State :=
  match (s.car n).state with
  | .idle => s.modCar n fun v => { v with task := none }
  | .docked => (s.withdrawWait n).becomeIdle n
  | .halted => s.modCar n fun v => { v with remembered := some .idle }
  | _ => s

/-- The carriage that an order holds: the one whose assigned order it is (R48). -/
def holder (s : State) (o : Order) : Option CarriageName :=
  o.carriage.bind fun n => if (s.car n).assigned = some o.id then some n else none

/-! ## Interruption (R138) and faults -/

/-- An order that claims the bench a pull on a corridor takes ends CANCELLED first (R136). At the pull's own mouth it is still waiting
and has no carriage (R47); at the other mouth of a BAY lane its carriage may be on its way or DOCKED, and gives up its work (R75). -/
def cancelClaimant (s : State) (c : Corridor) (b : Nat) (puller : Nat) : State :=
  match s.claimOf b with
  | some id =>
    if id = puller then s
    else
      let s1 := s.endOrder id .cancelled none
      match (s.order? id).bind s.holder with
      | some n => if n.corridor = c then s1 else s1.withdraw n
      | none => s1
  | none => s

/-- The bench of an interrupted transfer is left straddling (R138); the lock stays, the record and mark are dropped. -/
def leaveStraddling (s : State) (n : CarriageName) (tr : Transfer) : State :=
  let s1 :=
    match tr.kind with
    | .pull => ((s.cancelClaimant n.corridor tr.bench tr.order).leaveLane tr.lane tr.bench).modOrder tr.order fun o =>
        { o with bench := some tr.bench }
    | .push => s
  let s2 := s1.moveBench tr.bench (.straddling n tr.lane n.corridor)
  (s2.modCar n fun v => { v with load := .straddled, transfer := none, mark := none }).oweAt n.corridor tr.lane

/-- A fault of a carriage up to its notice (R64, R51, R138): answers the new state and the notice's kind and code where one is due.
`ending` is the end of the order of an interrupted transfer. -/
def faultCore (s : State) (n : CarriageName) (kind : FaultKind) (code : Option Nat) (ending : EndState) :
    State × Option (FaultKind × Option Nat) :=
  if (s.car n).state = .faulted then
    match (s.car n).faultKind with
    | some old =>
      if old.rank < kind.rank then
        (s.modCar n fun v => { v with faultKind := some kind, faultCode := none }, some (kind, none))
      else (s, none)
    | none => (s.modCar n fun v => { v with faultKind := some kind, faultCode := code }, some (kind, code))
  else
    let s1 :=
      match (s.car n).state, (s.car n).transfer with
      | .transferring, some tr =>
        (s.leaveStraddling n tr).endOrder tr.order ending (if ending = EndState.failed then some .interrupted else none)
      | _, _ =>
        match (s.car n).assigned with
        | some id => s.endOrder id .failed (some .carriageFault)
        | none => s
    (s1.enterFaulted n kind code, some (kind, code))

/-- Queues the FAULT notice of a fault that is due one (R64, R162). -/
def faultNotice (n : CarriageName) (r : State × Option (FaultKind × Option Nat)) : State :=
  match r.2 with
  | some (k, code) => r.1.notifyAll (.fault n k code)
  | none => r.1

/-- A carriage becomes FAULTED, or a second fault raises its kind (R64). -/
def fault (s : State) (n : CarriageName) (kind : FaultKind) (code : Option Nat) : State :=
  faultNotice n (s.faultCore n kind code .failed)

/-- A link loss (R92, R149): the segments the carriage holds are fenced before the FAULT notice goes out. -/
def faultLost (s : State) (n : CarriageName) : State :=
  let r := s.faultCore n .linkLost none .failed
  faultNotice n (r.1.fenceHeld n, r.2)

end State

end Sys2Proof.Machine
end

