-- ==== Sys2Proof/Machine/Transfers.lean ====
section
/-! DEFINITION. The transfer unit (chapter 8): docking and the lane lock (R128 to R131), the start of a transfer (R132), its outcomes
(R133 to R137), and the tag recognizer and reading slot (R140, R141). -/

namespace Sys2Proof.Machine

/-! ## Tag reading -/

/-- A byte in HUNT (R140). -/
def huntByte (count b : Nat) : Recognizer :=
  if b = 165 then .hunt (min 3 (count + 1))
  else if b = 90 ∧ count = 3 then .body []
  else .hunt 0

/-- The recognizer takes one byte (R140), and answers the number of a telegram that completes and is valid. -/
def recognize (r : Recognizer) (b : Nat) : Recognizer × Option Nat :=
  match r with
  | .hunt count => (huntByte count b, none)
  | .body bytes =>
    let first := bytes.take 2
    let expected := first.getD (bytes.length % 2) b
    if bytes.length < 2 ∨ b = expected then
      if bytes.length + 1 < 8 then (.body (bytes ++ [b]), none)
      else
        let number := 256 * bytes.getD 0 0 + bytes.getD 1 0
        (.hunt 0, if 1 ≤ number ∧ number ≤ 4000 then some number else none)
    else (huntByte 0 b, none)

namespace State

/-- A valid tag telegram is handed on (R141). -/
def takeReading (s : State) (n : CarriageName) (number : Nat) : State :=
  let v := s.car n
  if v.state = .transferring then
    match v.slot with
    | none => s.modCar n fun w => { w with slot := some number }
    | some _ => s.modCar n fun w => { w with slotOverrun := true }
  else s.notifyAll (.strayRead n number)

/-- One reader byte (R140, R151). -/
def takeByte (n : CarriageName) (s : State) (b : Nat) : State :=
  let r := recognize (s.car n).recognizer b
  let s1 := s.modCar n fun v => { v with recognizer := r.1 }
  match r.2 with
  | some number => s1.takeReading n number
  | none => s1

/-- The reader bytes of an answer, in order (R151). -/
def takeBytes (s : State) (n : CarriageName) (l : List Nat) : State := l.foldl (takeByte n) s

/-! ## The lane lock and the start of a transfer -/

/-- A transfer starts (R132). -/
def startTransfer (s : State) (n : CarriageName) : State :=
  let v := s.car n
  let c := n.corridor
  match v.docked, v.assigned.bind s.order? with
  | some l, some o =>
    let kind : TransferKind := if o.phase = .carrying then .push else .pull
    let bench := match kind with | .pull => s.endMost l c | .push => v.load.bench?
    match bench, s.mouth l c with
    | some b, some m =>
      let s1 := s.modCar n fun w =>
        { w with
          slot := none, slotOverrun := false
          transfer := some ⟨kind, l, m.side, o.id, b, decide (kind = .push), s.millis⟩
          mark := some ⟨l, c, b⟩
          docked := none
          state := .transferring }
      s1.modOrder o.id fun q => { q with phase := match kind with | .pull => .pulling | .push => .pushing }
    | _, _ => s
  | _, _ => s

/-- A docked carriage makes its lock request (R129). -/
def lockRequest (s : State) (n : CarriageName) : State :=
  match (s.car n).docked with
  | none => s
  | some l =>
    if s.isBay l then
      match (s.lane l).lock with
      | none => (s.modLane l fun v => { v with lock := some n.corridor }).startTransfer n
      | some _ => s.modLane l fun v => { v with waiting := some n }
    else s.startTransfer n

/-- The lock of a BAY lane is released, and passes to the waiting carriage, whose transfer starts (R130). -/
def releaseLock (s : State) (l : Nat) : State :=
  if s.isBay l then
    match (s.lane l).waiting with
    | some w => (s.modLane l fun v => { v with lock := some w.corridor, waiting := none }).startTransfer w
    | none => s.modLane l fun v => { v with lock := none }
  else s

/-- Docking (R128). -/
def dockAt (s : State) (n : CarriageName) (l : Nat) : State :=
  ((s.modCar n fun v => { v with state := .docked, leg := none, docked := some l }).convert n).lockRequest n

/-! ## Outcomes -/

/-- The identity a reading gives a moved bench (R134). -/
def readIdentity (slot : Option Nat) (bench : Nat) (gearFailed : Bool) : Identity :=
  match slot with
  | none => .unread
  | some r => if r = bench then (if gearFailed then .unread else .verified) else .doubtful (some r)

/-- Sets the identity of a bench. -/
def setIdentity (s : State) (b : Nat) (i : Identity) : State := s.modBench b fun v => { v with identity := i }

/-- Offers an IDENTITY event for a bench set DOUBTFUL or UNREAD (R134). -/
def offerIdentity (s : State) (c : Corridor) (l b : Nat) (i : Identity) : State :=
  if i = .verified then s else s.offer ⟨.identity b i, some c, some l, some b, none⟩

/-- The transfer record is dropped and the transfer mark cleared (R133). -/
def endTransfer (s : State) (n : CarriageName) : State :=
  s.modCar n fun v => { v with transfer := none, mark := none }

/-- A pull brought the bench aboard (R135, R49). The IDENTITY event is offered before DEPARTED (log 19). -/
def pullDone (s : State) (n : CarriageName) (tr : Transfer) (gearFailed : Bool) : State :=
  let c := n.corridor
  let ident := readIdentity (s.car n).slot tr.bench gearFailed
  let s1 := ((s.cancelClaimant c tr.bench tr.order).leaveLane tr.lane tr.bench).decOutgoing tr.lane
  let s2 := (s1.moveBench tr.bench (.aboard n)).setIdentity tr.bench ident
  let s3 :=
    match s2.order? tr.order with
    | some o =>
      match o.source with
      | .laneEnd _ => s2.modBench tr.bench fun v => { v with claim := some o.id }
      | _ => s2
    | none => s2
  let s4 := s3.modOrder tr.order fun o => { o with phase := .carrying, bench := some tr.bench }
  let s5 := (s4.endTransfer n).modCar n fun v => { v with load := .bench tr.bench, state := .running }
  let s6 :=
    match (s5.order? tr.order).bind s5.orderTarget with
    | some t => s5.beginLeg n t
    | none => s5
  let s7 := (s6.offerIdentity c tr.lane tr.bench ident).offer
    ⟨.departed tr.lane tr.bench, some c, some tr.lane, some tr.bench, none⟩
  (s7.releaseLock tr.lane).oweAt c tr.lane

/-- An outcome that ends the order and leaves the carriage IDLE at the mouth (R63, R135, R137). -/
def endAtMouth (s : State) (n : CarriageName) (tr : Transfer) (st : EndState) (reason : Option EndReason) : State :=
  ((((s.endTransfer n).endOrder tr.order st reason).becomeIdle n).releaseLock tr.lane).oweAt n.corridor tr.lane

/-- A pull that was done with the load still EMPTY (R135). -/
def pullNothing (s : State) (n : CarriageName) (tr : Transfer) : State :=
  let s1 := s.setIdentity tr.bench (.doubtful none)
  (s1.offerIdentity n.corridor tr.lane tr.bench (.doubtful none)).endAtMouth n tr .failed (some .nothingPulled)

/-- A push put the bench into the lane (R137, R50). -/
def pushDone (s : State) (n : CarriageName) (tr : Transfer) (gearFailed : Bool) : State :=
  let c := n.corridor
  let ident := readIdentity (s.car n).slot tr.bench gearFailed
  let s1 := (s.joinAt tr.lane c tr.bench).decIncoming tr.lane
  let s2 := (s1.moveBench tr.bench (.inLane tr.lane)).setIdentity tr.bench ident
  let s3 := s2.modCar n fun v => { v with load := .empty }
  let s4 := (s3.offerIdentity c tr.lane tr.bench ident).offer
    ⟨.arrived tr.lane tr.bench, some c, some tr.lane, some tr.bench, none⟩
  s4.endAtMouth n tr .done none

/-- The outcome of a transfer (R133, R135, R137): the load in the answer judges it. -/
def transferOutcome (s : State) (n : CarriageName) (tr : Transfer) (gearFailed loaded : Bool) : State :=
  match tr.kind, gearFailed, loaded with
  | .pull, g, true => s.pullDone n tr g
  | .pull, false, false => s.pullNothing n tr
  | .pull, true, false => s.endAtMouth n tr .failed (some .transferFailed)
  | .push, g, false => s.pushDone n tr g
  | .push, false, true => s.endAtMouth n tr .failed (some .notReleased)
  | .push, true, true => s.endAtMouth n tr .failed (some .transferFailed)

end State

end Sys2Proof.Machine
end

