-- ==== Sys2Proof/Machine/Allocator.lean ====
section
/-! DEFINITION. The allocator of a corridor (R69 to R74): homings first, then orders in candidate order; and the settling of the runs
an event owes (log 15). -/

namespace Sys2Proof.Machine

namespace State

/-! ## Homings (R74) -/

/-- A carriage needs a homing (R74). -/
def needsHoming (s : State) (n : CarriageName) : Bool :=
  let v := s.car n
  s.hasRecord n && (decide (v.state = .unhomed) || (s.isFree n && v.rehome))
    && decide (v.link = .up) && decide (v.load ≠ .straddled) && v.task.isNone

/-- A homing's travel interval (R74, R109): to the expected gate with tol and u, or the present uncertain footprint alone. -/
def homingInterval (s : State) (n : CarriageName) : Option (Int × Int) :=
  match s.item n, s.uncertain n with
  | some it, some now =>
    match s.expectedGate n with
    | some (g, _) =>
      let d : Int := ((s.timing n.corridor).tol : Int) + (s.car n).u
      let e := match it.home with | .south => g.2 + d | .north => g.2 - d
      some (hull now (e, e))
    | none => some now
  | _, _ => none

/-- Starts the homing of one carriage where it needs one and it can start (R74). -/
def tryHoming (s : State) (n : CarriageName) : State :=
  if s.needsHoming n then
    match s.homingInterval n with
    | none => s
    | some r =>
      if s.meetsBusy n.corridor r n || s.meetsObstacle n.corridor r (some n) then s
      else
        match planShifts s n r none with
        | none => s
        | some l =>
          let s1 := s.modCar n fun v => { v with task := some ⟨.homing, r.1, r.2, l.map (·.carriage), none, none⟩ }
          if l.isEmpty then s1.enterHoming n else giveShifts (some (.homing n)) l s1
  else s

/-! ## Orders (R70 to R72) -/

/-- Candidate order (R70): effective class, then placed-at stamp; equal ones keep their book order. -/
def before (a b : Order) : Bool :=
  decide (classRank a.eff < classRank b.eff) || (decide (a.eff = b.eff) && decide (a.placedAt < b.placedAt))

/-- Puts an order behind those that come before it or equal it. -/
def insertCandidate (o : Order) : List Order → List Order
  | [] => [o]
  | q :: rest => if before o q then o :: q :: rest else q :: insertCandidate o rest

def candidates (s : State) (c : Corridor) : List Nat :=
  ((s.book.filter fun o => decide (o.corridor = c) && decide (o.phase = .queued)).foldl
    (fun l o => insertCandidate o l) []).map (·.id)

/-- A carriage is suitable for an order (R71). -/
def suitable (s : State) (o : Order) (n : CarriageName) : Bool :=
  s.isFree n && !(s.car n).rehome &&
    match o.source with
    | .aboard m => decide (m = n) && (match (s.car n).load, o.bench with
        | .bench b, some b' => decide (b = b')
        | _, _ => false)
    | _ => decide ((s.car n).load = .empty)

/-- The travel interval of a carriage for an order (R71). -/
def travelInterval (s : State) (o : Order) (n : CarriageName) : Option (Int × Int) :=
  match s.item n, s.uncertain n, s.dock o.dest o.corridor with
  | some it, some now, some d =>
    let u : Int := (s.car n).u
    let stop := fun x : Int => (x - u, x + it.length + u)
    let r := hull now (stop d)
    match o.source, o.srcLane with
    | .aboard _, _ => some r
    | _, some l => (s.dock l o.corridor).map fun x => hull r (stop x)
    | _, none => none
  | _, _, _ => none

/-- Eligible (R72): the travel interval meets nothing busy and no obstacle. -/
def eligible (s : State) (o : Order) (n : CarriageName) : Bool :=
  s.suitable o n &&
    match s.travelInterval o n with
    | some r => !s.meetsBusy n.corridor r n && !s.meetsObstacle n.corridor r none
    | none => false

/-- The distance of a carriage's p to the source dock point (R72); 0 for an ABOARD order, whose carriage is named. -/
def sourceDistance (s : State) (o : Order) (n : CarriageName) : Nat :=
  match (s.car n).p, o.srcLane.bind fun l => s.dock l o.corridor with
  | some p, some d => (p - d).natAbs
  | _, _ => 0

/-- The nearest of a list by ordinal, a tie going to the lower ordinal (R72). -/
def nearest (s : State) (o : Order) : List CarriageName → Option CarriageName
  | [] => none
  | n :: rest =>
    match s.nearest o rest with
    | none => some n
    | some m => if s.sourceDistance o n ≤ s.sourceDistance o m then some n else some m

/-- Tests one candidate and gives it its carriage where it can start (R70, R72, R73). Where its shifts cannot be placed nothing changes,
so an ABOARD order keeps the carriage it names (R48, log 59). -/
def tryOrder (s : State) (id : Nat) : State :=
  match s.order? id with
  | none => s
  | some o =>
    if s.sourceReady o then
      match s.nearest o ((s.carsOf o.corridor).filter (s.eligible o)) with
      | none => s
      | some n =>
        match s.travelInterval o n with
        | none => s
        | some r =>
          match planShifts s n r none with
          | none => s
          | some l =>
            let s1 := s.modCar n fun v =>
              { v with task := some ⟨.order, r.1, r.2, l.map (·.carriage), none, none⟩, assigned := some id }
            if l.isEmpty then (s1.modOrder id fun q => { q with carriage := some n }).startOrder n
            else giveShifts (some (.order id)) l (s1.modOrder id fun q => { q with carriage := some n, phase := .assigned })
    else s

/-! ## The run (R69) and settling -/

/-- A run gives out no work in CONFIGURING, under an open loop or under the corridor hold (R69), nor before the corridor's first
polling cycle since the start is complete, whose telegrams carry HOLD (R17, R116, log 16). -/
def allocatorBlocked (s : State) (c : Corridor) : Bool :=
  decide (s.mode = .configuring) || s.loopOpen c || s.hold c || s.starting.get c

/-- A run of a corridor's allocator (R69): first the homings by ordinal, then the candidates. -/
def allocate (s : State) (c : Corridor) : State :=
  if s.allocatorBlocked c then s
  else
    let s1 := (s.carsOf c).foldl tryHoming s
    (s1.candidates c).foldl tryOrder s1

/-- The runs owed are taken; a run can owe another only by a homing that fails as it starts, at most once for each carriage,
so the rounds given here are more than enough (log 15). -/
def settleRounds : Nat → State → State
  | 0, s => { s with owed := ⟨false, false⟩ }
  | k + 1, s =>
    if s.owed.f || s.owed.t then
      let s0 := { s with owed := ⟨false, false⟩ }
      let s1 := if s.owed.f then s0.allocate .f else s0
      let s2 := if s.owed.t then s1.allocate .t else s1
      settleRounds k s2
    else s

/-- The allocator runs an event owes are taken (R69). -/
def settle (s : State) : State := settleRounds 8 s

end State

end Sys2Proof.Machine
end

