-- ==== Sys2Proof/Machine/Tracker.lean ====
section
/-! DEFINITION. The position tracker (chapter 6): odometer answers (R96 to R98, R115), gate edges (R101 to R105), misses (R106), the
success of a homing (R111). -/

namespace Sys2Proof.Machine

namespace State

/-! ## Marks and uncertainty -/

/-- Sets the re-home mark (R67, R98, R113); one set on a free carriage runs the allocator, whether or not it stood before (R69). -/
def setRehome (s : State) (n : CarriageName) : State :=
  let s1 := s.modCar n fun v => { v with rehome := true }
  if s.isFree n then s1.owe n.corridor else s1

/-- u computed afresh (R97) for a carriage that has a position: over the ceiling it becomes 1,500, and a carriage that is not
UNPLACED becomes FAULTED with kind POSITION_LOST (R115). -/
def refreshU (s : State) (n : CarriageName) : State :=
  let v := s.car n
  if v.p.isNone then s
  else
    let value := uValue v.uBase v.sinceCorrection (s.timing n.corridor).slip v.slip
    if value ≤ Config.maxU then s.modCar n fun w => { w with u := value }
    else
      let s1 := s.modCar n fun w => { w with u := Config.maxU }
      if v.state = .unplaced then s1 else s1.fault n .positionLost none

/-! ## Odometer answers -/

/-- The position an odometer count gives under an offset: their sum as a signed 32-bit value (R96, R125, log 18). -/
def positionOf (odometer : BitVec 32) (offset : Int) : Int := (odometer + BitVec.ofInt 32 offset).toInt

/-- The direction after an odometer change (R96). -/
def directionAfter (old : Option Dir) (change : Int) (speed : Nat) : Option Dir :=
  if 0 < change then some .south
  else if change < 0 then some .north
  else if speed = 0 then none
  else old

/-- Anchors, follows, or only notes an odometer count (R96); the returned mark is cleared (R149). Without a last count the change is 0
(log 72). -/
def trackOdometer (s : State) (n : CarriageName) (odo : BitVec 32) : State :=
  s.modCar n fun v =>
    let change : Int := match v.lastOdometer with | some last => (odo - last).toInt | none => 0
    let followed := directionAfter v.dir change v.speed
    let w := { v with lastOdometer := some odo, returned := false }
    match v.p, v.offset with
    | none, _ => { w with dir := followed }
    | some p, none => { w with offset := some (p - odo.toInt), dir := none }
    | some p, some off =>
      if v.returned then { w with offset := some (p - odo.toInt), dir := none }
      else
        { w with
          p := some (positionOf odo off)
          sinceCorrection := v.sinceCorrection + change.natAbs
          sinceHoming := v.sinceHoming + change.natAbs
          dir := followed }

/-- The end of the corridor a position lies more than u beyond, with p held there (R115). The southern end is known with the
corridor's length only (log 46). -/
def heldAtEnd (corridor : Option Nat) (p : Int) (length u : Nat) : Option Int :=
  if p < -(u : Int) then some 0
  else
    match corridor with
    | some e => if (e : Int) + u < p + length then some ((e : Int) - length) else none
    | none => none

/-- The third event of R115: a footprint more than u beyond an end of the corridor; p is held at that end. -/
def checkEnds (s : State) (n : CarriageName) : State :=
  let v := s.car n
  match v.p, s.item n with
  | some p, some it =>
    match heldAtEnd (s.layout.length.get n.corridor) p it.length v.u with
    | none => s
    | some q =>
      let s1 := s.modCar n fun w =>
        { w with p := some q, offset := match w.lastOdometer with | some odo => some (q - odo.toInt) | none => w.offset }
      s1.fault n .positionLost none
  | _, _ => s

/-- The re-home distance (R98): an answer at which the distance since homing reaches it sets the mark; one that grows on past it sets
nothing further (log 45). `before` is the distance at the answer's beginning. -/
def checkRehome (s : State) (n : CarriageName) (before : Nat) : State :=
  let threshold := s.layout.unit.rehome * 1000
  if before < threshold ∧ threshold ≤ (s.car n).sinceHoming then s.setRehome n else s

/-- A carriage is moving (R101). -/
def moving (s : State) (n : CarriageName) : Bool :=
  let v := s.car n
  s.hasRecord n && v.p.isSome && decide (v.link = .up) && v.dir.isSome
    && (decide (v.state = .running) || decide (v.state = .homing) || decide (0 < v.speed))

/-- How far a front lies past a gate in a direction. -/
def past (dir : Dir) (front gate : Int) : Int :=
  match dir with
  | .south => front - gate
  | .north => gate - front

/-- A gate is missed: its miss count rises, and at 3 it goes OUT_OF_SERVICE with a GATE_OUT notice (R106). -/
def missGate (c : Corridor) (s : State) (k : Nat) : State :=
  let count := (s.gate c k).misses + 1
  if count < 3 then s.modGate c k fun g => { g with misses := count }
  else (s.modGate c k fun g => { g with misses := 3, service := .outOfService }).notifyAll (.gateOut c k .missed)

/-- The gates a moving carriage's front has just passed by more than u + tol, found clear (R106), by rising index (log 64). -/
def missedGates (s : State) (n : CarriageName) (prev : Option (Int × Nat)) : List Nat :=
  let v := s.car n
  match s.moving n, v.dir, v.p, s.item n, prev with
  | true, some dir, some p, some it, some (p0, u0) =>
    let tol : Int := (s.timing n.corridor).tol
    let front := frontOf (p, p + it.length) dir
    let front0 := frontOf (p0, p0 + it.length) dir
    ((s.serviceGates n.corridor).filter fun g =>
      decide ((v.u : Int) + tol < past dir front g.2) && decide (past dir front0 g.2 ≤ (u0 : Int) + tol)
        && decide ((s.gate n.corridor g.1).level = .clear)).map (·.1)
  | _, _, _, _, _ => []

/-- A gate whose occupancy is attributed to a carriage that reports speed 0 takes the standstill-seen mark (R105). -/
def markStandstill (s : State) (n : CarriageName) : State :=
  if (s.car n).speed = 0 then
    { s with
      gates := s.gates.set n.corridor
        ((s.gates.get n.corridor).mapValues fun _ g => if g.attributed = some n then { g with standstill := true } else g) }
  else s

/-- The tracker's part of a valid answer (R147 step 3): the ends of the corridor (R115) are tested before the missed gates (R106, log
74). -/
def track (s : State) (n : CarriageName) (odo : BitVec 32) : State :=
  let prev := (s.car n).prevAnswer
  let s1 := ((s.trackOdometer n odo).refreshU n).checkEnds n
  let s2 := s1.checkRehome n (s.car n).sinceHoming
  let s3 := (s2.missedGates n prev).foldl (missGate n.corridor) s2
  let s4 := s3.markStandstill n
  s4.modCar n fun v => { v with prevAnswer := v.p.map fun p => (p, v.u) }

/-! ## Gate edges -/

/-- The front of a carriage carried forward from its latest answer (R101). -/
def carriedFront (s : State) (n : CarriageName) : Option Int :=
  let v := s.car n
  match s.footprint n, v.dir with
  | some r, some dir =>
    let ahead : Int := ((v.speed * (s.millis - v.lastAnswer.getD s.millis) / 1000 : Nat) : Int)
    some (match dir with | .south => r.2 + ahead | .north => r.1 - ahead)
  | _, _ => none

/-- The candidates of an edge at a position (R101), each with its deviation e. -/
def edgeCandidates (s : State) (c : Corridor) (g : Int) : List (CarriageName × Int) :=
  (s.carsOf c).filterMap fun n =>
    if s.moving n then
      match s.carriedFront n with
      | some f =>
        if ((g - f).natAbs : Int) ≤ 2 * (((s.car n).u : Int) + (s.timing c).tol) then some (n, g - f) else none
      | none => none
    else none

/-- Moves a carriage's offset and p by a deviation (R102, R111). -/
def shiftPosition (s : State) (n : CarriageName) (e : Int) : State :=
  s.modCar n fun v => { v with p := v.p.map (· + e), offset := v.offset.map (· + e) }

/-- A homing succeeds (R111). -/
def homingSucceeds (s : State) (n : CarriageName) (k : Nat) (e : Int) : State :=
  let s1 := (s.shiftPosition n e).modCar n fun v =>
    { v with
      uBase := Config.homedU, sinceCorrection := 0, u := Config.homedU, sinceHoming := 0, homings := v.homings + 1
      slip := false, rehome := false, homing := none }
  let s2 := s1.modGate n.corridor k fun g => { g with misses := 0, outcome := .homed }
  if (s.car n).state = .halted then s2.modCar n fun v => { v with remembered := some .idle }
  else s2.becomeIdle n

/-- A correction (R102). -/
def correct (s : State) (n : CarriageName) (k : Nat) (e : Int) : State :=
  let s1 := (s.shiftPosition n e).modCar n fun v => { v with uBase := (s.timing n.corridor).tol, sinceCorrection := 0 }
  (s1.modGate n.corridor k fun g => { g with misses := 0, outcome := .corrected }).refreshU n

/-- Whether a carriage homes, or is HALTED while it homes, toward this gate (R102). -/
def homesToward (s : State) (n : CarriageName) (k : Nat) : Bool :=
  let v := s.car n
  (decide (v.state = .homing) || (decide (v.state = .halted) && decide (v.remembered = some .homing)))
    && decide (v.homing.map (·.gate) = some k)

/-- An edge with one candidate (R102). -/
def edgeOne (s : State) (c : Corridor) (k : Nat) (n : CarriageName) (e : Int) : State :=
  let v := s.car n
  if v.state = .faulted ∨ v.state = .unplaced then s.modGate c k fun g => { g with outcome := .attributed }
  else if s.homesToward n k then s.homingSucceeds n k e
  else if (e.natAbs : Int) ≤ (v.u : Int) + (s.timing c).tol then s.correct n k e
  else (s.modGate c k fun g => { g with outcome := .rejected }).fault n .positionLost none

/-- The segments that adjoin a gate, in use (R91). -/
def adjoining (s : State) (c : Corridor) (k : Nat) : List Nat :=
  (s.segsInUse c).filter fun i => decide (i + 1 = k) || decide (i = k)

/-- A carriage of the corridor holds a running layer within two segments of the gate (R104, R150). -/
def runningNear (s : State) (c : Corridor) (k : Nat) : Bool :=
  (s.segsInUse c).any fun i => decide (k ≤ i + 2) && decide (i ≤ k + 1) && (s.seg c i).running.isSome

/-- Asks a line for the broadcast brake (R150). -/
def askBroadcast (s : State) (c : Corridor) : State := s.modLine c fun v => { v with broadcast := true }

/-- An edge with no candidate: an intrusion (R104, R91). -/
def intrude (s : State) (c : Corridor) (k : Nat) : State :=
  let near := s.runningNear c k
  let s1 := (s.adjoining c k).foldl (fun t i => t.setFence c i (.auto (.intrusion k)))
    (s.modGate c k fun g => { g with outcome := .intrusion })
  (if near then s1.askBroadcast c else s1).notifyAll (.intrusion c k)

/-- A filtered rising edge at an in-service gate (R101 to R104); at a gate without a derived position it has no candidate (log 49). -/
def risingEdge (s : State) (c : Corridor) (k : Nat) : State :=
  let s1 := s.modGate c k fun g => { g with rising := some s.millis, standstill := false, attributed := none }
  match s1.layout.gatePos c k with
  | none => s1.intrude c k
  | some g =>
    match s1.edgeCandidates c (g : Int) with
    | [] => s1.intrude c k
    | [(n, e)] => (s1.modGate c k fun g => { g with attributed := some n }).edgeOne c k n e
    | _ :: _ :: _ => s1.modGate c k fun g => { g with outcome := .ambiguous }

/-- The speed check (R105): whether the gate speed and the odometer speed differ by more than the limit. -/
def speedsDiffer (length occupied speed : Nat) : Bool :=
  let gate := length * 1000 / occupied
  decide (max 100 (speed / 4) < (if gate ≤ speed then speed - gate else gate - speed))

/-- Sets the slip mark, with u and the re-home mark that follow from it (R105, R97, R98). -/
def setSlip (s : State) (n : CarriageName) : State :=
  ((s.modCar n fun v => { v with slip := true }).refreshU n).setRehome n

/-- A filtered falling edge at an in-service gate (R105). -/
def fallingEdge (s : State) (c : Corridor) (k : Nat) : State :=
  let g := s.gate c k
  match g.attributed, g.rising with
  | some n, some t =>
    let occupied := min 65535 (s.millis - t)
    let s1 := s.modGate c k fun h => { h with duration := some occupied, attributed := none, standstill := false }
    let v := s.car n
    if occupied = 0 ∨ occupied = 65535 ∨ g.standstill = true ∨ v.state = .faulted ∨ v.state = .unplaced then s1
    else
      match s.item n with
      | some it => if speedsDiffer it.length occupied v.speed then s1.setSlip n else s1
      | none => s1
  | _, _ => s

end State

end Sys2Proof.Machine
end

