-- ==== Sys2Proof/Machine/Authority.lean ====
section
/-! DEFINITION. The authority unit (chapter 7): the authority end (R119), the available distances (R120), the speed cap (R122), the
set-point and its telegram (R124, R125), and the figures kept of it (R126). -/

namespace Sys2Proof.Machine

/-- The cap travels in RUN and CRAWL telegrams (R124, R125). -/
def SetMode.carriesCap : SetMode → Bool
  | .run | .crawlNorth | .crawlSouth => true
  | _ => false

namespace State

/-- The run end: the far boundary of the far segment of the held run (R119). -/
def runEndOf (s : State) (n : CarriageName) (dir : Dir) : Option Int :=
  let run := s.heldRun n
  match dir with
  | .south => (run.getLast?.bind (s.layout.bounds n.corridor)).map fun b => (b.2 : Int)
  | .north => (run.head?.bind (s.layout.bounds n.corridor)).map fun b => (b.1 : Int)

/-- A segment in use lies wholly beyond a front in a direction. -/
def whollyBeyond (s : State) (c : Corridor) (dir : Dir) (front : Int) (k : Nat) : Bool :=
  match s.layout.segSpan c k with
  | none => false
  | some (a, b) =>
    match dir with
    | .south => decide (front < a)
    | .north => decide (b < front)

/-- The fence end: the near boundary of the first fenced segment wholly beyond the front (R119). -/
def fenceEndOf (s : State) (n : CarriageName) (dir : Dir) (front : Int) : Option Int :=
  let c := n.corridor
  let fenced := (s.segsInUse c).filter fun k => (s.seg c k).fence.isSome && s.whollyBeyond c dir front k
  match dir with
  | .south => (fenced.head?.bind (s.layout.bounds c)).map fun b => (b.1 : Int)
  | .north => (fenced.getLast?.bind (s.layout.bounds c)).map fun b => (b.2 : Int)

/-- Of a run end and a fence end, the authority end: the fence end only where it is nearer to the carriage (R119). -/
def nearerEnd (dir : Dir) (run : Int) (fence : Option Int) : Int × EndKind :=
  match fence with
  | none => (run, .runEnd)
  | some x =>
    match dir with
    | .south => if x < run then (x, .fenceEnd) else (run, .runEnd)
    | .north => if run < x then (x, .fenceEnd) else (run, .runEnd)

/-- The authority end A of a carriage in its leg's direction (R119); absent without a leg, a position or a held segment. -/
def authorityEnd (s : State) (n : CarriageName) : Option (Int × EndKind) :=
  match (s.car n).leg, s.footprint n with
  | some leg, some r =>
    (s.runEndOf n leg.dir).map fun e => nearerEnd leg.dir e (s.fenceEndOf n leg.dir (frontOf r leg.dir))
  | _, _ => none

/-- The available distance (R120); taken as 0 where there is no authority end (R119, log 31). -/
def availableDistance (s : State) (n : CarriageName) : Int :=
  match s.authorityEnd n, (s.car n).leg, s.uncertain n with
  | some (a, _), some leg, some r =>
    let m : Int := (s.timing n.corridor).margin
    match leg.dir with
    | .south => a - r.2 - m
    | .north => r.1 - a - m
  | _, _, _ => 0

/-- The target distance (R120); absent without a leg or a position. -/
def targetDistance (s : State) (n : CarriageName) : Option Int :=
  match (s.car n).leg, (s.car n).p with
  | some leg, some p =>
    some (match leg.dir with | .south => leg.target - p | .north => p - leg.target)
  | _, _ => none

/-- A fenced segment meets the carriage's footprint (R89, R122). -/
def fenceUnder (s : State) (n : CarriageName) : Bool :=
  match s.footprint n with
  | some r => (s.segsMeeting n.corridor r).any fun k => (s.seg n.corridor k).fence.isSome
  | none => false

/-- The term of the available distance (R122). -/
def capTermA (s : State) (n : CarriageName) : Nat :=
  match s.item n with
  | some it => capFor it.decel (s.timing n.corridor).reaction (s.availableDistance n)
  | none => 0

/-- The term of the target distance, while it applies (R122). -/
def capTermT (s : State) (n : CarriageName) : Option Nat :=
  match s.targetDistance n, s.item n with
  | some d, some it => if 0 < d then some (max (capFor it.decel (s.timing n.corridor).reaction d) Config.crawl) else none
  | _, _ => none

/-- The crawl term, while it applies (R122). -/
def capTermC (s : State) (n : CarriageName) : Option Nat :=
  if (s.car n).state = .homing ∨ (s.timing n.corridor).trust < (s.car n).u then some Config.crawl else none

/-- The cases in which the cap is 0 whatever the terms give (R122). -/
def capZero (s : State) (n : CarriageName) : Bool :=
  s.hold n.corridor || s.loopOpen n.corridor || s.fenceUnder n || (s.car n).p.isNone

/-- The speed cap (R122): the least of the terms that apply. -/
def speedCap (s : State) (n : CarriageName) : Nat :=
  if s.capZero n then 0
  else
    let base := min (s.timing n.corridor).vmax (s.capTermA n)
    let withT := match s.capTermT n with | some x => min base x | none => base
    match s.capTermC n with | some x => min withT x | none => withT

/-- The carriage holds a segment with an INTRUSION fence (R124 row 3). -/
def holdsIntrusion (s : State) (n : CarriageName) : Bool :=
  (s.heldRun n).any fun k =>
    match (s.seg n.corridor k).fence with
    | some (.auto (.intrusion _)) => true
    | _ => false

/-- RUNNING or HOMING. -/
def travelling (s : State) (n : CarriageName) : Bool :=
  decide ((s.car n).state = .running) || decide ((s.car n).state = .homing)

/-- The set-point mode: the first row of the table of R124 that applies. -/
def setMode (s : State) (n : CarriageName) : SetMode :=
  let v := s.car n
  if s.loopOpen n.corridor then .brake
  else if s.travelling n ∧ s.availableDistance n < -((s.timing n.corridor).margin : Int) then .brake
  else if s.travelling n ∧ s.holdsIntrusion n then .brake
  else
    match v.state, v.transfer with
    | .transferring, some tr => (match tr.kind with | .pull => .pull | .push => .push)
    | _, _ =>
      match s.travelling n, v.leg with
      | true, some leg =>
        if s.speedCap n = 0 then .hold
        else if v.state = .homing then (match leg.dir with | .south => .crawlSouth | .north => .crawlNorth)
        else if v.offset.isNone then .hold
        else .run
      | _, _ => .hold

/-- The target of a RUN set-point in drive odometer terms (R125). -/
def setTarget (s : State) (n : CarriageName) : Option (BitVec 32) :=
  match s.setMode n, (s.car n).leg, (s.car n).offset with
  | .run, some leg, some off => some (BitVec.ofInt 32 (leg.target - off))
  | _, _, _ => none

/-- The side of a transfer's mouth, in PULL and PUSH (R124). -/
def setSide (s : State) (n : CarriageName) : Option Side :=
  match s.setMode n with
  | .pull | .push => (s.car n).transfer.map (·.side)
  | _ => none

/-- The command telegram to a drive (R124, R180). -/
def telegramTo (s : State) (n : CarriageName) (address : Nat) : Telegram :=
  let mode := s.setMode n
  ⟨address, mode, (s.setTarget n).getD 0, if mode.carriesCap then s.speedCap n else 0, s.setSide n⟩

/-- The figures of a set-point (R126), stamped at the moment it is composed, in which its telegram begins (log 82). -/
def figuresOf (s : State) (n : CarriageName) : Figures where
  mode := s.setMode n
  target := s.setTarget n
  cap := s.speedCap n
  capV := (s.timing n.corridor).vmax
  capA := some (s.capTermA n)
  capT := s.capTermT n
  capC := s.capTermC n
  authority := s.authorityEnd n
  dA := some (s.availableDistance n)
  dT := s.targetDistance n
  second := s.seconds

end State

/-- The broadcast brake (R150, R180). -/
def Telegram.broadcast : Telegram := ⟨0, .brake, 0, 0, none⟩

end Sys2Proof.Machine
end

