-- ==== Sys2Proof/Machine/DriveLines.lean ====
section
/-! DEFINITION. The drive line controllers (chapter 9): the polling cycle (R144), exchanges (R145), the taking of a valid answer in the
five steps of R147, missed exchanges (R149) and the broadcast brake (R150); and the end of an event. -/

namespace Sys2Proof.Machine

namespace State

/-! ## The end of an event -/

/-- A corridor hold that stood before an event and stands no longer: the homing start of each HOMING carriage becomes the present
millisecond count (R112), and a run of the allocator is owed (R69). -/
def holdEnded (before s : State) (c : Corridor) : State :=
  if before.hold c && !s.hold c then
    ((s.carsOf c).foldl (fun t n =>
      t.modCar n fun v =>
        if v.state = .homing then { v with homing := v.homing.map fun h => { h with start := t.millis } } else v) s).owe c
  else s

/-- A corridor hold that an event began: no carriage of the corridor stays in a waiting set (R81, R86). -/
def holdBegan (before s : State) (c : Corridor) : State :=
  if !before.hold c && s.hold c then s.unwaitAll c else s

/-- What every event ends with: holds that ended, the allocator runs it owes, holds that began. -/
def finish (before s : State) : State :=
  before.holdBegan (before.holdBegan (before.holdEnded (before.holdEnded s .f) .t).settle .f) .t

/-! ## Exchanges -/

/-- Puts a drive behind those with a lower address. -/
def insertDrive (d : Nat × CarriageName) : List (Nat × CarriageName) → List (Nat × CarriageName)
  | [] => [d]
  | e :: rest => if d.1 < e.1 then d :: e :: rest else e :: insertDrive d rest

/-- The drive records of a line in address order (R143, R144). -/
def drives (s : State) (c : Corridor) : List (Nat × CarriageName) :=
  ((s.carsOf c).filterMap fun n => (s.item n).map fun it => (it.address, n)).foldl (fun l d => insertDrive d l) []

/-- An exchange with a drive begins (R145): its set-point is composed, its figures kept (R126), the exchange recorded. -/
def beginExchange (s : State) (c : Corridor) (address : Nat) (n : CarriageName) (rest : List (Nat × CarriageName)) : State :=
  let t := s.telegramTo n address
  (s.modCar n fun v => { v with figures := some (s.figuresOf n) }).modLine c fun w =>
    { w with
      inFlight := some ⟨address, some n, t.mode, s.millis + Config.telegramTime, false⟩, toCall := rest, sent := some t
      broadcastEnds := none }

/-- The next exchange of the cycle begins, where no exchange is in flight and no broadcast is pending or being sent (R144, R150). -/
def nextExchange (s : State) (c : Corridor) : State :=
  let w := s.line c
  if w.inFlight.isSome || w.broadcast || w.broadcastEnds.any (fun e => decide (s.millis < e)) then s
  else
    match w.toCall with
    | [] => s
    | (address, n) :: rest => s.beginExchange c address n rest

/-- Every drive of a corridor has been sent a set-point since the start, or since its record was created (R126). -/
def allCalled (s : State) (c : Corridor) : Bool := (s.carsOf c).all fun n => (s.car n).figures.isSome

/-- The first cycle completed since a start that leaves no drive uncalled ends the corridor's starting and runs its allocator, so that
no leg begins before a carriage's first set-point (R69, R116, log 16). -/
def cycleDone (s : State) (c : Corridor) : State :=
  if (s.line c).inFlight.isNone && (s.line c).toCall.isEmpty && s.starting.get c && s.allCalled c then
    ({ s with starting := s.starting.set c false }.owe c).settle
  else s

/-- The exchange in flight ends, and the line goes on with its cycle (R144, R145). -/
def endExchange (s : State) (c : Corridor) : State :=
  ((s.modLine c fun w => { w with inFlight := none }).nextExchange c).cycleDone c

/-- A polling cycle begins (R144). -/
def beginCycle (s : State) (c : Corridor) : State :=
  ((s.modLine c fun w => { w with cycleStart := s.millis, toCall := s.drives c }).nextExchange c).cycleDone c

/-! ## A valid answer (R147) -/

/-- Step 1: the drive record and the last drive state, load and speed (R147, R149, R152). -/
def noteAnswer (s : State) (n : CarriageName) (a : StatusAnswer) : State :=
  s.modCar n fun v =>
    { v with
      misses := 0, lastAnswer := some s.millis, link := .up, returned := v.returned || decide (v.link = .lost)
      driveState := some a.state, lastLoad := some a.loaded, speed := a.speed }

/-- Whether a set-point mode is the one a transfer is sent with (R133). -/
def modeOf : TransferKind → SetMode
  | .pull => .pull
  | .push => .push

/-- Step 4 for a RUNNING carriage: the end of a shift (R63, R73), docking (R128), a withdrawn carriage at standstill (R75). -/
def judgeRunning (s : State) (n : CarriageName) (a : StatusAnswer) : State :=
  let v := s.car n
  let o := v.assigned.bind s.order?
  if a.state = .atTarget ∧ v.onShift = true then s.becomeIdle n
  else if a.speed = 0 ∧ v.assigned = none ∧ v.onShift = false then s.becomeIdle n
  else if a.state = .atTarget ∧ (v.leg.map (·.target)).isSome ∧ o.bind s.orderTarget = v.leg.map (·.target) then
    match o.bind nextLane with
    | some l => s.dockAt n l
    | none => s
  else s

/-- Step 4: the drive state, load and speed are judged against the carriage (R147, R148, R152). -/
def judgeAnswer (s : State) (n : CarriageName) (mode : SetMode) (a : StatusAnswer) : State :=
  if a.state = .driveFault then s.fault n .driveFault (some a.faultCode)
  else
    match (s.car n).state, (s.car n).transfer with
    | .transferring, some tr =>
      if mode = modeOf tr.kind ∧ a.state = .transferDone then s.transferOutcome n tr false a.loaded
      else if mode = modeOf tr.kind ∧ a.state = .transferFailed then s.transferOutcome n tr true a.loaded
      else s
    | .running, _ => s.judgeRunning n a
    | _, _ => s

/-- Conversion of a carriage that came to stand without its work (R84). -/
def convertStanding (s : State) (n : CarriageName) (speed : Nat) : State :=
  let st := (s.car n).state
  if (st = .faulted ∨ st = .unhomed ∨ st = .unplaced) ∧ speed = 0
      ∧ (s.heldRun n).any (fun k => decide ((s.seg n.corridor k).running.map (·.1) = some n)) = true then s.convert n
  else s

/-- A valid answer handed on in the order of R147. -/
def takeAnswer (s : State) (n : CarriageName) (mode : SetMode) (a : StatusAnswer) : State :=
  let s1 := s.noteAnswer n a
  let s2 := s1.takeBytes n a.bytes
  let s3 := s2.track n a.odometer
  let s4 := s3.judgeAnswer n mode a
  ((s4.releaseBehind n).convertStanding n a.speed).grantRequest n

/-- A drive whose link is LOST answers at an address that its CARRIAGE item has no longer (R143, R144, log 48). -/
def staleAnswer (s : State) (n : CarriageName) (address : Nat) : Bool :=
  decide ((s.car n).link = .lost) && decide ((s.item n).map (·.address) ≠ some address)

/-- An answer arrives on a line (R145, R146): in the window of the exchange in flight, of its form and from its address, or it is
discarded, or it spoils the exchange, which then ends at the window's close. -/
def answerArrives (s : State) (c : Corridor) (a : StatusAnswer) : State :=
  match (s.line c).inFlight with
  | none => s
  | some ex =>
    if s.millis < ex.sentAt ∨ ex.sentAt + Config.answerWindow < s.millis ∨ ex.failed = true then s
    else if a.form = true ∧ a.address = ex.address then
      match ex.carriage with
      | some n => (if s.staleAnswer n ex.address then s else s.finish (s.takeAnswer n ex.mode a)).endExchange c
      | none => s.endExchange c
    else s.modLine c fun w => { w with inFlight := some { ex with failed := true } }

/-! ## Missed exchanges (R149) and the broadcast (R150) -/

/-- A missed exchange with a carriage's drive (R149); the speed last reported before the silence is kept for CLEAR (R66, log 42). -/
def missExchange (s : State) (n : CarriageName) : State :=
  let s1 := s.modCar n fun v => { v with recognizer := .hunt 0 }
  if (s.car n).link = .lost then s1
  else if (s.car n).misses < 2 then s1.modCar n fun v => { v with misses := v.misses + 1 }
  else (s1.modCar n fun v => { v with misses := 3, link := .lost, lostSpeed := v.speed }).faultLost n

/-- The answer window closes without a valid answer (R145, R149). -/
def windowCloses (s : State) (c : Corridor) : State :=
  match (s.line c).inFlight with
  | none => s
  | some ex =>
    let s1 := s.atLeast (ex.sentAt + Config.answerWindow)
    match ex.carriage with
    | some n => (s1.finish (s1.missExchange n)).endExchange c
    | none => s1.endExchange c

/-- The sending of a pending broadcast begins: the mark is clear for requests taken while it is sent (R150, log 47). -/
def beginBroadcast (s : State) (c : Corridor) : State :=
  s.modLine c fun w =>
    { w with broadcast := false, sent := some Telegram.broadcast, broadcastEnds := some (s.millis + Config.telegramTime) }

/-- The broadcast being sent ends: a second one follows where it was asked for meanwhile, else the line goes on with its cycle (R150). -/
def endBroadcast (s : State) (c : Corridor) (e : Nat) : State :=
  let s1 := (s.atLeast e).modLine c fun w => { w with broadcastEnds := none }
  if (s1.line c).broadcast && (s1.line c).inFlight.isNone then s1.beginBroadcast c else (s1.nextExchange c).cycleDone c

/-- The broadcast of a line (R150): one being sent ends, or a pending one begins as soon as no exchange is in flight. -/
def sendBroadcast (s : State) (c : Corridor) : State :=
  match (s.line c).broadcastEnds with
  | some e => s.endBroadcast c e
  | none => if (s.line c).broadcast && (s.line c).inFlight.isNone then s.beginBroadcast c else s

end State

end Sys2Proof.Machine
end

