-- ==== Sys2Proof/Machine/Operands.lean ====
section
/-! DEFINITION. The ranges of the operands of requests: each place's numbers and words (R1 to R3, R25, R30 to R38, R43, R55, R88, R99,
R114, R167). -/

namespace Sys2Proof.Machine

def inRange (lo hi n : Nat) : Bool := decide (lo ≤ n) && decide (n ≤ hi)

/-- Bench numbers 1 to 4,000 (R25). -/
def benchNo (n : Nat) : Bool := inRange 1 4000 n
/-- Lane numbers 1 to 120 (R2). -/
def laneNo (n : Nat) : Bool := inRange 1 120 n
/-- Order ids 1 to 65,535 (R41). -/
def orderNo (n : Nat) : Bool := inRange 1 65535 n
/-- Segment numbers 0 to 39 (R1). -/
def segmentNo (k : Nat) : Bool := inRange 0 39 k
/-- Gate indexes 0 to 40 (R1). -/
def gateNo (k : Nat) : Bool := inRange 0 40 k
/-- Batches, masks and tolerances 0 to 65,535 (R25, R167, R114). -/
def word16 (n : Nat) : Bool := inRange 0 65535 n
/-- Dispatch references 1 to 999,999 (R25). -/
def referenceNo (n : Nat) : Bool := inRange 1 999999 n

/-- The values of a list of words, where the place defines every one of them. -/
def namedAll {α : Type} : List (Named α) → Option (List α)
  | [] => some []
  | .known a :: rest => (namedAll rest).map (a :: ·)
  | .unknown :: _ => none

def optRange (test : Nat → Bool) : Option Nat → Bool
  | none => true
  | some n => test n

end Sys2Proof.Machine
end

