-- ==== Sys2Proof/Machine/Words.lean ====
section
/-! DEFINITION. The words that stand for the unit's values in answers and notices (R179; each place's words are those of the rule that
owns the value). -/

namespace Sys2Proof.Machine

/-- A defined word as a field. -/
def yesNo (b : Bool) : Field := .word (if b then "YES" else "NO")

/-- The word NONE, for an absent value (R179). -/
def Field.none : Field := .word "NONE"

def optNum : Option Nat → Field
  | some n => .num n
  | .none => Field.none

def optInt : Option Int → Field
  | some n => .num n
  | .none => Field.none

def Corridor.word : Corridor → String
  | .f => "F"
  | .t => "T"

def optCorridor : Option Corridor → Field
  | some c => .word (Corridor.word c)
  | .none => Field.none

def CarriageName.word : CarriageName → String
  | .f1 => "F1"
  | .f2 => "F2"
  | .f3 => "F3"
  | .t1 => "T1"
  | .t2 => "T2"
  | .t3 => "T3"

def optCarriage : Option CarriageName → Field
  | some n => .word (CarriageName.word n)
  | .none => Field.none

def carriageSet (l : List CarriageName) : Field := .words (l.map CarriageName.word)

def Dir.word : Dir → String
  | .north => "NORTH"
  | .south => "SOUTH"

def optDir : Option Dir → Field
  | some d => .word (Dir.word d)
  | .none => Field.none

def Side.word : Side → String
  | .left => "LEFT"
  | .right => "RIGHT"

def LaneKind.word : LaneKind → String
  | .bay => "BAY"
  | .buffer => "BUFFER"
  | .station => "STATION"

def StationRole.word : StationRole → String
  | .source => "SOURCE"
  | .sink => "SINK"

def Readiness.word : Readiness → String
  | .growing => "GROWING"
  | .ready => "READY"
  | .held => "HELD"
  | .empty => "EMPTY"

def OrderClass.word : OrderClass → String
  | .urgent => "URGENT"
  | .normal => "NORMAL"
  | .background => "BACKGROUND"

def Permission.word : Permission → String
  | .order => "ORDER"
  | .inventory => "INVENTORY"
  | .fence => "FENCE"
  | .override => "OVERRIDE"
  | .layout => "LAYOUT"

def UnitMode.word : UnitMode → String
  | .configuring => "CONFIGURING"
  | .running => "RUNNING"

def LoopState.word : LoopState → String
  | .closed => "CLOSED"
  | .opened => "OPEN"

def Level.word : Level → String
  | .clear => "CLEAR"
  | .present => "PRESENT"

/-- The place of a bench with its parts (R26); the index is the bench's position in the list. -/
def placeFields (index : Nat → Nat) : Place → List Field
  | .inLane l => [.word "IN_LANE", .num l, .num (index l)]
  | .aboard n => [.word "ABOARD", .word (CarriageName.word n)]
  | .straddling n l c => [.word "STRADDLING", .word (CarriageName.word n), .num l, .word (Corridor.word c)]
  | .outside => [.word "OUTSIDE"]

/-- The identity of a bench and the number read, NONE where that is absent (R27, R30, R166, R179, log 67). -/
def identityFields : Identity → List Field
  | .verified => [.word "VERIFIED", Field.none]
  | .unread => [.word "UNREAD", Field.none]
  | .doubtful r => [.word "DOUBTFUL", optNum r]

def sourceFields (c : Corridor) : Source → List Field
  | .bench n => [.word "BENCH", .num n]
  | .laneEnd l => [.word "LANE", .word "END", .num l, .word (Corridor.word c)]
  | .aboard n => [.word "ABOARD", .word (CarriageName.word n)]

def Phase.word : Phase → String
  | .queued => "QUEUED"
  | .assigned => "ASSIGNED"
  | .fetching => "FETCHING"
  | .pulling => "PULLING"
  | .carrying => "CARRYING"
  | .pushing => "PUSHING"

def EndState.word : EndState → String
  | .done => "DONE"
  | .failed => "FAILED"
  | .cancelled => "CANCELLED"
  | .aborted => "ABORTED"

def EndReason.word : EndReason → String
  | .nothingPulled => "NOTHING_PULLED"
  | .notReleased => "NOT_RELEASED"
  | .transferFailed => "TRANSFER_FAILED"
  | .interrupted => "INTERRUPTED"
  | .carriageFault => "CARRIAGE_FAULT"

def CarState.word : CarState → String
  | .unplaced => "UNPLACED"
  | .unhomed => "UNHOMED"
  | .homing => "HOMING"
  | .idle => "IDLE"
  | .running => "RUNNING"
  | .docked => "DOCKED"
  | .transferring => "TRANSFERRING"
  | .halted => "HALTED"
  | .faulted => "FAULTED"

def Remembered.word : Remembered → String
  | .homing => "HOMING"
  | .running => "RUNNING"
  | .docked => "DOCKED"
  | .idle => "IDLE"

def FaultKind.word : FaultKind → String
  | .positionLost => "POSITION_LOST"
  | .linkLost => "LINK_LOST"
  | .driveFault => "DRIVE_FAULT"
  | .transferInterrupted => "TRANSFER_INTERRUPTED"
  | .homingFailed => "HOMING_FAILED"

def loadField : Load → Field
  | .empty => .word "EMPTY"
  | .bench n => .num n
  | .straddled => .word "STRADDLED"

def TaskKind.word : TaskKind → String
  | .order => "ORDER"
  | .shift => "SHIFT"
  | .homing => "HOMING"

def DriveState.word : DriveState → String
  | .standing => "STANDING"
  | .moving => "MOVING"
  | .atTarget => "AT_TARGET"
  | .working => "WORKING"
  | .transferDone => "TRANSFER_DONE"
  | .transferFailed => "TRANSFER_FAILED"
  | .driveFault => "DRIVE_FAULT"

def SetMode.word : SetMode → String
  | .hold => "HOLD"
  | .brake => "BRAKE"
  | .run => "RUN"
  | .crawlNorth => "CRAWL_NORTH"
  | .crawlSouth => "CRAWL_SOUTH"
  | .pull => "PULL"
  | .push => "PUSH"

def TransferKind.word : TransferKind → String
  | .pull => "PULL"
  | .push => "PUSH"

def LinkState.word : LinkState → String
  | .up => "UP"
  | .lost => "LOST"

/-- The reason of an AUTO fence with its gate or carriage (R77). -/
def FenceReason.fields : FenceReason → List Field
  | .intrusion k => [.word "INTRUSION", .num k]
  | .carriageLost n => [.word "CARRIAGE_LOST", .word (CarriageName.word n)]
  | .restartOverlap => [.word "RESTART_OVERLAP"]

/-- A fence with its kind, and its link or its reason (R77, R95). -/
def fenceFields : Fence → List Field
  | .operator l => [.word "OPERATOR", .num l.number]
  | .auto r => .word "AUTO" :: r.fields

/-- The fence of a FENCE notice: its kind and its reason, NONE for an OPERATOR fence, which has none (R87, R166, R179, log 54). -/
def fenceNoticeFields : Fence → List Field
  | .operator _ => [.word "OPERATOR", Field.none]
  | .auto r => .word "AUTO" :: r.fields

def Fence.kindWord : Fence → String
  | .operator _ => "OPERATOR"
  | .auto _ => "AUTO"

def Service.word : Service → String
  | .inService => "IN_SERVICE"
  | .outOfService => "OUT_OF_SERVICE"

def EdgeOutcome.word : EdgeOutcome → String
  | .none => "NONE"
  | .corrected => "CORRECTED"
  | .homed => "HOMED"
  | .attributed => "ATTRIBUTED"
  | .rejected => "REJECTED"
  | .ambiguous => "AMBIGUOUS"
  | .intrusion => "INTRUSION"

def EventKind.word : EventKind → String
  | .arrived => "ARRIVED"
  | .departed => "DEPARTED"
  | .ended => "ENDED"
  | .identity => "IDENTITY"
  | .fence => "FENCE"

def GateOutCause.word : GateOutCause → String
  | .missed => "MISSED"
  | .link => "LINK"

def Status.word : Status → String
  | .ok => "OK"
  | .badForm => "SYNTAX"
  | .denied => "DENIED"
  | .mode => "MODE"
  | .busy => "BUSY"
  | .unknown => "UNKNOWN"
  | .range => "RANGE"
  | .full => "FULL"
  | .laneFull => "LANE_FULL"
  | .laneEmpty => "LANE_EMPTY"
  | .claimed => "CLAIMED"
  | .collision => "COLLISION"
  | .noPath => "NO_PATH"
  | .committed => "COMMITTED"
  | .identity => "IDENTITY"
  | .state => "STATE"
  | .storeFailed => "STORE_FAILED"

/-- The request words with their sub-words (section 12.6); none for words the section does not list. -/
def ReqWord.words : ReqWord → List String
  | .status => ["STATUS"]
  | .layoutGet => ["LAYOUT", "GET"]
  | .layoutSet => ["LAYOUT", "SET"]
  | .modeConfigure => ["MODE", "CONFIGURE"]
  | .modeRun => ["MODE", "RUN"]
  | .save => ["SAVE"]
  | .restart => ["RESTART"]
  | .laneGet => ["LANE", "GET"]
  | .benchGet => ["BENCH", "GET"]
  | .arrive => ["ARRIVE"]
  | .handoff => ["HANDOFF"]
  | .laneSet => ["LANE", "SET"]
  | .benchSet => ["BENCH", "SET"]
  | .benchDelete => ["BENCH", "DELETE"]
  | .benchIdent => ["BENCH", "IDENT"]
  | .benchSwap => ["BENCH", "SWAP"]
  | .benchSettle => ["BENCH", "SETTLE"]
  | .move => ["MOVE"]
  | .cancel => ["CANCEL"]
  | .abort => ["ABORT"]
  | .orderGet => ["ORDER", "GET"]
  | .orderList => ["ORDER", "LIST"]
  | .clear => ["CLEAR"]
  | .carriageGet => ["CARRIAGE", "GET"]
  | .carriageList => ["CARRIAGE", "LIST"]
  | .fence => ["FENCE"]
  | .unfence => ["UNFENCE"]
  | .segmentGet => ["SEGMENT", "GET"]
  | .segmentList => ["SEGMENT", "LIST"]
  | .home => ["HOME"]
  | .declare => ["DECLARE"]
  | .gateService => ["GATE", "SERVICE"]
  | .gateGet => ["GATE", "GET"]
  | .authorityGet => ["AUTHORITY", "GET"]
  | .lineGet => ["LINE", "GET"]
  | .watch => ["WATCH"]
  | .fetch => ["FETCH"]
  | .attention => ["ATTENTION"]
  | .other _ => []

/-- The words an answer opens with: those of the request, as the line gave them (R179). -/
def ReqWord.text : ReqWord → List (List Char)
  | .other words => words
  | w => w.words.map String.toList

/-- The permissions any one of which lets a link make a request (section 12.6); the empty list asks for none. -/
def ReqWord.needs : ReqWord → List Permission
  | .layoutSet | .modeConfigure | .modeRun | .save => [.layout]
  | .restart | .abort | .clear | .declare => [.override]
  | .arrive | .handoff | .laneSet | .benchSet | .benchDelete | .benchIdent | .benchSwap | .benchSettle => [.inventory]
  | .move | .home => [.order]
  | .cancel => [.order, .override]
  | .fence | .gateService => [.fence]
  | .unfence => [.fence, .override]
  | _ => []

/-- A notice's own fields after its stamp (R165, R166); SET and LIFT are the model's words (log 54). -/
def Event.fields : Event → List Field
  | .arrived l b => [.num l, .num b]
  | .departed l b => [.num l, .num b]
  | .ended id st reason b =>
    [.num id, .word st.word, (match reason with | some r => .word r.word | .none => Field.none), optNum b]
  | .identity b i => .num b :: identityFields i
  | .fence c k set f => [.word (Corridor.word c), .num k, .word (if set then "SET" else "LIFT")] ++ fenceNoticeFields f

def NoticeBody.kindWord : NoticeBody → String
  | .started _ => "STARTED"
  | .retainedLost => "RETAINED_LOST"
  | .fault _ _ _ => "FAULT"
  | .stopOpen _ => "STOP_OPEN"
  | .stopClosed _ => "STOP_CLOSED"
  | .intrusion _ _ => "INTRUSION"
  | .gateOut _ _ _ => "GATE_OUT"
  | .strayRead _ _ => "STRAY_READ"
  | .event (.arrived _ _) => "ARRIVED"
  | .event (.departed _ _) => "DEPARTED"
  | .event (.ended _ _ _ _) => "ENDED"
  | .event (.identity _ _) => "IDENTITY"
  | .event (.fence _ _ _ _) => "FENCE"

/-- The fields of a notice's kind (R165); a fault without a drive fault code has NONE for it (R179, log 67). -/
def NoticeBody.fields : NoticeBody → List Field
  | .started m => [.word m.word]
  | .retainedLost => []
  | .fault n k code => [.word (CarriageName.word n), .word k.word, optNum code]
  | .stopOpen c => [.word (Corridor.word c)]
  | .stopClosed c => [.word (Corridor.word c)]
  | .intrusion c k => [.word (Corridor.word c), .num k]
  | .gateOut c k cause => [.word (Corridor.word c), .num k, .word cause.word]
  | .strayRead n number => [.word (CarriageName.word n), .num number]
  | .event e => e.fields

end Sys2Proof.Machine
end

