-- ==== Sys2Proof/Machine/LayoutEdits.lean ====
section
/-! DEFINITION. Layout items: reading them (R5), the ranges of LAYOUT SET (R6) and its effect on the other blocks (R7). -/

namespace Sys2Proof.Machine

/-- The kind and key of the item a failed check names (R8, R179). -/
def ItemName.fields : ItemName → List Field
  | .corridor c => [.word "CORRIDOR", .word (Corridor.word c)]
  | .segment c k => [.word "SEGMENT", .word (Corridor.word c), .num k]
  | .gate c k => [.word "GATE", .word (Corridor.word c), .num k]
  | .lane n => [.word "LANE", .num n]
  | .mouth n c => [.word "MOUTH", .num n, .word (Corridor.word c)]
  | .carriage n => [.word "CARRIAGE", .word (CarriageName.word n)]
  | .link l => [.word "LINK", .num l.number]

/-! ## Reading an item (R5) -/

/-- Whether a key lies in its range and its words are defined. -/
def keyOk : ItemKey → Bool
  | .corridor (.known _) => true
  | .segment (.known _) k => segmentNo k
  | .gate (.known _) k => gateNo k
  | .lane n => laneNo n
  | .mouth n (.known _) => laneNo n
  | .carriage (.known _) => true
  | .link n => (LinkId.ofNumber n).isSome
  | .timing (.known _) => true
  | _ => false

namespace State

/-- All fields of an item, settable and derived (R1 to R3, R5); none when the item is not present. -/
def itemFields (s : State) : ItemKey → Option (List Field)
  | .corridor (.known c) =>
    (s.layout.length.get c).map fun e => [.num e, .num (s.layout.segCount c), .num (s.layout.gates.get c).size]
  | .segment (.known c) k =>
    ((s.layout.segments.get c).get? k).map fun e =>
      [.num e, optNum ((s.layout.bounds c k).map (·.1)), optNum ((s.layout.bounds c k).map (·.2))]
  | .gate (.known c) k => (s.gateInput c k).map fun i => [.num i, optNum (s.layout.gatePos c k)]
  | .lane n =>
    (s.laneItem n).map fun it =>
      [.word (LaneKind.word it.kind), (match it.role with | some r => .word (StationRole.word r) | none => Field.none), .num it.capacity]
  | .mouth n (.known c) => (s.mouth n c).map fun m => [.word (Side.word m.side), .num m.dock]
  | .carriage (.known n) =>
    (s.item n).map fun it => [.num it.length, .num it.decel, .word (Dir.word it.home), .num it.address]
  | .link n =>
    ((LinkId.ofNumber n).bind fun l => s.layout.perms.get l).map fun ps => [.words (ps.map Permission.word)]
  | .timing (.known (.corridor c)) =>
    let t := s.timing c
    some [.num t.vmax, .num t.reaction, .num t.margin, .num t.tol, .num t.slip, .num t.trust]
  | .timing (.known .unit) =>
    some [.num s.layout.unit.aging, .num s.layout.unit.allowance, .num s.layout.unit.rehome]
  | _ => none

/-! ## Ranges of LAYOUT SET (R6) -/

/-- The permission sets with one link's replaced. -/
def permsWith (s : State) (l : LinkId) (ps : Option (List Permission)) : Layout :=
  { s.layout with perms := s.layout.perms.set l ps }

/-- REMOVE of a CORRIDOR or TIMING item, or of the last LINK item that holds LAYOUT, is a RANGE fault. -/
def removeOk (s : State) : ItemKey → Bool
  | .corridor _ => false
  | .timing _ => false
  | .link n => (match LinkId.ofNumber n with | some l => (s.permsWith l none).layoutHeld | none => false)
  | _ => true

/-- Another carriage of the corridor holds a drive address. -/
def addressTaken (s : State) (n : CarriageName) (address : Nat) : Bool :=
  n.corridor.carriages.any fun m => decide (m ≠ n) && decide ((s.item m).map (·.address) = some address)

/-- The fields and the key of an edit lie in their ranges, and the LINK, CARRIAGE and LANE conditions hold (R6). -/
def editOk (s : State) : LayoutEdit → Bool
  | .remove k => s.removeOk k
  | .corridor c length => c.val?.isSome && inRange 4000 200000 length
  | .segment c k length => c.val?.isSome && segmentNo k && inRange 2000 12000 length
  | .gate c k input _ => c.val?.isSome && gateNo k && inRange 1 96 input
  | .lane n kind role capacity =>
    laneNo n
      && (match kind, role with
          | .station, some r => r.val?.isSome && inRange 1 4 capacity
          | .station, none => false
          | _, some _ => false
          | _, none => inRange 1 32 capacity)
      && decide (s.held n ≤ capacity)
  | .mouth n c side dock => laneNo n && c.val?.isSome && side.val?.isSome && inRange 0 200000 dock
  | .carriage n length decel home address =>
    (match n with | .known x => !s.addressTaken x address | .unknown => false)
      && inRange 2000 6000 length
      && (match decel with | .known none => true | .known (some a) => inRange 100 1000 a | .unknown => false)
      && home.val?.isSome && inRange 1 3 address
  | .link n ps =>
    (match LinkId.ofNumber n, namedAll ps with
     | some l, some x => (s.permsWith l (some x)).layoutHeld
     | _, _ => false)
  | .timing _ vmax reaction margin tol slip trust =>
    inRange 200 1200 vmax && inRange 100 1000 reaction && inRange 200 2000 margin && inRange 20 200 tol
      && inRange 5 50 slip && inRange 200 1000 trust
  | .timingUnit aging allowance rehome => inRange 30 600 aging && inRange 0 3000 allowance && inRange 500 10000 rehome

/-! ## Effects (R7) -/

/-- The lock holder and waiting carriage of a lane number, from the benches straddling there (log 24). -/
def relock (s : State) (n : Nat) : State :=
  let at_ := fun c : Corridor => s.benches.entries.any fun e =>
    match e.2.place with
    | .straddling _ l m => decide (l = n) && decide (m = c)
    | _ => false
  s.modLane n fun v =>
    { v with
      lock := if s.isBay n then (if at_ .f then some .f else if at_ .t then some .t else none) else none
      waiting := none }

/-- Sets the level at one gate input. -/
def setInput (s : State) (i : Nat) (v : Level) : State :=
  { s with
    inputs := match v with
      | .present => if s.inputs.contains i then s.inputs else i :: s.inputs
      | .clear => s.inputs.filter fun j => decide (j ≠ i) }

/-- A GATE item set (R7): added, its input changed, or replaced by itself. The last edge outcome stays in each case (log 57). -/
def setGateItem (s : State) (c : Corridor) (k input : Nat) (level : Level) : State :=
  let put := fun t : State => { t with layout := { t.layout with gates := t.layout.gates.set c ((t.layout.gates.get c).put k input) } }
  match s.gateInput c k with
  | none =>
    (put (s.setInput input level)).modGate c k fun g =>
      { g with
        misses := 0, rising := none, duration := none, attributed := none, standstill := false
        samples := Samples.all level, level := level }
  | some old =>
    if old = input then put s
    else (put (s.setInput input level)).modGate c k fun g => { g with samples := Samples.all level, level := level }

/-- The values a created carriage record takes (R7, R68, R142): p, u, load and mark are what retained memory holds under the name. The
other carriages' recognizers and reading slots stay as they are (log 75). -/
def createRecord (s : State) (n : CarriageName) : State :=
  s.modCar n fun v =>
    let grown := v.u + s.layout.unit.allowance
    match v.p with
    | none => { Carriage.blank with u := v.u, uBase := v.u, load := v.load, mark := v.mark }
    | some p =>
      let u := if Config.maxU ≤ grown then Config.maxU else grown
      { Carriage.blank with
        state := if Config.maxU ≤ grown then .unplaced else .unhomed
        p := some p, u := u, uBase := u, load := v.load, mark := v.mark }

/-- What retained memory keeps of a carriage whose record is discarded (R14, log 10). -/
def retainedOnly (v : Carriage) : Carriage :=
  { Carriage.blank with p := v.p, u := v.u, uBase := v.u, load := v.load, mark := v.mark }

/-- A carriage record is discarded (R7, R77, R144, log 25): every layer, waiting set, gate and line that names it loses it. -/
def discardRecord (s : State) (n : CarriageName) : State :=
  let c := n.corridor
  let s1 := (s.modCar n retainedOnly).unwait n
  let s2 := s1.clearLayers n (s1.heldRun n)
  let s3 := { s2 with gates := s2.gates.set c ((s2.gates.get c).mapValues fun _ g =>
    if g.attributed = some n then { g with attributed := none } else g) }
  s3.modLine c fun w =>
    { w with
      inFlight := w.inFlight.map fun ex => if ex.carriage = some n then { ex with carriage := none } else ex
      toCall := w.toCall.filter fun d => decide (d.2 ≠ n) }

/-- A CARRIAGE item set (R7): added, which keeps the corridor starting until the new drive is called (log 16), or replaced with its
record kept. A drive whose address changes is called again from the next cycle that begins (R143, R144, log 48). -/
def setCarriageItem (s : State) (n : CarriageName) (it : CarriageItem) : State :=
  let put := fun t : State => { t with layout := { t.layout with carriages := t.layout.carriages.set n (some it) } }
  match s.item n with
  | none => put ({ s with starting := s.starting.set n.corridor true }.createRecord n)
  | some old =>
    if old.address = it.address then put s
    else
      put ((s.modCar n fun v => { v with misses := 0 }).modLine n.corridor fun w =>
        { w with toCall := w.toCall.filter fun d => decide (d.2 ≠ n) })

/-- The items of one kind with one entry taken out. -/
def removeItem (s : State) : ItemKey → State
  | .segment (.known c) k =>
    { s with layout := { s.layout with segments := s.layout.segments.set c ((s.layout.segments.get c).del k) } }
  | .gate (.known c) k => { s with layout := { s.layout with gates := s.layout.gates.set c ((s.layout.gates.get c).del k) } }
  | .lane n => ({ s with layout := { s.layout with lanes := s.layout.lanes.del n } }).relock n
  | .mouth n (.known c) =>
    { s with layout := { s.layout with mouths := s.layout.mouths.set c ((s.layout.mouths.get c).del n) } }
  | .carriage (.known n) =>
    { s.discardRecord n with layout := { s.layout with carriages := s.layout.carriages.set n none } }
  | .link n => (match LinkId.ofNumber n with | some l => { s with layout := s.permsWith l none } | none => s)
  | _ => s

/-- An accepted LAYOUT SET (R6, R7). -/
def applyEdit (s : State) : LayoutEdit → State
  | .remove k => s.removeItem k
  | .corridor (.known c) length => { s with layout := { s.layout with length := s.layout.length.set c (some length) } }
  | .segment (.known c) k length =>
    { s with layout := { s.layout with segments := s.layout.segments.set c ((s.layout.segments.get c).put k length) } }
  | .gate (.known c) k input level => s.setGateItem c k input level
  | .lane n kind role capacity =>
    ({ s with layout := { s.layout with lanes := s.layout.lanes.put n ⟨kind, role.bind Named.val?, capacity⟩ } }).relock n
  | .mouth n (.known c) (.known side) dock =>
    { s with layout := { s.layout with mouths := s.layout.mouths.set c ((s.layout.mouths.get c).put n ⟨side, dock⟩) } }
  | .carriage (.known n) length (.known decel) (.known home) address =>
    s.setCarriageItem n ⟨length, decel.getD Config.defaultDecel, home, address⟩
  | .link n ps =>
    (match LinkId.ofNumber n, namedAll ps with
     | some l, some x => { s with layout := s.permsWith l (some (allPermissions.filter x.contains)) }
     | _, _ => s)
  | .timing c vmax reaction margin tol slip trust =>
    { s with layout := { s.layout with timing := s.layout.timing.set c ⟨vmax, reaction, margin, tol, slip, trust⟩ } }
  | .timingUnit aging allowance rehome => { s with layout := { s.layout with unit := ⟨aging, allowance, rehome⟩ } }
  | _ => s

end State

end Sys2Proof.Machine
end

