-- ==== Sys2Proof/Machine/Start.lean ====
section
/-! DEFINITION. Starts (R15 to R17) and the loss of power (R12, R14): every block's start values from the saved layout and retained
memory. -/

namespace Sys2Proof.Machine

namespace State

/-- Retained memory cleared (R16): no bench, empty lists, no fence, no position, EMPTY loads, clear marks, gates IN_SERVICE. -/
def clearRetained (s : State) : State :=
  { s with
    benches := Table.empty
    lanes := Table.empty
    segments := ⟨Table.empty, Table.empty⟩
    gates := ⟨Table.empty, Table.empty⟩
    carriages := ⟨Carriage.blank, Carriage.blank, Carriage.blank, Carriage.blank, Carriage.blank, Carriage.blank⟩ }

/-- The bench of a transfer mark straddles (R16): out of the list it stands in or the load, its place STRADDLING. -/
def settleMark (s : State) (n : CarriageName) : State :=
  match (s.car n).mark with
  | none => s
  | some k =>
    let s1 := { s with lanes := s.lanes.mapValues fun _ v => { v with benches := v.benches.erase k.bench } }
    let s2 := s1.modBench k.bench fun v => { v with place := .straddling n k.lane k.mouth }
    s2.modCar n fun v => { v with load := .straddled, mark := none }

/-- The record of a carriage name after a start (R16, R68): what R7 gives a created record, or what is retained without an item. -/
def startRecord (s : State) (n : CarriageName) : State :=
  if s.hasRecord n then s.createRecord n else s.modCar n retainedOnly

/-- The gate records of a corridor after a start (R99): service retained, the filters of gates in use primed, those of the others clear
(log 81). -/
def startGates (s : State) (c : Corridor) : State :=
  let kept := (s.gates.get c).mapValues fun _ g => { Gate.blank with service := g.service }
  let s1 := { s with gates := s.gates.set c kept }
  (s.layout.gates.get c).keys.foldl (fun t k =>
    match s.gateInput c k with
    | some i => t.modGate c k fun g => { g with samples := Samples.all (s.inputLevel i), level := s.inputLevel i }
    | none => t) s1

/-- The layout loaded at a start (R15). -/
def loadLayout (s : State) : State :=
  { s with layout := if s.saved.valid then s.saved.content else Layout.empty }

/-- The lane and bench tables after a start (R23, R29). -/
def startInventory (s : State) : State :=
  let s1 := { s with benches := s.benches.mapValues fun _ v => { v with claim := none, lastMoved := 0 } }
  let s2 := CarriageName.all.foldl settleMark s1
  let s3 := { s2 with lanes := s2.lanes.mapValues fun _ v => { v with incoming := 0, outgoing := 0, lock := none, waiting := none } }
  laneNumbers.foldl (fun t n => if t.isBay n && !(t.straddlers n).isEmpty then t.relock n else t) s3

/-- The unit mode after a start (R15). -/
def startMode (s : State) : UnitMode :=
  if s.saved.valid && (s.check).isNone then .running else .configuring

/-- A start (R15, R16): `checked` tells whether retained memory is compared with its check word, which RESTART does not (R17). -/
def start (s : State) (pins : Pins) (checked : Bool) : State :=
  let lost := checked && !s.retainedAgrees
  let s0 := if lost then s.clearRetained else s
  let s1 := (loadLayout s0).startInventory
  let s2 := CarriageName.all.foldl startRecord s1
  let m := s2.startMode
  let s3 : State :=
    { s2 with
      powered := true, mode := m, storeBusy := none, retainedAgrees := true, millis := 0, inputs := pins.present
      book := [], nextId := 1
      lines := ⟨Line.blank, Line.blank⟩
      stops := ⟨Stop.start pins.loopF, Stop.start pins.loopT⟩
      links := ⟨Link.start (startNotices m lost), Link.start (startNotices m lost), Link.start (startNotices m lost)⟩
      owed := ⟨false, false⟩
      starting := ⟨true, true⟩ }
  (((s3.startGates .f).startGates .t).seatAll .f).seatAll .t

/-- The supply fails (R12, R14): a store write under way leaves the saved layout invalid, a cut retained write its check word. -/
def powerFails (s : State) (cutRetained : Bool) : State :=
  { s with
    powered := false
    saved := { s.saved with valid := s.saved.valid && s.storeBusy.isNone }
    storeBusy := none
    retainedAgrees := s.retainedAgrees && !cutRetained }

end State

end Sys2Proof.Machine
end

