-- ==== Sys2Proof/Machine/Ports.lean ====
section
/-! DEFINITION. The master link ports (chapter 12): the taking of a request and its judgement (R176), the outstanding request and the
overrun mark (R175), answers (R179), bad lines (R174). -/

namespace Sys2Proof.Machine

/-- What a block answers: a status word, the fields of the answer, and for FETCH the notice lines that follow it. -/
structure Reply where
  status : Status
  fields : List Field
  notices : List Notice
  deriving DecidableEq, Repr

def Reply.ok (l : List Field) : Reply := ⟨.ok, l, []⟩
def Reply.refuse (w : Status) : Reply := ⟨w, [], []⟩

/-- What a block does with a request: the tables after it, and its answer where the request is answered at once. -/
structure Served where
  state : State
  reply : Option Reply
  deriving DecidableEq, Repr

/-- A refusal changes nothing (R176). -/
def refuse (s : State) (w : Status) : Served := ⟨s, some (.refuse w)⟩
def okWith (s : State) (l : List Field) : Served := ⟨s, some (.ok l)⟩

namespace State

/-- Composes an answer line on a link (R175, R179): it carries OVERRUN while the mark is set. -/
def answer (s : State) (l : LinkId) (w : ReqWord) (r : Reply) : State :=
  s.modLink l fun k => { k with answer := some ⟨w, r.status, r.fields, k.overrun, r.notices⟩ }

/-- A good line is taken as a request: it becomes the outstanding request (R175). -/
def takeLine (s : State) (l : LinkId) (w : ReqWord) : State :=
  s.modLink l fun k => { k with outstanding := some w, assembling := none, answer := none, noticesFollow := false }

/-- A good line that is complete while a request is outstanding (R175). -/
def overrunLine (s : State) (l : LinkId) : State :=
  s.modLink l fun k => { k with overrun := true, assembling := none }

/-- The link's permission set suffices for a request (R176.3). -/
def mayAsk (s : State) (l : LinkId) (w : ReqWord) : Bool := w.needs.isEmpty || w.needs.any (s.permits l)

/-- The port's own judgement of a well-formed request (R176): MODE for MOVE, then DENIED. -/
def portRefusal (s : State) (l : LinkId) (w : ReqWord) : Option Status :=
  if w = .move ∧ s.mode = .configuring then some .mode
  else if s.mayAsk l w then none
  else some .denied

end State

/-- The port's judgement of a good line taken as a request (R176): the status it refuses it with, or the fields it hands on. -/
def portJudges {α : Type} (s : State) (l : LinkId) (w : ReqWord) (form : α → Bool) (q : Req α) : Status ⊕ α :=
  match q.fields form with
  | none => .inl .badForm
  | some a =>
    match s.portRefusal l w with
    | some st => .inl st
    | none => .inr a

/-- The request word that stands outstanding and opens the answer: the row's, or the words of a line that is no request's (R176, R179). -/
def answeredAs {α : Type} (w : ReqWord) : Req α → ReqWord
  | .unlisted words => .other words
  | _ => w

/-- A request that the port hands on is served by its block; the block's event ends, then its answer stands on the line. -/
def served {α : Type} (s : State) (l : LinkId) (w : ReqWord) (serve : State → α → Served) (a : α) : State :=
  let out := serve s a
  match out.reply with
  | some r => (s.finish out.state).answer l w r
  | none => s.finish out.state

/-- A request line reaches a port (R175, R176): an unpowered unit takes nothing (log 5); an outstanding request makes the line an
overrun; the port refuses it, or hands it to its block. -/
def request {α : Type} (s : State) (l : LinkId) (w : ReqWord) (form : α → Bool) (q : Req α) (serve : State → α → Served) : State :=
  if !s.powered then s
  else if (s.link l).outstanding.isSome then s.overrunLine l
  else
    match portJudges (s.takeLine l w) l w form q with
    | .inl st => (s.takeLine l (answeredAs w q)).answer l (answeredAs w q) (.refuse st)
    | .inr a => served (s.takeLine l w) l w serve a

/-- An event reaches the unit: an unpowered unit takes nothing (log 5); the event ends with the allocator runs it owes. -/
def event (s : State) (g : State → State) : State := if s.powered then s.finish (g s) else s

namespace State

/-- The last character of an answer, or of FETCH's last notice line, is sent (R175). The end of an answer that carried OVERRUN clears the
mark; the outstanding request clears with the answer, or, where notice lines follow it, with the last of them (log 6). -/
def answerIsSent (s : State) (l : LinkId) : State :=
  match (s.link l).answer with
  | none => s
  | some a =>
    if (s.link l).outstanding.isSome then
      s.modLink l fun k =>
        if k.noticesFollow then { k with outstanding := none, noticesFollow := false }
        else
          { k with
            outstanding := if a.notices.isEmpty then none else k.outstanding
            overrun := k.overrun && !a.overrun
            noticesFollow := !a.notices.isEmpty }
    else s

/-- A bad line is discarded and counted (R174); the ">" that broke into a line begins the next. -/
def badLineOn (s : State) (l : LinkId) (cause : BadLineCause) : State :=
  s.modLink l fun k =>
    { k with
      badLines := min 65535 (k.badLines + 1)
      assembling := match cause with | .newStart => some ['>'] | _ => none }

end State

end Sys2Proof.Machine
end

