-- ==== Sys2Proof/Machine/LineCommands.lean ====
section
/-! DEFINITION. The meanings of chapter 9 and of the transfer timeout of chapter 8: POLLING_CYCLE, STATUS_ANSWER, MISSED_EXCHANGE,
BROADCAST_BRAKE, TRANSFER_TIMEOUT and LINE GET. -/

namespace Sys2Proof.Machine

/-- The fields of one drive record (R143, R154). -/
def driveFields (s : State) (d : Nat × CarriageName) : List Field :=
  let v := s.car d.2
  [.num d.1, .word (CarriageName.word d.2), .word v.link.word, .num v.misses, .word (if v.returned then "SET" else "CLEAR"),
   optNum (v.lastAnswer.map (· / 1000))]

/-- LINE GET (R154): YES or NO for an exchange in flight and for a broadcast pending; the address called is left out where there is no
exchange (log 66). -/
def serveLineGet (s : State) (q : Named Corridor) : Served :=
  match q with
  | .unknown => refuse s .range
  | .known c =>
    let w := s.line c
    okWith s
      ((match w.inFlight with | some ex => [yesNo true, .num ex.address] | none => [yesNo false])
        ++ [yesNo w.broadcast] ++ (s.drives c).flatMap (driveFields s))

/-- The moment a transfer's timeout expires (R138). -/
def State.transferDue (s : State) (n : CarriageName) : Option Nat :=
  match (s.car n).state, (s.car n).transfer with
  | .transferring, some tr => some (tr.start + Config.transferTimeout)
  | _, _ => none

/-- The transfer timeout expires (R138): the transfer is interrupted. -/
def State.transferExpires (s : State) (n : CarriageName) : State :=
  match s.transferDue n with
  | none => s
  | some t => (s.atLeast t).fault n .transferInterrupted none

/-- The moment the next polling cycle of a line begins (R144); the first 100 ms after the start (log 56). -/
def State.cycleDue (s : State) (c : Corridor) : Nat := (s.line c).cycleStart + Config.pollingPeriod

def execPollingCycle (c : Corridor) (s : State) : Host.Outcome State Fault Refusal :=
  .next (if s.powered then (s.atLeast (s.cycleDue c)).beginCycle c else s)

def execStatusAnswer (c : Corridor) (a : StatusAnswer) (s : State) : Host.Outcome State Fault Refusal :=
  .next (if s.powered then s.answerArrives c a else s)

def execMissedExchange (c : Corridor) (s : State) : Host.Outcome State Fault Refusal :=
  .next (if s.powered then s.windowCloses c else s)

def execBroadcastBrake (c : Corridor) (s : State) : Host.Outcome State Fault Refusal :=
  .next (if s.powered then s.sendBroadcast c else s)

def execTransferTimeout (n : CarriageName) (s : State) : Host.Outcome State Fault Refusal :=
  .next (event s fun t => t.transferExpires n)

def execLineGet (l : LinkId) (q : Req (Named Corridor)) (s : State) : Host.Outcome State Fault Refusal :=
  .next (request s l .lineGet (fun _ => true) q serveLineGet)

end Sys2Proof.Machine
end

