-- ==== Sys2Proof/Machine/MoveOrders.lean ====
section
/-! DEFINITION. The meanings of chapter 3: MOVE, CANCEL, ABORT, ORDER GET, ORDER LIST and the aging of orders. -/

namespace Sys2Proof.Machine

/-! ## MOVE (R42 to R44) -/

/-- The numbers and words of a MOVE lie in their ranges (R43 row 3). -/
def moveOk (a : MoveArgs) : Bool :=
  (match a.source with
   | .bench n => benchNo n
   | .laneEnd l c => laneNo l && c.val?.isSome
   | .aboard n => n.val?.isSome)
  && laneNo a.dest && (match a.corridor with | some c => c.val?.isSome | none => true) && a.cls.val?.isSome

/-- The bench a BENCH or ABOARD source names (R42). -/
def State.sourceBench (s : State) : MoveSource → Option Nat
  | .bench n => some n
  | .laneEnd _ _ => none
  | .aboard (.known n) => (s.car n).load.bench?
  | .aboard .unknown => none

/-- The source lane: that of a bench standing IN_LANE, or the lane named (R42). -/
def State.sourceLane (s : State) : MoveSource → Option Nat
  | .bench n => (match (s.bench? n).map Bench.place with | some (.inLane l) => some l | _ => none)
  | .laneEnd l _ => some l
  | .aboard _ => none

/-- The source or the destination is not there (R43 row 4). -/
def State.moveUnknown (s : State) (a : MoveArgs) : Bool :=
  (match a.source with
   | .bench n => (s.bench? n).isNone
   | .laneEnd l _ => (s.laneItem l).isNone
   | .aboard (.known n) => (s.item n).isNone
   | .aboard .unknown => true)
  || (s.laneItem a.dest).isNone

/-- A bench is DOUBTFUL. -/
def Bench.doubtful (v : Bench) : Bool :=
  match v.identity with
  | .doubtful _ => true
  | _ => false

/-- The source is in no state to be moved (R43 row 7). -/
def State.moveState (s : State) : MoveSource → Bool
  | .bench n => (s.sourceLane (.bench n)).isNone
  | .laneEnd _ _ => false
  | .aboard (.known n) => decide ((s.car n).state ≠ .idle) || (s.car n).load.bench?.isNone
  | .aboard .unknown => true

/-- The corridors open to a source (R42). -/
def State.openToSource (s : State) (src : MoveSource) (c : Corridor) : Bool :=
  match src with
  | .bench _ => (match s.sourceLane src with | some l => (s.mouth l c).isSome | none => false)
  | .laneEnd l w => decide (w = .known c) && (s.mouth l c).isSome
  | .aboard (.known n) => decide (n.corridor = c)
  | .aboard .unknown => false

/-- The corridors open to both source and destination (R42). -/
def State.openCorridors (s : State) (a : MoveArgs) : List Corridor :=
  Corridor.all.filter fun c => s.openToSource a.source c && (s.mouth a.dest c).isSome

/-- The corridor asked for where one is, among those open to both (R42). -/
def State.corridorChoices (s : State) (a : MoveArgs) : List Corridor :=
  match a.corridor with
  | some (.known c) => (s.openCorridors a).filter fun d => decide (d = c)
  | some .unknown => []
  | none => s.openCorridors a

/-- A lane is a STATION with role SOURCE (R43 row 8). -/
def State.isStationSource (s : State) (l : Nat) : Bool :=
  match s.laneItem l with
  | some it => decide (it.kind = .station) && decide (it.role = some .source)
  | none => false

/-- The refusals of MOVE in order (R43 rows 3 to 12), and the order's corridor where none applies. -/
def State.judgeMove (s : State) (l : LinkId) (a : MoveArgs) : Status ⊕ Corridor :=
  let b := (s.sourceBench a.source).bind s.bench?
  if !moveOk a then .inl .range
  else if s.moveUnknown a then .inl .unknown
  else if b.any Bench.doubtful then .inl .identity
  else if b.any fun v => v.claim.isSome then .inl .claimed
  else if s.moveState a.source then .inl .state
  else if s.isStationSource a.dest || decide (s.sourceLane a.source = some a.dest) then .inl .noPath
  else
    match s.corridorChoices a with
    | [] => .inl .noPath
    | [c] =>
      if s.laneFull a.dest then .inl .laneFull
      else if (s.sourceLane a.source).any fun k => decide ((s.lane k).benches.length ≤ (s.lane k).outgoing) then .inl .laneEmpty
      else if decide (Config.maxOrders ≤ s.book.length) || decide (Config.maxShare ≤ s.share l) then .inl .full
      else .inr c
    | _ :: _ :: _ => .inl .range

/-- The id after one (R41). -/
def idAfter (n : Nat) : Nat := if 65535 ≤ n then 1 else n + 1

/-- The next-id value, advanced past the ids of live orders (R41). -/
def State.freeId (s : State) : Nat → Nat → Nat
  | 0, n => n
  | k + 1, n => if (s.order? n).isSome then s.freeId k (idAfter n) else n

/-- The id an accepted MOVE is given: the search ends within 49 values (R41). -/
def State.newId (s : State) : Nat := s.freeId 49 s.nextId

/-- The source as the order record holds it (R39). -/
def orderSource : MoveSource → Source
  | .bench n => .bench n
  | .laneEnd l _ => .laneEnd l
  | .aboard (.known n) => .aboard n
  | .aboard .unknown => .aboard .f1

/-- An order record at acceptance (R39, R44). -/
def State.newOrder (s : State) (l : LinkId) (a : MoveArgs) (cls : OrderClass) (c : Corridor) : Order where
  id := s.newId
  link := l
  base := cls
  eff := cls
  source := orderSource a.source
  srcLane := s.sourceLane a.source
  corridor := c
  dest := a.dest
  bench := s.sourceBench a.source
  carriage := match a.source with | .aboard (.known n) => some n | _ => none
  phase := .queued
  placedAt := s.seconds
  raisedAt := s.seconds

/-- An accepted MOVE takes its holdings (R44). -/
def State.acceptMove (s : State) (o : Order) : State :=
  let s1 := { s with book := s.book ++ [o], nextId := idAfter o.id }
  let s2 := match o.bench with | some b => s1.modBench b fun v => { v with claim := some o.id } | none => s1
  let s3 := match o.srcLane with | some k => s2.modLane k fun v => { v with outgoing := v.outgoing + 1 } | none => s2
  (s3.modLane o.dest fun v => { v with incoming := v.incoming + 1 }).owe o.corridor

/-- MOVE (R43, R44): answers the order's id. -/
def serveMove (l : LinkId) (s : State) (a : MoveArgs) : Served :=
  match s.judgeMove l a, a.cls with
  | .inl w, _ => refuse s w
  | .inr c, .known k => okWith (s.acceptMove (s.newOrder l a k c)) [.num s.newId]
  | .inr _, .unknown => refuse s .range

/-! ## CANCEL and ABORT (R55 to R57) -/

/-- An order's transfer has been sent (R55). -/
def Order.committed (o : Order) : Bool :=
  match o.phase with
  | .pulling | .carrying | .pushing => true
  | _ => false

/-- Ends an order and frees the carriage it holds, by the carriage's state (R56, R57, R75). -/
def State.endAndWithdraw (s : State) (o : Order) (st : EndState) : State :=
  let s1 := s.endOrder o.id st none
  match s.holder o with
  | some n => s1.withdraw n
  | none => s1

/-- CANCEL (R55, R56). -/
def serveCancel (l : LinkId) (s : State) (id : Nat) : Served :=
  if !orderNo id then refuse s .range
  else
    match s.order? id with
    | none => refuse s .unknown
    | some o =>
      if o.link ≠ l ∧ s.permits l .override = false then refuse s .denied
      else if o.committed then refuse s .committed
      else okWith (s.endAndWithdraw o .cancelled) []

/-- ABORT of a live order (R57): an order in transfer has its transfer interrupted. -/
def State.abort (s : State) (o : Order) : State :=
  match o.phase, s.holder o with
  | .pulling, some n => faultNotice n (s.faultCore n .transferInterrupted none .aborted)
  | .pushing, some n => faultNotice n (s.faultCore n .transferInterrupted none .aborted)
  | _, _ => s.endAndWithdraw o .aborted

/-- ABORT (R57). -/
def serveAbort (s : State) (id : Nat) : Served :=
  if !orderNo id then refuse s .range
  else
    match s.order? id with
    | none => refuse s .unknown
    | some o => okWith (s.abort o) []

/-! ## Reading the book (R58) -/

/-- The fields of R39 for a live order, which has no end reason; its corridor stands once, before the destination lane (log 79). -/
def Order.fields (o : Order) : List Field :=
  [.num o.id, .num o.link.number, .word (OrderClass.word o.base), .word (OrderClass.word o.eff)]
  ++ sourceFields o.corridor o.source
  ++ [.word (Corridor.word o.corridor), .num o.dest, optNum o.bench, optCarriage o.carriage, .word o.phase.word,
      Field.none, .num o.placedAt, .num o.raisedAt]

def serveOrderGet (s : State) (id : Nat) : Served :=
  if !orderNo id then refuse s .range
  else
    match s.order? id with
    | none => refuse s .unknown
    | some o => okWith s o.fields

/-- The answer of ORDER LIST over the orders it lists. -/
def listOrders (l : List Order) : List Field :=
  .num l.length :: l.flatMap fun o => [.num o.id, .num o.link.number, .word o.phase.word, .word (OrderClass.word o.eff)]

/-- ORDER LIST (R58). -/
def serveOrderList (s : State) (only : Option Nat) : Served :=
  match only with
  | none => okWith s (listOrders s.book)
  | some n =>
    match LinkId.ofNumber n with
    | none => refuse s .range
    | some l => okWith s (listOrders (s.book.filter fun o => decide (o.link = l)))

/-! ## Aging (R45) -/

/-- An order still ages: QUEUED or ASSIGNED, below URGENT. -/
def Order.ages (o : Order) : Bool :=
  (decide (o.phase = .queued) || decide (o.phase = .assigned)) && decide (o.eff ≠ .urgent)

/-- The seconds count reaches an order's last-raised-at stamp plus the aging period (R45, log 3). -/
def State.age (s : State) (id : Nat) : State :=
  match s.order? id with
  | none => s
  | some o =>
    if o.ages then
      let s1 := s.atLeast (1000 * (o.raisedAt + s.layout.unit.aging))
      s1.modOrder id fun q => { q with eff := raise q.eff, raisedAt := s1.seconds }
    else s

/-! ## Meanings -/

def execMove (l : LinkId) (q : Req MoveArgs) (s : State) : Host.Outcome State Fault Refusal :=
  .next (request s l .move MoveArgs.form q (serveMove l))

def execCancel (l : LinkId) (q : Req Nat) (s : State) : Host.Outcome State Fault Refusal :=
  .next (request s l .cancel numberOk q (serveCancel l))

def execAbort (l : LinkId) (q : Req Nat) (s : State) : Host.Outcome State Fault Refusal :=
  .next (request s l .abort numberOk q serveAbort)

def execOrderGet (l : LinkId) (q : Req Nat) (s : State) : Host.Outcome State Fault Refusal :=
  .next (request s l .orderGet numberOk q serveOrderGet)

def execOrderList (l : LinkId) (q : Req (Option Nat)) (s : State) : Host.Outcome State Fault Refusal :=
  .next (request s l .orderList optNumberOk q serveOrderList)

def execOrderAging (id : Nat) (s : State) : Host.Outcome State Fault Refusal :=
  .next (event s fun t => t.age id)

end Sys2Proof.Machine
end

