-- ==== Sys2Proof/Machine/Positions.lean ====
section
/-! DEFINITION. The meanings of chapter 6: HOME, DECLARE, GATE SERVICE, GATE GET, the filtered edges of gates and the homing timeout. -/

namespace Sys2Proof.Machine

/-! ## HOME (R113) -/

def serveHome (s : State) (q : Named CarriageName) : Served :=
  match q with
  | .unknown => refuse s .range
  | .known n =>
    if !s.hasRecord n then refuse s .unknown
    else
      match (s.car n).state with
      | .unplaced | .faulted => refuse s .state
      | .unhomed | .homing => okWith s []
      | _ => okWith (s.setRehome n) []

/-! ## DECLARE (R114) -/

/-- The declared footprint keeps the carriages' order: it lies wholly south of those of lower ordinal, wholly north of the others. -/
def State.orderKept (s : State) (n : CarriageName) (p : Int) (length : Nat) : Bool :=
  (s.carsOf n.corridor).all fun m =>
    decide (m = n) ||
      match s.footprint m with
      | none => true
      | some r => if m.ordinal < n.ordinal then decide (r.2 < p) else decide (p + length < r.1)

/-- The RANGE conditions of DECLARE for a defined name (R114); without an item or a corridor length those of length do not apply
(log 27). -/
def State.declareOk (s : State) (n : CarriageName) (p tolerance : Nat) : Bool :=
  word16 tolerance &&
    match s.item n with
    | none => true
    | some it =>
      (match s.layout.length.get n.corridor with | some e => decide (p + it.length ≤ e) | none => true)
        && s.orderKept n p it.length

/-- The tolerance clamped to 100 to 1,000 (R114). -/
def clampTolerance (t : Nat) : Nat := max 100 (min 1000 t)

/-- An accepted DECLARE (R114). -/
def State.declare (s : State) (n : CarriageName) (p tolerance : Nat) : State :=
  let u := clampTolerance tolerance
  ((s.modCar n fun v =>
    { v with
      state := .unhomed, p := some p, offset := none, uBase := u, sinceCorrection := 0, u := u, task := none
      prevAnswer := none }).seat n).owe n.corridor

/-- DECLARE (R114): answers the clamped tolerance. -/
def serveDeclare (s : State) (a : DeclareArgs) : Served :=
  match a.carriage with
  | .unknown => refuse s .range
  | .known n =>
    if !s.declareOk n a.p a.tolerance then refuse s .range
    else if !s.hasRecord n then refuse s .unknown
    else
      match (s.car n).state with
      | .unplaced | .unhomed => okWith (s.declare n a.p a.tolerance) [.num (clampTolerance a.tolerance)]
      | _ => refuse s .state

/-! ## GATE SERVICE and GATE GET (R107, R108) -/

def State.gateIn (s : State) (c : Corridor) (k : Nat) : State :=
  s.modGate c k fun g => { g with service := .inService, misses := 0, attributed := none, standstill := false }

def State.gateOut (s : State) (c : Corridor) (k : Nat) : State :=
  let s1 := s.modGate c k fun g => { g with service := .outOfService, misses := 0, attributed := none }
  if (s.gate c k).service = .inService then s1.notifyAll (.gateOut c k .link) else s1

/-- GATE SERVICE (R107): answers the new service state. -/
def serveGateService (s : State) (a : GateServiceArgs) : Served :=
  match a.c, a.word with
  | .known c, .known w =>
    if !gateNo a.k then refuse s .range
    else if (s.gateInput c a.k).isNone then refuse s .unknown
    else
      match w with
      | .putIn => okWith (s.gateIn c a.k) [.word (Service.word .inService)]
      | .takeOut => okWith (s.gateOut c a.k) [.word (Service.word .outOfService)]
  | _, _ => refuse s .range

/-- The fields of a gate record, with the samples newest first (log 63), then whether it is in use, YES or NO (log 66), and where (R99,
R108). -/
def State.gateFields (s : State) (c : Corridor) (k : Nat) : List Field :=
  let g := s.gate c k
  [optNum (s.gateInput c k), .word g.service.word, .num g.misses,
   .word (Level.word g.samples.newest), .word (Level.word g.samples.middle), .word (Level.word g.samples.oldest),
   .word (Level.word g.level), optNum g.rising, optNum g.duration, optCarriage g.attributed,
   .word (if g.standstill then "SET" else "CLEAR"), .word g.outcome.word]
  ++ [yesNo (s.gateInput c k).isSome]
  ++ (if (s.gateInput c k).isSome then [optNum (s.layout.gatePos c k)] else [])

/-- GATE GET (R108). -/
def serveGateGet (s : State) (a : TrackArgs) : Served :=
  match a.c with
  | .unknown => refuse s .range
  | .known c => if gateNo a.k then okWith s (s.gateFields c a.k) else refuse s .range

/-! ## Filtered edges (R100, R101, R105) -/

def Level.other : Level → Level
  | .clear => .present
  | .present => .clear

/-- The three samples right after the sample that made an edge to a level: the newest is that level, and of the two before it one is
and one is not (R100); `mid` is the middle one. -/
def edgeSamples (v mid : Level) : Samples Level := ⟨v, mid, if mid = v then Level.other v else v⟩

/-- The input and filter of a gate at an edge to a level. -/
def State.filterTo (s : State) (c : Corridor) (k input : Nat) (v mid : Level) : State :=
  (s.setInput input v).modGate c k fun g => { g with samples := edgeSamples v mid, level := v }

/-- A filtered rising edge: nothing at a gate not in use or already present (log 4), no use of it out of service (R100). -/
def State.edgeUp (s : State) (c : Corridor) (k : Nat) (mid : Level) : State :=
  match s.gateInput c k with
  | none => s
  | some input =>
    if (s.gate c k).level = .present then s
    else if (s.gate c k).service = .inService then (s.filterTo c k input .present mid).risingEdge c k
    else s.filterTo c k input .present mid

/-- A filtered falling edge. -/
def State.edgeDown (s : State) (c : Corridor) (k : Nat) (mid : Level) : State :=
  match s.gateInput c k with
  | none => s
  | some input =>
    if (s.gate c k).level = .clear then s
    else if (s.gate c k).service = .inService then (s.filterTo c k input .clear mid).fallingEdge c k
    else s.filterTo c k input .clear mid

/-! ## The homing timeout (R112) -/

/-- The length of a carriage's homing timeout. -/
def Carriage.homingLimit (v : Carriage) : Nat :=
  if v.homings = 0 then Config.firstHomingTimeout else Config.laterHomingTimeout

/-- The moment a carriage's homing timeout expires, while it is HOMING and its corridor is not under the hold. -/
def State.homingDue (s : State) (n : CarriageName) : Option Nat :=
  let v := s.car n
  if v.state = .homing ∧ s.hold n.corridor = false then v.homing.map fun h => h.start + v.homingLimit else none

/-- The homing timeout expires (R112). -/
def State.homingExpires (s : State) (n : CarriageName) : State :=
  match s.homingDue n with
  | none => s
  | some t => (s.atLeast t).fault n .homingFailed none

/-! ## Meanings -/

def execHome (l : LinkId) (q : Req (Named CarriageName)) (s : State) : Host.Outcome State Fault Refusal :=
  .next (request s l .home (fun _ => true) q serveHome)

def execDeclare (l : LinkId) (q : Req DeclareArgs) (s : State) : Host.Outcome State Fault Refusal :=
  .next (request s l .declare DeclareArgs.form q serveDeclare)

def execGateService (l : LinkId) (q : Req GateServiceArgs) (s : State) : Host.Outcome State Fault Refusal :=
  .next (request s l .gateService GateServiceArgs.form q serveGateService)

def execGateGet (l : LinkId) (q : Req TrackArgs) (s : State) : Host.Outcome State Fault Refusal :=
  .next (request s l .gateGet TrackArgs.form q serveGateGet)

def execGateRisingEdge (c : Corridor) (k : Nat) (mid : Level) (s : State) : Host.Outcome State Fault Refusal :=
  .next (event s fun t => t.edgeUp c k mid)

def execGateFallingEdge (c : Corridor) (k : Nat) (mid : Level) (s : State) : Host.Outcome State Fault Refusal :=
  .next (event s fun t => t.edgeDown c k mid)

def execHomingTimeout (n : CarriageName) (s : State) : Host.Outcome State Fault Refusal :=
  .next (event s fun t => t.homingExpires n)

end Sys2Proof.Machine
end

