-- ==== Sys2Proof/Machine/Stops.lean ====
section
/-! DEFINITION. The stop inputs (chapter 10): the opening (R156) and the closing (R159) of a corridor's loop. -/

namespace Sys2Proof.Machine

def LoopState.other : LoopState → LoopState
  | .closed => .opened
  | .opened => .closed

/-- The stop record right after the sample that changed the loop state; `mid` is the middle of the three samples (R155). -/
def stopRecord (v mid : LoopState) : Stop := ⟨v, ⟨v, mid, if mid = v then LoopState.other v else v⟩, v⟩

namespace State

/-- A carriage becomes HALTED and leaves every waiting set (R81, R156). -/
def halt (s : State) (n : CarriageName) (r : Remembered) : State :=
  (s.unwait n).modCar n fun v => { v with state := .halted, remembered := some r }

/-- What an opening does to one carriage (R156). -/
def haltOne (s : State) (n : CarriageName) : State :=
  match (s.car n).state with
  | .running => s.halt n .running
  | .homing => s.halt n .homing
  | .docked => (s.withdrawWait n).halt n .docked
  | .transferring => s.fault n .transferInterrupted none
  | _ => s

/-- An opening (R156): the broadcast asked for, the notices, then the carriages by ordinal (log 53). -/
def openLoop (s : State) (c : Corridor) (mid : LoopState) : State :=
  if (s.stop c).loop = .opened then s
  else
    let s1 := ((s.modStop c fun _ => stopRecord .opened mid).askBroadcast c).notifyAll (.stopOpen c)
    (s1.carsOf c).foldl haltOne s1

/-- What a closing does to one carriage (R159); one that becomes DOCKED or IDLE is converted (R84). -/
def resume (s : State) (n : CarriageName) : State :=
  match (s.car n).state, (s.car n).remembered with
  | .halted, some .running => s.modCar n fun v => { v with state := .running, remembered := none }
  | .halted, some .homing =>
    s.modCar n fun v =>
      { v with state := .homing, remembered := none, homing := v.homing.map fun h => { h with start := s.millis } }
  | .halted, some .docked =>
    ((s.modCar n fun v => { v with state := .docked, remembered := none }).convert n).lockRequest n
  | .halted, some .idle => s.becomeIdle n
  | _, _ => s

/-- A closing (R159): the notices, the carriages by ordinal (log 53), then the allocator. -/
def closeLoop (s : State) (c : Corridor) (mid : LoopState) : State :=
  if (s.stop c).loop = .closed then s
  else
    let s1 := (s.modStop c fun _ => stopRecord .closed mid).notifyAll (.stopClosed c)
    ((s1.carsOf c).foldl resume s1).owe c

end State

def execStopOpen (c : Corridor) (mid : LoopState) (s : State) : Host.Outcome State Fault Refusal :=
  .next (event s fun t => t.openLoop c mid)

def execStopClosed (c : Corridor) (mid : LoopState) (s : State) : Host.Outcome State Fault Refusal :=
  .next (event s fun t => t.closeLoop c mid)

end Sys2Proof.Machine
end

