-- ==== Sys2Proof/Machine/Clock.lean ====
section
/-! DEFINITION. The clock (log 2, log 3, log 20): what a millisecond brings about when no command waits: the samples of the inputs (R100,
R155) and the commands that fall due by the clock. -/

namespace Sys2Proof.Machine

namespace State

/-- The edge a new sample makes at a gate in use, where it makes one (R100). -/
def gateEdge (c : Corridor) (k : Nat) (g : Gate) : List Instr :=
  if g.samples.majority = g.level then []
  else
    match g.samples.majority with
    | .present => [.gateRisingEdge c k g.samples.middle]
    | .clear => [.gateFallingEdge c k g.samples.middle]

/-- The change a new sample makes at a stop input, where it makes one (R155). -/
def loopEdge (c : Corridor) (x : Stop) : List Instr :=
  if x.samples.majority = x.loop then []
  else
    match x.samples.majority with
    | .opened => [.stopOpen c x.samples.middle]
    | .closed => [.stopClosed c x.samples.middle]

/-- One sample of every gate in use of a corridor and of its stop input. -/
def sampleOn (s : State) (c : Corridor) : State :=
  let s1 := (s.layout.gates.get c).entries.foldl (fun t e =>
    t.modGate c e.1 fun g => { g with samples := g.samples.push (t.inputLevel e.2) }) s
  s1.modStop c fun x => { x with samples := x.samples.push x.input }

/-- The samples taken every 2 ms (R100, R155). -/
def sample (s : State) : State :=
  if s.millis % 2 = 0 then (s.sampleOn .f).sampleOn .t else s

/-- The edges the latest samples made. -/
def edgesOn (s : State) (c : Corridor) : List Instr :=
  loopEdge c (s.stop c) ++ (s.layout.gates.get c).keys.flatMap fun k => gateEdge c k (s.gate c k)

/-- A moment has come. -/
def come (s : State) (m : Nat) : Bool := decide (m ≤ s.millis)

/-- The commands of a drive line that are due: a broadcast that begins or ends, a window that closes, a cycle that begins. -/
def lineDue (s : State) (c : Corridor) : List Instr :=
  let w := s.line c
  (if w.broadcastEnds.any s.come || (w.broadcast && w.inFlight.isNone && w.broadcastEnds.isNone) then [.broadcastBrake c] else [])
  ++ (if w.inFlight.any fun ex => s.come (ex.sentAt + Config.answerWindow) then [.missedExchange c] else [])
  ++ (if s.come (s.cycleDue c) then [.pollingCycle c] else [])

/-- The timeouts of a carriage that are due (R112, R138). -/
def carDue (s : State) (n : CarriageName) : List Instr :=
  (if (s.transferDue n).any s.come then [.transferTimeout n] else [])
  ++ (if (s.homingDue n).any s.come then [.homingTimeout n] else [])

/-- The agings that are due (R45). -/
def agingsDue (s : State) : List Instr :=
  (s.book.filter fun o => o.ages && s.come (1000 * (o.raisedAt + s.layout.unit.aging))).map fun o => .orderAging o.id

/-- Every command that falls due by the clock. -/
def due (s : State) : List Instr :=
  s.edgesOn .f ++ s.edgesOn .t ++ s.lineDue .f ++ s.lineDue .t ++ CarriageName.all.flatMap s.carDue ++ s.agingsDue

/-- One millisecond of a powered unit with no command waiting; an unpowered unit idles. -/
def tick (s : State) : State :=
  if s.powered then
    let s1 := ({ s with millis := s.millis + 1 }).sample
    { s1 with pending := s1.due }
  else s

end State

end Sys2Proof.Machine
end

