-- ==== Sys2Proof/Machine/CarriageRequests.lean ====
section
/-! DEFINITION. The meanings of chapter 4: CLEAR, CARRIAGE GET and CARRIAGE LIST; and AUTHORITY GET of chapter 7, which reports what the
authority unit keeps of a carriage. -/

namespace Sys2Proof.Machine

/-! ## CLEAR (R65, R66) -/

/-- The refusals of CLEAR for a carriage whose item is present (R65): STATE in each case. -/
def State.clearBarred (s : State) (n : CarriageName) : Bool :=
  let v := s.car n
  decide (v.state ≠ .faulted) || decide (v.link = .lost) || decide (v.driveState = some .driveFault) || decide (v.load = .straddled)

/-- u after a lost link: grown by the stopping distance at the last speed reported before the silence (R66, log 42). -/
def State.grownU (s : State) (n : CarriageName) : Nat :=
  match s.item n with
  | some it => (s.car n).u + stopDistance it.decel (s.timing n.corridor).reaction (s.car n).lostSpeed
  | none => (s.car n).u

/-- The state CLEAR gives (R66). -/
def State.clearedState (s : State) (n : CarriageName) : CarState :=
  let v := s.car n
  match v.faultKind with
  | some .driveFault => if v.p.isSome then .idle else .unplaced
  | some .transferInterrupted => .idle
  | some .linkLost => if v.p.isSome && decide (s.grownU n < Config.maxU) then .unhomed else .unplaced
  | some .positionLost => .unplaced
  | some .homingFailed => .unplaced
  | none => .idle

/-- The carriage record after CLEAR (R66): a dropped distance is 0 (log 80), as is u without a position (log 12). -/
def State.clearedRecord (s : State) (n : CarriageName) : Carriage :=
  let v := s.car n
  let st := s.clearedState n
  let w := { v with state := st, faultKind := none, faultCode := none }
  let w1 := if st = .idle then w else { w with rehome := false, slip := false }
  match v.faultKind with
  | some .linkLost =>
    if v.p.isSome then
      let u := min Config.maxU (s.grownU n)
      { w1 with u := u, uBase := u, sinceCorrection := 0 }
    else w1
  | some .positionLost => { w1 with p := none, offset := none, sinceCorrection := 0, sinceHoming := 0, u := 0, uBase := 0 }
  | some .homingFailed => { w1 with p := none, offset := none, sinceCorrection := 0, sinceHoming := 0, u := 0, uBase := 0 }
  | _ => w1

/-- An accepted CLEAR (R66, R84, R92, R93): the state, the CARRIAGE_LOST fences lifted, the conversion or seating, then the retries
the lifts call for, and the allocator (log 32); the lifts by rising segment number (log 62). -/
def State.clearCarriage (s : State) (n : CarriageName) : State :=
  let c := n.corridor
  let st := s.clearedState n
  let lost := s.lostFences n
  let s1 := lost.foldl (fun t k => t.liftFence c k) (s.setCar n (s.clearedRecord n))
  let s2 := if st = .idle then s1.becomeIdle n else if st = .unhomed then (s1.seat n).owe c else s1
  retryAll c lost s2

/-- CLEAR (R65, R66): answers the new state. -/
def serveClear (s : State) (q : Named CarriageName) : Served :=
  match q with
  | .unknown => refuse s .range
  | .known n =>
    if !s.hasRecord n then refuse s .unknown
    else if s.clearBarred n then refuse s .state
    else okWith (s.clearCarriage n) [.word (s.clearedState n).word]

/-! ## Reading the carriage records (R76, R110, R142) -/

/-- The fields of a task (R61, R76); the ends of its interval are written uncut, below 0 too (log 77), the waiting-for set in the order its
shifts were planned (log 40), and the work a SHIFT runs for with its kind before it (log 60). -/
def Task.fields : Option Task → List Field
  | none => [Field.none]
  | some k =>
    [.word k.kind.word, .num k.lo, .num k.hi, carriageSet k.waitingFor, optInt k.target]
    ++ (match k.work with
        | some (.order id) => [.word "ORDER", .num id]
        | some (.homing n) => [.word "HOMING", .word (CarriageName.word n)]
        | none => [Field.none])

def markFields : Option TransferMark → List Field
  | none => [.word "CLEAR"]
  | some k => [.num k.lane, .word (Corridor.word k.mouth), .num k.bench]

def homingFieldsOf : Option HomingFields → List Field
  | none => [Field.none]
  | some h => [.num h.gate, .num h.target, .num h.start]

def transferFields (c : Corridor) : Option Transfer → List Field
  | none => [Field.none]
  | some t =>
    [.word t.kind.word, .num t.lane, .word (Corridor.word c), .word (Side.word t.side), .num t.order, .num t.bench,
     .word (if t.startLoaded then "LOADED" else "EMPTY"), .num t.start]

/-- The docked mouth, by its lane and corridor, while DOCKED (R128, R142). -/
def dockedFields (c : Corridor) (v : Carriage) : List Field :=
  match v.state, v.docked with
  | .docked, some l => [.num l, .word (Corridor.word c)]
  | _, _ => [Field.none]

/-- The load of the last valid answer, which CARRIAGE GET reports after the last drive state (R152, log 65). -/
def lastLoadField : Option Bool → Field
  | some true => .word "LOADED"
  | some false => .word "EMPTY"
  | none => Field.none

def recognizerFields : Recognizer → List Field
  | .hunt k => [.word "HUNT", .num k]
  | .body l => [.word "BODY", .num l.length]

/-- The fields CARRIAGE GET reports of a record: R60 in its order, then the link state, the homing fields and the transfer unit's. -/
def carriageFields (n : CarriageName) (v : Carriage) : List Field :=
  [.word (CarriageName.word n), .word v.state.word,
   (match v.remembered with | some r => .word r.word | none => Field.none),
   (match v.faultKind with | some k => .word k.word | none => Field.none),
   optNum v.faultCode, loadField v.load, optNum v.assigned]
  ++ Task.fields v.task
  ++ [optInt v.p, optInt v.offset, .num v.u, .num v.uBase, .num v.sinceCorrection, .num v.sinceHoming,
      .word (if v.slip then "SET" else "CLEAR"), .word (if v.rehome then "SET" else "CLEAR"), optDir v.dir, .num v.speed,
      (match v.driveState with | some d => .word (DriveState.word d) | none => Field.none), lastLoadField v.lastLoad]
  ++ markFields v.mark
  ++ [.num v.homings, .word v.link.word]
  ++ homingFieldsOf v.homing
  ++ dockedFields n.corridor v
  ++ transferFields n.corridor v.transfer
  ++ [optNum v.slot, .word (if v.slotOverrun then "SET" else "CLEAR")]
  ++ recognizerFields v.recognizer

/-- CARRIAGE GET (R76). -/
def serveCarriageGet (s : State) (q : Named CarriageName) : Served :=
  match q with
  | .unknown => refuse s .range
  | .known n => if s.hasRecord n then okWith s (carriageFields n (s.car n)) else refuse s .unknown

/-- CARRIAGE LIST (R76). -/
def serveCarriageList (s : State) (q : Named Corridor) : Served :=
  match q with
  | .unknown => refuse s .range
  | .known c =>
    okWith s ((s.carsOf c).flatMap fun n =>
      let v := s.car n
      [.word (CarriageName.word n), .word v.state.word,
       (match v.faultKind with | some k => .word k.word | none => Field.none), loadField v.load, optNum v.assigned])

/-! ## AUTHORITY GET (R127) -/

/-- The words of a run end and a fence end (log 51). -/
def EndKind.word : EndKind → String
  | .runEnd => "RUN_END"
  | .fenceEnd => "FENCE_END"

/-- The fields of the figures kept (R126, R127): the four cap terms in fixed places, NONE for one that does not apply, and one NONE
where no figures are kept (log 52). -/
def figureFields : Option Figures → List Field
  | none => [Field.none]
  | some g =>
    (match g.authority with | some (a, k) => [.num a, .word k.word] | none => [Field.none])
    ++ [optInt g.dA, optInt g.dT, .num g.capV, optNum g.capA, optNum g.capT, optNum g.capC, .num g.cap, .word g.mode.word,
        (match g.target with | some t => .num t.toInt | none => Field.none), .num g.second]

/-- The fields of AUTHORITY GET (R127), one NONE for an absent leg (log 52); the horizon is written uncut, below 0 too (log 77). -/
def authorityFields (v : Carriage) : List Field :=
  (match v.leg with | some leg => [.word (Dir.word leg.dir), .num leg.target] | none => [Field.none])
  ++ [optInt v.horizon, .nums v.requestList] ++ figureFields v.figures

def serveAuthorityGet (s : State) (q : Named CarriageName) : Served :=
  match q with
  | .unknown => refuse s .range
  | .known n => if s.hasRecord n then okWith s (authorityFields (s.car n)) else refuse s .unknown

/-! ## Meanings -/

def execClear (l : LinkId) (q : Req (Named CarriageName)) (s : State) : Host.Outcome State Fault Refusal :=
  .next (request s l .clear (fun _ => true) q serveClear)

def execCarriageGet (l : LinkId) (q : Req (Named CarriageName)) (s : State) : Host.Outcome State Fault Refusal :=
  .next (request s l .carriageGet (fun _ => true) q serveCarriageGet)

def execCarriageList (l : LinkId) (q : Req (Named Corridor)) (s : State) : Host.Outcome State Fault Refusal :=
  .next (request s l .carriageList (fun _ => true) q serveCarriageList)

def execAuthorityGet (l : LinkId) (q : Req (Named CarriageName)) (s : State) : Host.Outcome State Fault Refusal :=
  .next (request s l .authorityGet (fun _ => true) q serveAuthorityGet)

end Sys2Proof.Machine
end

