-- ==== Sys2Proof/Machine/Inventory.lean ====
section
/-! DEFINITION. The meanings of the inventory requests (chapter 2): LANE GET, BENCH GET, ARRIVE, HANDOFF, LANE SET, BENCH SET, DELETE,
IDENT, SWAP and SETTLE. -/

namespace Sys2Proof.Machine

namespace State

/-- A carriage is TRANSFERRING at a mouth of a lane (R32, R37). -/
def transferringAt (s : State) (l : Nat) : Bool :=
  CarriageName.all.any fun n =>
    decide ((s.car n).state = .transferring) && decide ((s.car n).transfer.map (·.lane) = some l)

/-- A carriage is DOCKED at a mouth of a lane (R24). -/
def dockedAt (s : State) (l : Nat) : Bool :=
  CarriageName.all.any fun n => decide ((s.car n).state = .docked) && decide ((s.car n).docked = some l)

/-- A lane is quiet (R24). -/
def quiet (s : State) (l : Nat) : Bool :=
  decide ((s.lane l).incoming = 0) && decide ((s.lane l).outgoing = 0) && (s.lane l).lock.isNone
    && (s.straddlers l).isEmpty && !s.transferringAt l && !s.dockedAt l

/-- A run is owed on each corridor on which a lane has a mouth (R69). -/
def oweMouths (s : State) (l : Nat) : State :=
  let s1 := if (s.mouth l .f).isSome then s.owe .f else s
  if (s1.mouth l .t).isSome then s1.owe .t else s1

/-- The corridor of a one-mouth lane's mouth (R166); absent where the layout gives it none (log 34), F where it gives it two (log 58). -/
def stationCorridor (s : State) (l : Nat) : Option Corridor :=
  if (s.mouth l .f).isSome then some .f else if (s.mouth l .t).isSome then some .t else none

end State

/-! ## Reading -/

def mouthFields (c : Corridor) : Option MouthItem → List Field
  | some m => [.word (Corridor.word c), .word (Side.word m.side), .num m.dock]
  | none => []

/-- The fields of a lane entry (R18, R30, R129, R142): the F mouth before the T mouth, the lock holder by its mouth's corridor (log 73);
the waiting carriage stands last (log 68). -/
def State.laneFields (s : State) (l : Nat) : List Field :=
  let v := s.lane l
  let it := s.laneItem l
  [.num l,
   (match it with | some i => .word (LaneKind.word i.kind) | none => Field.none),
   (match it.bind (·.role) with | some r => .word (StationRole.word r) | none => Field.none),
   optNum (it.map (·.capacity))]
  ++ (if it.isSome && ((s.mouth l .f).isSome || (s.mouth l .t).isSome) then
        mouthFields .f (s.mouth l .f) ++ mouthFields .t (s.mouth l .t)
      else [Field.none])
  ++ [.nums v.benches, .num v.incoming, .num v.outgoing, optCorridor (if s.isBay l then v.lock else none),
      .num (s.held l), .nums (s.straddlers l), optCarriage v.waiting]

/-- LANE GET (R30). -/
def serveLaneGet (s : State) (l : Nat) : Served :=
  if !laneNo l then refuse s .range
  else if (s.laneItem l).isNone && (s.lane l).benches.isEmpty then refuse s .unknown
  else okWith s (s.laneFields l)

/-- The fields of a bench record (R25, R30). -/
def State.benchFields (s : State) (b : Nat) (v : Bench) : List Field :=
  [.num b, .num v.batch, .word (Readiness.word v.readiness), optNum v.reference]
  ++ placeFields (fun l => indexIn b (s.lane l).benches) v.place ++ identityFields v.identity
  ++ [optNum v.claim, .num v.lastMoved]

/-- BENCH GET (R30). -/
def serveBenchGet (s : State) (b : Nat) : Served :=
  if !benchNo b then refuse s .range
  else
    match s.bench? b with
    | none => refuse s .unknown
    | some v => okWith s (s.benchFields b v)

/-! ## ARRIVE and HANDOFF -/

/-- A lane is a STATION with a role. -/
def State.isStation (s : State) (l : Nat) (r : StationRole) : Bool :=
  match s.laneItem l with
  | some it => decide (it.kind = .station) && decide (it.role = some r)
  | none => false

/-- The refusals of ARRIVE (R31), in order. -/
def arriveRefusal (s : State) (a : ArriveArgs) : Option Status :=
  if !(benchNo a.bench && laneNo a.lane && word16 a.batch && a.readiness.val?.isSome && optRange referenceNo a.reference) then
    some .range
  else if (s.laneItem a.lane).isNone then some .unknown
  else if !s.isStation a.lane .source then some .range
  else if (s.claimOf a.bench).isSome then some .claimed
  else if (s.bench? a.bench).any fun v => decide (v.place ≠ .outside) then some .collision
  else if s.laneFull a.lane then some .laneFull
  else if (s.bench? a.bench).isNone && decide (Config.maxBenches ≤ s.benches.size) then some .full
  else none

/-- An accepted ARRIVE (R31). -/
def State.arrive (s : State) (a : ArriveArgs) (r : Readiness) : State :=
  let s1 := s.setBench a.bench ⟨a.batch, r, a.reference, .inLane a.lane, .verified, none, s.seconds⟩
  let s2 := s1.modLane a.lane fun v => { v with benches := v.benches ++ [a.bench] }
  (s2.offer ⟨.arrived a.lane a.bench, s.stationCorridor a.lane, some a.lane, some a.bench, none⟩).oweMouths a.lane

/-- ARRIVE (R31): answers the bench's index in the list. -/
def serveArrive (s : State) (a : ArriveArgs) : Served :=
  match arriveRefusal s a, a.readiness with
  | some w, _ => refuse s w
  | none, .known r => okWith (s.arrive a r) [.num (s.lane a.lane).benches.length]
  | none, .unknown => refuse s .range

/-- The SINK station in whose list a bench stands. -/
def State.sinkOf (s : State) (b : Nat) : Option Nat :=
  match (s.bench? b).map Bench.place with
  | some (.inLane l) => if s.isStation l .sink then some l else none
  | _ => none

/-- HANDOFF (R32). -/
def serveHandoff (s : State) (b : Nat) : Served :=
  if !benchNo b then refuse s .range
  else if (s.bench? b).isNone then refuse s .unknown
  else
    match s.sinkOf b with
    | none => refuse s .state
    | some l =>
      if (s.claimOf b).isSome || s.transferringAt l || decide ((s.lane l).outgoing = (s.lane l).benches.length) then
        refuse s .collision
      else
        okWith ((((s.leaveLane l b).moveBench b .outside).offer
          ⟨.departed l b, s.stationCorridor l, some l, some b, none⟩).oweMouths l) []

/-! ## LANE SET (R33) -/

def hasRepeat : List Nat → Bool
  | [] => false
  | b :: rest => rest.contains b || hasRepeat rest

/-- A named bench keeps LANE SET out: claimed, STRADDLING, or standing in another lane that is not quiet. -/
def State.benchBars (s : State) (l b : Nat) : Bool :=
  match s.bench? b with
  | none => false
  | some v =>
    v.claim.isSome ||
      match v.place with
      | .straddling _ _ _ => true
      | .inLane k => decide (k ≠ l) && !s.quiet k
      | _ => false

/-- The refusals of LANE SET (R33), in order. A lane without an item has no capacity to be longer than (UNKNOWN follows). -/
def laneSetRefusal (s : State) (a : LaneSetArgs) : Option Status :=
  if !laneNo a.lane || !a.benches.all benchNo || hasRepeat a.benches
      || (s.laneItem a.lane).any (fun it => decide (it.capacity < a.benches.length)) then some .range
  else if (s.laneItem a.lane).isNone then some .unknown
  else if !s.quiet a.lane || a.benches.any (s.benchBars a.lane) then some .collision
  else if Config.maxBenches < s.benches.size + (a.benches.filter fun b => (s.bench? b).isNone).length then some .full
  else none

/-- Step 1: a record for a number that has none. -/
def State.register (s : State) (b : Nat) : State :=
  if (s.bench? b).isNone then s.setBench b ⟨0, .growing, none, .outside, .unread, none, 0⟩ else s

/-- Step 2: a named bench leaves another lane's list or a carriage's load, with the runs that change owes (R69). -/
def State.takeOut (l : Nat) (s : State) (b : Nat) : State :=
  match (s.bench? b).map Bench.place with
  | some (.inLane k) => if k = l then s else (s.leaveLane k b).oweMouths k
  | some (.aboard n) => (s.modCar n fun v => { v with load := .empty }).owe n.corridor
  | _ => s

/-- Step 4 for one bench, with the stamp of step 5 where its place changes. -/
def State.placeAt (l : Nat) (old new : List Nat) (s : State) (b : Nat) : State :=
  let same := old.contains b && decide (indexIn b old = indexIn b new)
  if same then s.modBench b fun v => { v with place := .inLane l } else s.moveBench b (.inLane l)

/-- An accepted LANE SET (R33). -/
def State.laneSet (s : State) (l : Nat) (new : List Nat) : State :=
  let old := (s.lane l).benches
  let s1 := new.foldl State.register s
  let s2 := new.foldl (State.takeOut l) s1
  let s3 := (old.filter fun b => !new.contains b).foldl (fun t b => t.moveBench b .outside) s2
  let s4 := s3.modLane l fun v => { v with benches := new }
  let s5 := new.foldl (State.placeAt l old new) s4
  if old = new then s5 else s5.oweMouths l

/-- LANE SET (R33). -/
def serveLaneSet (s : State) (a : LaneSetArgs) : Served :=
  match laneSetRefusal s a with
  | some w => refuse s w
  | none => okWith (s.laneSet a.lane a.benches) []

/-! ## BENCH SET, DELETE, IDENT -/

/-- The values of a BENCH SET lie in their ranges (R34). -/
def benchSetOk (a : BenchSetArgs) : Bool :=
  benchNo a.bench && optRange word16 a.batch
    && (match a.readiness with | some w => w.val?.isSome | none => true)
    && (match a.reference with | some (.known r) => optRange referenceNo r | some .unknown => false | none => true)

/-- The marks a BENCH SET leaves (R34). -/
def benchMarks (a : BenchSetArgs) (v : Bench) : Bench :=
  { v with
    batch := a.batch.getD v.batch
    readiness := (a.readiness.bind Named.val?).getD v.readiness
    reference := match a.reference with | some (.known r) => r | _ => v.reference }

/-- BENCH SET (R34). -/
def serveBenchSet (s : State) (a : BenchSetArgs) : Served :=
  if !benchSetOk a then refuse s .range
  else if (s.bench? a.bench).isNone then refuse s .unknown
  else okWith (s.modBench a.bench (benchMarks a)) []

/-- BENCH DELETE (R35). -/
def serveBenchDelete (s : State) (b : Nat) : Served :=
  if !benchNo b then refuse s .range
  else
    match s.bench? b with
    | none => refuse s .unknown
    | some v => if v.place = .outside then okWith { s with benches := s.benches.del b } [] else refuse s .state

/-- BENCH IDENT (R36). -/
def serveBenchIdent (s : State) (b : Nat) : Served :=
  if !benchNo b then refuse s .range
  else if (s.bench? b).isNone then refuse s .unknown
  else okWith (s.setIdentity b .verified) []

/-! ## BENCH SWAP (R37) -/

/-- A bench keeps BENCH SWAP out: claimed, STRADDLING, or in a lane at a mouth of which a carriage is TRANSFERRING. -/
def State.swapBars (s : State) (v : Bench) : Bool :=
  v.claim.isSome ||
    match v.place with
    | .straddling _ _ _ => true
    | .inLane l => s.transferringAt l
    | _ => false

def swapNumber (n m x : Nat) : Nat := if x = n then m else if x = m then n else x

def swapLoad (n m : Nat) : Load → Load
  | .bench x => .bench (swapNumber n m x)
  | v => v

/-- The runs a changed place owes (R69). -/
def State.owePlace (s : State) : Place → State
  | .inLane l => s.oweMouths l
  | .aboard n => s.owe n.corridor
  | _ => s

/-- An accepted BENCH SWAP (R37): lists and loads change numbers, the records exchange places. -/
def State.swap (s : State) (n m : Nat) (x y : Bench) : State :=
  let s1 := { s with lanes := s.lanes.mapValues fun _ v => { v with benches := v.benches.map (swapNumber n m) } }
  let s2 := CarriageName.all.foldl (fun t c => t.modCar c fun v => { v with load := swapLoad n m v.load }) s1
  let stamp := fun old : Nat => if x.place = .outside ∧ y.place = .outside then old else s.seconds
  let s3 := s2.setBench n { x with place := y.place, identity := .verified, lastMoved := stamp x.lastMoved }
  let s4 := s3.setBench m { y with place := x.place, identity := .verified, lastMoved := stamp y.lastMoved }
  (s4.owePlace x.place).owePlace y.place

/-- BENCH SWAP (R37). -/
def serveBenchSwap (s : State) (a : BenchSwapArgs) : Served :=
  if !benchNo a.n || !benchNo a.m || decide (a.n = a.m) then refuse s .range
  else
    match s.bench? a.n, s.bench? a.m with
    | some x, some y => if s.swapBars x || s.swapBars y then refuse s .collision else okWith (s.swap a.n a.m x y) []
    | _, _ => refuse s .unknown

/-! ## BENCH SETTLE (R38, R139) -/

/-- An accepted BENCH SETTLE: the place, the load, the identity and stamp, then the lock and the allocator (R38, R130, R139). -/
def State.settleBench (s : State) (b : Nat) (w : SettleWhere) (n : CarriageName) (l : Nat) (c : Corridor) : State :=
  let s1 :=
    match w with
    | .aboard => (s.moveBench b (.aboard n)).modCar n fun v => { v with load := .bench b }
    | .inLane => (((s.joinAt l c b).moveBench b (.inLane l)).modCar n fun v => { v with load := .empty }).oweMouths l
  ((s1.setIdentity b .unread).releaseLock l).owe n.corridor

/-- BENCH SETTLE (R38). -/
def serveBenchSettle (s : State) (a : BenchSettleArgs) : Served :=
  if !benchNo a.bench then refuse s .range
  else
    match a.place with
    | .unknown => refuse s .range
    | .known w =>
      match s.bench? a.bench with
      | none => refuse s .unknown
      | some v =>
        match v.place with
        | .straddling n l c => okWith (s.settleBench a.bench w n l c) []
        | _ => refuse s .state

/-! ## Meanings -/

def execLaneGet (l : LinkId) (q : Req Nat) (s : State) : Host.Outcome State Fault Refusal :=
  .next (request s l .laneGet numberOk q serveLaneGet)

def execBenchGet (l : LinkId) (q : Req Nat) (s : State) : Host.Outcome State Fault Refusal :=
  .next (request s l .benchGet numberOk q serveBenchGet)

def execArrive (l : LinkId) (q : Req ArriveArgs) (s : State) : Host.Outcome State Fault Refusal :=
  .next (request s l .arrive ArriveArgs.form q serveArrive)

def execHandoff (l : LinkId) (q : Req Nat) (s : State) : Host.Outcome State Fault Refusal :=
  .next (request s l .handoff numberOk q serveHandoff)

def execLaneSet (l : LinkId) (q : Req LaneSetArgs) (s : State) : Host.Outcome State Fault Refusal :=
  .next (request s l .laneSet LaneSetArgs.form q serveLaneSet)

def execBenchSet (l : LinkId) (q : Req BenchSetArgs) (s : State) : Host.Outcome State Fault Refusal :=
  .next (request s l .benchSet BenchSetArgs.form q serveBenchSet)

def execBenchDelete (l : LinkId) (q : Req Nat) (s : State) : Host.Outcome State Fault Refusal :=
  .next (request s l .benchDelete numberOk q serveBenchDelete)

def execBenchIdent (l : LinkId) (q : Req Nat) (s : State) : Host.Outcome State Fault Refusal :=
  .next (request s l .benchIdent numberOk q serveBenchIdent)

def execBenchSwap (l : LinkId) (q : Req BenchSwapArgs) (s : State) : Host.Outcome State Fault Refusal :=
  .next (request s l .benchSwap BenchSwapArgs.form q serveBenchSwap)

def execBenchSettle (l : LinkId) (q : Req BenchSettleArgs) (s : State) : Host.Outcome State Fault Refusal :=
  .next (request s l .benchSettle BenchSettleArgs.form q serveBenchSettle)

end Sys2Proof.Machine
end

