-- ==== Sys2Proof/Machine/LayoutStore.lean ====
section
/-! DEFINITION. The meanings of the commands of chapter 1: POWER_ON, LAYOUT GET and SET, MODE CONFIGURE and RUN, SAVE and its end,
RESTART, POWER_LOSS. -/

namespace Sys2Proof.Machine

/-- The store is busy with a SAVE placed by another link (R6, R10, R11, R13). -/
def State.busyFor (s : State) (l : LinkId) : Bool :=
  match s.storeBusy with
  | some m => decide (m ≠ l)
  | none => false

/-- LAYOUT GET (R5); a key out of its range is a RANGE fault of R176 (log 23). -/
def serveLayoutGet (s : State) (k : ItemKey) : Served :=
  if !keyOk k then refuse s .range
  else
    match s.itemFields k with
    | none => refuse s .unknown
    | some l => okWith s l

/-- The item an edit takes out, where it is REMOVE. -/
def removedKey : LayoutEdit → Option ItemKey
  | .remove k => some k
  | _ => none

/-- LAYOUT SET (R6, R7). -/
def serveLayoutSet (l : LinkId) (s : State) (e : LayoutEdit) : Served :=
  if s.busyFor l then refuse s .busy
  else if s.mode = .running then refuse s .mode
  else if (removedKey e).any fun k => (s.itemFields k).isNone then refuse s .unknown
  else if !s.editOk e then refuse s .range
  else okWith (s.applyEdit e) []

/-- Some carriage is RUNNING, HOMING, DOCKED, TRANSFERRING or HALTED (R10). -/
def State.working (s : State) : Bool :=
  CarriageName.all.any fun n =>
    s.hasRecord n &&
      match (s.car n).state with
      | .running | .homing | .docked | .transferring | .halted => true
      | _ => false

/-- MODE CONFIGURE (R10). -/
def serveModeConfigure (l : LinkId) (s : State) (_ : Unit) : Served :=
  if s.busyFor l then refuse s .busy
  else if s.mode = .configuring then okWith s []
  else if !s.book.isEmpty || s.working then refuse s .busy
  else okWith (({ s with mode := .configuring }.unwaitAll .f).unwaitAll .t) []

/-- The three things MODE RUN does before it answers OK (R11), with the allocator runs that entering RUNNING calls for (R69); within each
step F is taken before T (log 62). -/
def State.enterRunning (s : State) : State :=
  let s1 := ((s.dropStaleFences .f).dropStaleFences .t)
  let s2 := (s1.seatAll .f).seatAll .t
  ({ s2 with mode := .running }.owe .f).owe .t

/-- MODE RUN (R11). -/
def serveModeRun (l : LinkId) (s : State) (_ : Unit) : Served :=
  if s.busyFor l then refuse s .busy
  else if s.mode = .running then okWith s []
  else
    match s.check with
    | some i => ⟨s, some ⟨.range, i.fields, []⟩⟩
    | none => okWith s.enterRunning []

/-- SAVE (R13): the answer waits for SAVE_COMPLETE (R177). -/
def serveSave (l : LinkId) (s : State) (_ : Unit) : Served :=
  if s.busyFor l then refuse s .busy
  else if s.mode = .running then refuse s .mode
  else
    match s.check with
    | some i => ⟨s, some ⟨.range, i.fields, []⟩⟩
    | none => ⟨{ s with storeBusy := some l }, none⟩

/-- POWER_ON (R15, R16). Power that reaches a powered unit was lost first (log 5). -/
def execPowerOn (pins : Pins) (s : State) : Host.Outcome State Fault Refusal :=
  .next ((if s.powered then s.powerFails false else s).start pins true)

def execLayoutGet (l : LinkId) (q : Req ItemKey) (s : State) : Host.Outcome State Fault Refusal :=
  .next (request s l .layoutGet ItemKey.form q serveLayoutGet)

def execLayoutSet (l : LinkId) (q : Req LayoutEdit) (s : State) : Host.Outcome State Fault Refusal :=
  .next (request s l .layoutSet LayoutEdit.form q (serveLayoutSet l))

def execModeConfigure (l : LinkId) (q : Req Unit) (s : State) : Host.Outcome State Fault Refusal :=
  .next (request s l .modeConfigure (fun _ => true) q (serveModeConfigure l))

def execModeRun (l : LinkId) (q : Req Unit) (s : State) : Host.Outcome State Fault Refusal :=
  .next (request s l .modeRun (fun _ => true) q (serveModeRun l))

def execSave (l : LinkId) (q : Req Unit) (s : State) : Host.Outcome State Fault Refusal :=
  .next (request s l .save (fun _ => true) q (serveSave l))

/-- The store write and its read-back end (R13, R177): `same` tells that the comparison found no difference. -/
def State.saveEnds (s : State) (same : Bool) : State :=
  match s.storeBusy with
  | none => s
  | some l =>
    { s with storeBusy := none, saved := ⟨s.layout, same⟩ }.answer l .save (.refuse (if same then .ok else .storeFailed))

def execSaveComplete (same : Bool) (s : State) : Host.Outcome State Fault Refusal :=
  .next (event s fun t => t.saveEnds same)

/-- An accepted RESTART (R17, R177): the OK answer is the last line of the link, and the start follows in the same event. -/
def State.restart (s : State) (l : LinkId) (pins : Pins) : State :=
  (s.start pins false).modLink l fun k => { k with answer := ((s.answer l .restart (.ok [])).link l).answer }

/-- RESTART (R17). -/
def execRestart (l : LinkId) (q : Req Unit) (pins : Pins) (s : State) : Host.Outcome State Fault Refusal :=
  .next
    (if !s.powered then s
     else if (s.link l).outstanding.isSome then s.overrunLine l
     else
       match portJudges (s.takeLine l .restart) l .restart (fun _ => true) q with
       | .inl st => (s.takeLine l (answeredAs .restart q)).answer l (answeredAs .restart q) (.refuse st)
       | .inr _ =>
         if s.storeBusy.isSome then (s.takeLine l .restart).answer l .restart (.refuse .busy)
         else (s.takeLine l .restart).restart l pins)

/-- POWER_LOSS (R12, R14). -/
def execPowerLoss (cutRetained : Bool) (s : State) : Host.Outcome State Fault Refusal :=
  .next (if s.powered then s.powerFails cutRetained else s)

end Sys2Proof.Machine
end

