-- ==== Sys2Proof/Machine/LinkRequests.lean ====
section
/-! DEFINITION. The meanings of chapters 11 and 12: STATUS, WATCH, FETCH, ATTENTION, bad lines, overruns and the end of an answer. -/

namespace Sys2Proof.Machine

/-- STATUS (R178). -/
def serveStatus (l : LinkId) (s : State) (_ : Unit) : Served :=
  okWith s
    [.word s.mode.word, yesNo s.storeBusy.isSome, .num s.book.length, .num s.benches.size,
     .word (LoopState.word (s.stop .f).loop), .word (LoopState.word (s.stop .t).loop), yesNo (s.hold .f), yesNo (s.hold .t),
     .num (s.link l).badLines, .num s.seconds]

/-! ## WATCH (R167) -/

/-- The lane selector a line gives, where it lies in its range. -/
def laneSelOf : LaneSelArg → Option LaneSel
  | .any => some .any
  | .number n => if laneNo n then some (.number n) else none
  | .kind k => some (.kind k)
  | .unknown => none

/-- The slot a line's fields give, where every field lies in its range (R167). -/
def slotOf (a : SlotArgs) : Option WatchSlot :=
  match a.andPrev.val?, namedAll a.events, a.corridor.val?, laneSelOf a.lane, namedAll a.readiness with
  | some p, some ev, some c, some sel, some rd =>
    if word16 a.batchValue && word16 a.batchMask && (match a.reference with | .equal v => referenceNo v | _ => true) then
      some ⟨a.enabled, p, [EventKind.arrived, .departed, .ended, .identity, .fence].filter ev.contains, c, sel, a.batchValue,
        a.batchMask, [Readiness.growing, .ready, .held, .empty].filter rd.contains, a.reference⟩
    else none
  | _, _, _, _, _ => none

/-- The fields of a slot as WATCH answers them (R167, R179). -/
def slotFields (w : WatchSlot) : List Field :=
  [yesNo w.enabled, .word (if w.andPrev then "SET" else "CLEAR"), .words (w.events.map EventKind.word),
   (match w.corridor with | some c => .word (Corridor.word c) | none => .word "ANY"),
   (match w.lane with | .any => .word "ANY" | .number n => .num n | .kind k => .word (LaneKind.word k)),
   .num w.batchValue, .num w.batchMask, .words (w.readiness.map Readiness.word)]
  ++ (match w.reference with
      | .any => [.word "ANY"]
      | .present => [.word "PRESENT"]
      | .absent => [.word "ABSENT"]
      | .equal v => [.word "EQUAL", .num v])

/-- The slot an index names on a link. -/
def State.slotAt (s : State) (l : LinkId) (i : Nat) : WatchSlot := ((s.link l).slots[i]?).getD WatchSlot.cleared

/-- Writes a slot of a link. -/
def State.writeSlot (s : State) (l : LinkId) (i : Nat) (w : WatchSlot) : State :=
  s.modLink l fun k => { k with slots := k.slots.set i w }

/-- WATCH (R167). -/
def serveWatch (l : LinkId) (s : State) (a : WatchArgs) : Served :=
  if 6 ≤ a.slot then refuse s .range
  else
    match a.op with
    | .read => okWith s (slotFields (s.slotAt l a.slot))
    | .off => okWith (s.writeSlot l a.slot WatchSlot.cleared) (slotFields WatchSlot.cleared)
    | .write b =>
      match slotOf b with
      | none => refuse s .range
      | some w => okWith (s.writeSlot l a.slot w) (slotFields w)

/-! ## FETCH and ATTENTION (R170, R171) -/

/-- The count of a FETCH clamped to 1 to 16; 16 where none is given (R170). -/
def fetchCount : Option Nat → Nat
  | none => 16
  | some n => max 1 (min 16 n)

/-- FETCH (R170). -/
def serveFetch (l : LinkId) (s : State) (n : Option Nat) : Served :=
  let q := (s.link l).queue
  let given := q.take (fetchCount n)
  let left := q.drop (fetchCount n)
  ⟨s.modLink l fun k => { k with queue := left, lost := 0 },
   some ⟨.ok, [.num given.length, .num left.length, .num (s.link l).lost], given⟩⟩

/-- ATTENTION (R171). -/
def serveAttention (l : LinkId) (s : State) (w : Named Bool) : Served :=
  match w with
  | .unknown => refuse s .range
  | .known b => okWith (s.modLink l fun k => { k with attention := b }) []

/-! ## Meanings -/

def execStatus (l : LinkId) (q : Req Unit) (s : State) : Host.Outcome State Fault Refusal :=
  .next (request s l .status (fun _ => true) q (serveStatus l))

def execWatch (l : LinkId) (q : Req WatchArgs) (s : State) : Host.Outcome State Fault Refusal :=
  .next (request s l .watch WatchArgs.form q (serveWatch l))

def execFetch (l : LinkId) (q : Req (Option Nat)) (s : State) : Host.Outcome State Fault Refusal :=
  .next (request s l .fetch optNumberOk q (serveFetch l))

def execAttention (l : LinkId) (q : Req (Named Bool)) (s : State) : Host.Outcome State Fault Refusal :=
  .next (request s l .attention (fun _ => true) q (serveAttention l))

/-- A bad line (R174). -/
def execBadLine (l : LinkId) (cause : BadLineCause) (s : State) : Host.Outcome State Fault Refusal :=
  .next (if s.powered then s.badLineOn l cause else s)

/-- A good line completed while a request is outstanding (R175); without one there is no overrun (log 4). -/
def execOverrun (l : LinkId) (s : State) : Host.Outcome State Fault Refusal :=
  .next (if s.powered && (s.link l).outstanding.isSome then s.overrunLine l else s)

/-- The last character of an answer, or of the last notice line behind it, is sent (R175). -/
def execAnswerSent (l : LinkId) (s : State) : Host.Outcome State Fault Refusal :=
  .next (if s.powered then s.answerIsSent l else s)

end Sys2Proof.Machine
end

