-- ==== Sys2Proof/Machine/TrackRequests.lean ====
section
/-! DEFINITION. The meanings of chapter 5: FENCE, UNFENCE, SEGMENT GET and SEGMENT LIST. -/

namespace Sys2Proof.Machine

/-- FENCE (R87, R88). -/
def serveFence (l : LinkId) (s : State) (a : TrackArgs) : Served :=
  match a.c with
  | .unknown => refuse s .range
  | .known c =>
    if !segmentNo a.k then refuse s .range
    else if !s.segInUse c a.k then refuse s .unknown
    else
      match (s.seg c a.k).fence with
      | some (.auto _) => refuse s .state
      | some (.operator _) => okWith (s.modSeg c a.k fun g => { g with fence := some (.operator l) }) []
      | none => okWith (s.setFence c a.k (.operator l)) []

/-- The finer permission test of UNFENCE (R90). -/
def State.mayLift (s : State) (l : LinkId) : Fence → Bool
  | .operator _ => s.permits l .fence
  | .auto _ => s.permits l .override

/-- UNFENCE (R90): the waiting carriages retry (R82). -/
def serveUnfence (l : LinkId) (s : State) (a : TrackArgs) : Served :=
  match a.c with
  | .unknown => refuse s .range
  | .known c =>
    if !segmentNo a.k then refuse s .range
    else
      match (s.seg c a.k).fence with
      | none => refuse s .state
      | some f =>
        if s.mayLift l f then okWith ((s.liftFence c a.k).retry c a.k) [] else refuse s .denied

/-- The effective state of a segment, with its carriage where it has one (R78). -/
def Segment.effective (g : Segment) : String × Option CarriageName :=
  match g.fence, g.running, g.standing with
  | some _, _, _ => ("FENCED", none)
  | none, some (n, _), _ => ("RUNNING", some n)
  | none, none, some n => ("STANDING", some n)
  | none, none, none => ("FREE", none)

/-- The two fields of an effective state; NONE for an absent carriage (R95, R179, log 67). -/
def Segment.effectiveFields (g : Segment) : List Field := [.word g.effective.1, optCarriage g.effective.2]

/-- The fields of a segment record (R95); whether it is in use is YES or NO (log 66). -/
def State.segmentFields (s : State) (c : Corridor) (k : Nat) : List Field :=
  let g := s.seg c k
  [yesNo (s.segInUse c k)]
  ++ (if s.segInUse c k then
        [optNum ((s.layout.bounds c k).map (·.1)), optNum ((s.layout.bounds c k).map (·.2))]
      else [])
  ++ (match g.fence with | some f => fenceFields f | none => [Field.none])
  ++ (match g.running with | some (n, d) => [.word (CarriageName.word n), .word (Dir.word d)] | none => [Field.none])
  ++ [optCarriage g.standing] ++ g.effectiveFields ++ [carriageSet g.waiting]

/-- SEGMENT GET (R95). -/
def serveSegmentGet (s : State) (a : TrackArgs) : Served :=
  match a.c with
  | .unknown => refuse s .range
  | .known c => if segmentNo a.k then okWith s (s.segmentFields c a.k) else refuse s .range

/-- The kind of a segment's fence; NONE where none is set (R95, R179, log 67). -/
def Segment.fenceKind (g : Segment) : Field :=
  match g.fence with
  | some f => .word f.kindWord
  | none => Field.none

/-- The fields of SEGMENT LIST (R95). -/
def State.segmentListFields (s : State) (c : Corridor) : List Field :=
  .num (s.layout.segCount c)
    :: ((s.segsInUse c).flatMap fun k => .num k :: (s.seg c k).effectiveFields ++ [(s.seg c k).fenceKind])
    ++ ((s.segments.get c).entries.filter fun e => !s.segInUse c e.1 && e.2.fence.isSome).flatMap fun e =>
        [.num e.1, e.2.fenceKind]

/-- SEGMENT LIST (R95). -/
def serveSegmentList (s : State) (q : Named Corridor) : Served :=
  match q with
  | .unknown => refuse s .range
  | .known c => okWith s (s.segmentListFields c)

def execFence (l : LinkId) (q : Req TrackArgs) (s : State) : Host.Outcome State Fault Refusal :=
  .next (request s l .fence TrackArgs.form q (serveFence l))

def execUnfence (l : LinkId) (q : Req TrackArgs) (s : State) : Host.Outcome State Fault Refusal :=
  .next (request s l .unfence TrackArgs.form q (serveUnfence l))

def execSegmentGet (l : LinkId) (q : Req TrackArgs) (s : State) : Host.Outcome State Fault Refusal :=
  .next (request s l .segmentGet TrackArgs.form q serveSegmentGet)

def execSegmentList (l : LinkId) (q : Req (Named Corridor)) (s : State) : Host.Outcome State Fault Refusal :=
  .next (request s l .segmentList (fun _ => true) q serveSegmentList)

end Sys2Proof.Machine
end

