-- ==== Sys2Proof/Machine/Dispatch.lean ====
section
/-! DEFINITION. The effect of a command on everything but the queue: one arm for each row of spec/opcode_table.json. -/

namespace Sys2Proof.Machine

def exec (i : Instr) (s : State) : Host.Outcome State Fault Refusal :=
  match i with
  | .powerOn pins => Sys2Proof.Machine.execPowerOn pins s
  | .status l q => Sys2Proof.Machine.execStatus l q s
  | .layoutGet l q => Sys2Proof.Machine.execLayoutGet l q s
  | .layoutSet l q => Sys2Proof.Machine.execLayoutSet l q s
  | .modeConfigure l q => Sys2Proof.Machine.execModeConfigure l q s
  | .modeRun l q => Sys2Proof.Machine.execModeRun l q s
  | .save l q => Sys2Proof.Machine.execSave l q s
  | .saveComplete same => Sys2Proof.Machine.execSaveComplete same s
  | .restart l q pins => Sys2Proof.Machine.execRestart l q pins s
  | .laneGet l q => Sys2Proof.Machine.execLaneGet l q s
  | .benchGet l q => Sys2Proof.Machine.execBenchGet l q s
  | .arrive l q => Sys2Proof.Machine.execArrive l q s
  | .handoff l q => Sys2Proof.Machine.execHandoff l q s
  | .laneSet l q => Sys2Proof.Machine.execLaneSet l q s
  | .benchSet l q => Sys2Proof.Machine.execBenchSet l q s
  | .benchDelete l q => Sys2Proof.Machine.execBenchDelete l q s
  | .benchIdent l q => Sys2Proof.Machine.execBenchIdent l q s
  | .benchSwap l q => Sys2Proof.Machine.execBenchSwap l q s
  | .benchSettle l q => Sys2Proof.Machine.execBenchSettle l q s
  | .move l q => Sys2Proof.Machine.execMove l q s
  | .cancel l q => Sys2Proof.Machine.execCancel l q s
  | .abort l q => Sys2Proof.Machine.execAbort l q s
  | .orderGet l q => Sys2Proof.Machine.execOrderGet l q s
  | .orderList l q => Sys2Proof.Machine.execOrderList l q s
  | .clear l q => Sys2Proof.Machine.execClear l q s
  | .carriageGet l q => Sys2Proof.Machine.execCarriageGet l q s
  | .carriageList l q => Sys2Proof.Machine.execCarriageList l q s
  | .fence l q => Sys2Proof.Machine.execFence l q s
  | .unfence l q => Sys2Proof.Machine.execUnfence l q s
  | .segmentGet l q => Sys2Proof.Machine.execSegmentGet l q s
  | .segmentList l q => Sys2Proof.Machine.execSegmentList l q s
  | .home l q => Sys2Proof.Machine.execHome l q s
  | .declare l q => Sys2Proof.Machine.execDeclare l q s
  | .gateService l q => Sys2Proof.Machine.execGateService l q s
  | .gateGet l q => Sys2Proof.Machine.execGateGet l q s
  | .authorityGet l q => Sys2Proof.Machine.execAuthorityGet l q s
  | .lineGet l q => Sys2Proof.Machine.execLineGet l q s
  | .watch l q => Sys2Proof.Machine.execWatch l q s
  | .fetch l q => Sys2Proof.Machine.execFetch l q s
  | .attention l q => Sys2Proof.Machine.execAttention l q s
  | .badLine l cause => Sys2Proof.Machine.execBadLine l cause s
  | .overrun l => Sys2Proof.Machine.execOverrun l s
  | .answerSent l => Sys2Proof.Machine.execAnswerSent l s
  | .orderAging id => Sys2Proof.Machine.execOrderAging id s
  | .gateRisingEdge c k mid => Sys2Proof.Machine.execGateRisingEdge c k mid s
  | .gateFallingEdge c k mid => Sys2Proof.Machine.execGateFallingEdge c k mid s
  | .stopOpen c mid => Sys2Proof.Machine.execStopOpen c mid s
  | .stopClosed c mid => Sys2Proof.Machine.execStopClosed c mid s
  | .pollingCycle c => Sys2Proof.Machine.execPollingCycle c s
  | .statusAnswer c a => Sys2Proof.Machine.execStatusAnswer c a s
  | .missedExchange c => Sys2Proof.Machine.execMissedExchange c s
  | .broadcastBrake c => Sys2Proof.Machine.execBroadcastBrake c s
  | .transferTimeout n => Sys2Proof.Machine.execTransferTimeout n s
  | .homingTimeout n => Sys2Proof.Machine.execHomingTimeout n s
  | .powerLoss cutRetained => Sys2Proof.Machine.execPowerLoss cutRetained s

end Sys2Proof.Machine
end

