-- ==== Sys2Proof/Machine/Wire.lean ====
section
/-! DEFINITION. Wire formats (chapter 13): the lines of the master links (R174, R179), the telegrams of the drive lines (R180, R181) and
the tag telegram (R182). The rows of the table take their operands as these formats carry them; no row is a single character (log 7). -/

namespace Sys2Proof.Machine

/-! ## Lines out (R179) -/

def digits (n : Nat) : List Char := Nat.toDigits 10 n

/-- Text joined by a separator. -/
def joined (sep : Char) : List (List Char) → List Char
  | [] => []
  | [t] => t
  | t :: u :: rest => t ++ sep :: joined sep (u :: rest)

def setText : List (List Char) → List Char
  | [] => "NONE".toList
  | l => joined ',' l

/-- The characters of a field (R179); a "-" stands before every value below 0 (log 77). -/
def Field.text : Field → List Char
  | .num n => if n < 0 then '-' :: digits n.natAbs else digits n.natAbs
  | .word w => w.toList
  | .words l => setText (l.map String.toList)
  | .nums l => setText (l.map digits)

/-- The sum, modulo 256, of the characters of a line up to the one before the "#". -/
def lineSum (l : List Char) : Nat := (l.map Char.toNat).foldl (· + ·) 0 % 256

def hexDigit (n : Nat) : Char := if n < 10 then Char.ofNat (48 + n) else Char.ofNat (55 + n)

/-- Two uppercase hex digits. -/
def hexPair (n : Nat) : List Char := [hexDigit (n / 16), hexDigit (n % 16)]

/-- A line closed by its check: "#", two digits, CR LF. -/
def closeLine (l : List Char) : List Char := l ++ '#' :: hexPair (lineSum l) ++ ['\r', '\n']

/-- An answer line: the request's own words open it, those of a line that is no request's among them (R176, R179, log 7). -/
def AnswerLine.text (a : AnswerLine) : List Char :=
  closeLine ('<' :: joined ' '
    (a.word.text ++ [a.status.word.toList] ++ a.fields.map Field.text
      ++ (if a.overrun then ["OVERRUN".toList] else [])))

/-- A notice line: kind, stamp, fields, then the fired set where the notice carries one. -/
def Notice.text (m : Notice) : List Char :=
  closeLine ('!' :: joined ' '
    (m.body.kindWord.toList :: digits m.stamp :: m.body.fields.map Field.text
      ++ (match m.fired with | some l => [(Field.nums l).text] | none => [])))

/-! ## Lines in (R174) -/

def isHex (c : Char) : Bool := ('0' ≤ c && c ≤ '9') || ('A' ≤ c && c ≤ 'F')

/-- The characters of a complete line up to the one before its "#", where it ends as a line must and its sum agrees (R174). -/
def lineContent (l : List Char) : Option (List Char) :=
  match l.reverse with
  | '\n' :: '\r' :: b :: a :: '#' :: rest =>
    if isHex a && isHex b && decide ([a, b] = hexPair (lineSum rest.reverse)) then some rest.reverse else none
  | _ => none

/-- A good line (R174), all of whose characters were received without a framing error. -/
def goodLine (l : List Char) : Bool := decide (l.length ≤ 160) && (lineContent l).isSome

/-- What a character does to the line being assembled (R174): the line after it, and the complete line or the bad line it makes. -/
inductive CharEffect where
  | nothing
  | complete (l : List Char)
  | bad (cause : BadLineCause)
  deriving DecidableEq, Repr

/-- One character received without a framing error (R174). A ">" that is the 161st character begins a new line (log 76). -/
def takeChar (line : Option (List Char)) (c : Char) : Option (List Char) × CharEffect :=
  match line with
  | none => if c = '>' then (some ['>'], .nothing) else (none, .nothing)
  | some l =>
    if c = '>' then (some ['>'], .bad .newStart)
    else
      let m := l ++ [c]
      if c = '\n' ∧ l.getLast? = some '\r' then
        if 160 < m.length then (none, .bad .tooLong)
        else if (lineContent m).isSome then (none, .complete m)
        else (none, .bad .badSum)
      else if 160 < m.length then (none, .bad .tooLong)
      else (some m, .nothing)

/-! ## Requests (R176, R179) -/

/-- The text between single spaces. -/
def splitOn (sep : Char) : List Char → List (List Char)
  | [] => [[]]
  | c :: rest =>
    match splitOn sep rest with
    | [] => [[c]]
    | t :: more => if c = sep then [] :: t :: more else (c :: t) :: more

def isDigit (c : Char) : Bool := '0' ≤ c && c ≤ '9'
def isCapital (c : Char) : Bool := 'A' ≤ c && c ≤ 'Z'

/-- A number field: one to ten decimal digits. -/
def readNumber (t : List Char) : Option Nat :=
  if !t.isEmpty && decide (t.length ≤ 10) && t.all isDigit then
    some (t.foldl (fun n c => 10 * n + (c.toNat - 48)) 0)
  else none

/-- A word: capitals, digits and underscores, beginning with a capital. -/
def isWord : List Char → Bool
  | [] => false
  | c :: rest => isCapital c && rest.all fun d => isCapital d || isDigit d || decide (d = '_')

/-- A word in a place that defines its words. -/
def readNamed {α : Type} (defs : List (String × α)) (t : List Char) : Option (Named α) :=
  if isWord t then
    some (match defs.find? fun e => decide (e.1.toList = t) with | some e => .known e.2 | none => .unknown)
  else none

/-- A set of words: joined by commas, or NONE. -/
def readSet {α : Type} (defs : List (String × α)) (t : List Char) : Option (List (Named α)) :=
  if t = "NONE".toList then some [] else (splitOn ',' t).mapM (readNamed defs)

def corridorWords : List (String × Corridor) := [("F", .f), ("T", .t)]
def carriageWords : List (String × CarriageName) :=
  [("F1", .f1), ("F2", .f2), ("F3", .f3), ("T1", .t1), ("T2", .t2), ("T3", .t3)]
def sideWords : List (String × Side) := [("LEFT", .left), ("RIGHT", .right)]
def dirWords : List (String × Dir) := [("NORTH", .north), ("SOUTH", .south)]
def roleWords : List (String × StationRole) := [("SOURCE", .source), ("SINK", .sink)]
def readinessWords : List (String × Readiness) := [("GROWING", .growing), ("READY", .ready), ("HELD", .held), ("EMPTY", .empty)]
def classWords : List (String × OrderClass) := [("URGENT", .urgent), ("NORMAL", .normal), ("BACKGROUND", .background)]
def permissionWords : List (String × Permission) :=
  [("ORDER", .order), ("INVENTORY", .inventory), ("FENCE", .fence), ("OVERRIDE", .override), ("LAYOUT", .layout)]
def timingWords : List (String × TimingKey) := [("F", .corridor .f), ("T", .corridor .t), ("UNIT", .unit)]
def eventWords : List (String × EventKind) :=
  [("ARRIVED", .arrived), ("DEPARTED", .departed), ("ENDED", .ended), ("IDENTITY", .identity), ("FENCE", .fence)]

/-- Fields of the form asked for, or malformed. -/
def reqOf {α : Type} : Option α → Req α
  | some a => .args a
  | none => .malformed

def readNone : List (List Char) → Option Unit
  | [] => some ()
  | _ => none

def readOne {α : Type} (rd : List Char → Option α) : List (List Char) → Option α
  | [t] => rd t
  | _ => none

def readMaybe {α : Type} (rd : List Char → Option α) : List (List Char) → Option (Option α)
  | [] => some none
  | [t] => (rd t).map some
  | _ => none

def readCorridor : List Char → Option (Named Corridor) := readNamed corridorWords
def readCarriage : List Char → Option (Named CarriageName) := readNamed carriageWords

/-- Kind and key of an item, and the fields that follow them. -/
def readKey : List (List Char) → Option (ItemKey × List (List Char))
  | kind :: a :: rest =>
    if kind = "CORRIDOR".toList then (readCorridor a).map fun c => (.corridor c, rest)
    else if kind = "LANE".toList then (readNumber a).map fun n => (.lane n, rest)
    else if kind = "CARRIAGE".toList then (readCarriage a).map fun n => (.carriage n, rest)
    else if kind = "LINK".toList then (readNumber a).map fun n => (.link n, rest)
    else if kind = "TIMING".toList then (readNamed timingWords a).map fun k => (.timing k, rest)
    else
      match rest with
      | b :: more =>
        if kind = "SEGMENT".toList then (readCorridor a).bind fun c => (readNumber b).map fun k => (.segment c k, more)
        else if kind = "GATE".toList then (readCorridor a).bind fun c => (readNumber b).map fun k => (.gate c k, more)
        else if kind = "MOUTH".toList then (readNumber a).bind fun n => (readCorridor b).map fun c => (.mouth n c, more)
        else none
      | [] => none
  | _ => none

def readItem (l : List (List Char)) : Option ItemKey :=
  match readKey l with
  | some (k, []) => some k
  | _ => none

/-- A deceleration: a number, or the word DEFAULT. -/
def readDecel (t : List Char) : Option (Named (Option Nat)) :=
  match readNumber t with
  | some n => some (.known (some n))
  | none => readNamed [("DEFAULT", (none : Option Nat))] t

def readLaneItem (n : Nat) : List (List Char) → Option LayoutEdit
  | [k, cap] =>
    if k = "BAY".toList then (readNumber cap).map fun x => .lane n .bay none x
    else if k = "BUFFER".toList then (readNumber cap).map fun x => .lane n .buffer none x
    else if k = "STATION".toList then (readNumber cap).map fun x => .lane n .station none x
    else none
  | [k, r, cap] =>
    (readNamed roleWords r).bind fun w =>
      if k = "BAY".toList then (readNumber cap).map fun x => .lane n .bay (some w) x
      else if k = "BUFFER".toList then (readNumber cap).map fun x => .lane n .buffer (some w) x
      else if k = "STATION".toList then (readNumber cap).map fun x => .lane n .station (some w) x
      else none
  | _ => none

/-- The fields of LAYOUT SET after its words; the level is that of the gate's input (R7). -/
def readEdit (level : Level) (l : List (List Char)) : Option LayoutEdit :=
  match readKey l with
  | none => none
  | some (k, rest) =>
    if rest = ["REMOVE".toList] then some (.remove k)
    else
      match k, rest with
      | .corridor c, [a] => (readNumber a).map fun e => .corridor c e
      | .segment c i, [a] => (readNumber a).map fun e => .segment c i e
      | .gate c i, [a] => (readNumber a).map fun x => .gate c i x level
      | .lane n, more => readLaneItem n more
      | .mouth n c, [a, b] => (readNamed sideWords a).bind fun d => (readNumber b).map fun p => .mouth n c d p
      | .carriage n, [a, b, d, e] =>
        (readNumber a).bind fun len => (readDecel b).bind fun dec => (readNamed dirWords d).bind fun h =>
          (readNumber e).map fun adr => .carriage n len dec h adr
      | .link n, [a] => (readSet permissionWords a).map fun ps => .link n ps
      | .timing (.known (.corridor c)), more =>
        (match more.mapM readNumber with
         | some [v, r, m, tol, k, tr] => some (.timing c v r m tol k tr)
         | _ => none)
      | .timing (.known .unit), more =>
        (match more.mapM readNumber with
         | some [a, b, c] => some (.timingUnit a b c)
         | _ => none)
      | _, _ => none

def readArrive : List (List Char) → Option ArriveArgs
  | [b, l, x, r] =>
    (readNumber b).bind fun b => (readNumber l).bind fun l => (readNumber x).bind fun x =>
      (readNamed readinessWords r).map fun r => ⟨b, l, x, r, none⟩
  | [b, l, x, r, f] =>
    (readNumber b).bind fun b => (readNumber l).bind fun l => (readNumber x).bind fun x =>
      (readNamed readinessWords r).bind fun r => (readNumber f).map fun f => ⟨b, l, x, r, some f⟩
  | _ => none

def readLaneSet : List (List Char) → Option LaneSetArgs
  | l :: rest => (readNumber l).bind fun l => (rest.mapM readNumber).map fun bs => ⟨l, bs⟩
  | [] => none

/-- One pair of BENCH SET added to those read before it; a pair given twice is a field too many. -/
def addPair (a : BenchSetArgs) (key value : List Char) : Option BenchSetArgs :=
  if key = "BATCH".toList ∧ a.batch = none then (readNumber value).map fun x => { a with batch := some x }
  else if key = "READINESS".toList ∧ a.readiness = none then
    (readNamed readinessWords value).map fun r => { a with readiness := some r }
  else if key = "REFERENCE".toList ∧ a.reference = none then
    (match readNumber value with
     | some n => some { a with reference := some (.known (some n)) }
     | none => (readNamed [("NONE", (none : Option Nat))] value).map fun r => { a with reference := some r })
  else none

def readPairs : BenchSetArgs → List (List Char) → Option BenchSetArgs
  | a, [] => some a
  | a, k :: v :: rest => (addPair a k v).bind fun b => readPairs b rest
  | _, [_] => none

def readBenchSet : List (List Char) → Option BenchSetArgs
  | b :: rest => (readNumber b).bind fun b => readPairs ⟨b, none, none, none⟩ rest
  | [] => none

/-- The optional corridor and the class of a MOVE: a field is the corridor where its word is F or T and else the class (R179), so F or
T alone lacks its class, and two fields the first of which is another word are one too many (R176, log 55). -/
def readMoveEnd (src : MoveSource) (dest : Nat) : List (List Char) → Option MoveArgs
  | [k] => if k = ['F'] ∨ k = ['T'] then none else (readNamed classWords k).map fun k => ⟨src, dest, none, k⟩
  | [c, k] =>
    if c = ['F'] ∨ c = ['T'] then
      (readCorridor c).bind fun c => (readNamed classWords k).map fun k => ⟨src, dest, some c, k⟩
    else none
  | _ => none

/-- Destination, optional corridor and class of a MOVE. -/
def readMoveTail (src : MoveSource) : List (List Char) → Option MoveArgs
  | d :: rest => (readNumber d).bind fun d => readMoveEnd src d rest
  | [] => none

def readMove : List (List Char) → Option MoveArgs
  | w :: a :: rest =>
    if w = "BENCH".toList then (readNumber a).bind fun n => readMoveTail (.bench n) rest
    else if w = "ABOARD".toList then (readCarriage a).bind fun n => readMoveTail (.aboard n) rest
    else if w = "LANE".toList ∧ a = "END".toList then
      (match rest with
       | l :: c :: more => (readNumber l).bind fun l => (readCorridor c).bind fun c => readMoveTail (.laneEnd l c) more
       | _ => none)
    else none
  | _ => none

def readTrack : List (List Char) → Option TrackArgs
  | [c, k] => (readCorridor c).bind fun c => (readNumber k).map fun k => ⟨c, k⟩
  | _ => none

def readGateService : List (List Char) → Option GateServiceArgs
  | [c, k, w] =>
    (readCorridor c).bind fun c => (readNumber k).bind fun k =>
      (readNamed [("IN", ServiceWord.putIn), ("OUT", .takeOut)] w).map fun w => ⟨c, k, w⟩
  | _ => none

def readDeclare : List (List Char) → Option DeclareArgs
  | [n, p, t] => (readCarriage n).bind fun n => (readNumber p).bind fun p => (readNumber t).map fun t => ⟨n, p, t⟩
  | _ => none

def readSwap : List (List Char) → Option BenchSwapArgs
  | [a, b] => (readNumber a).bind fun a => (readNumber b).map fun b => ⟨a, b⟩
  | _ => none

def readSettle : List (List Char) → Option BenchSettleArgs
  | [b, w] =>
    (readNumber b).bind fun b => (readNamed [("ABOARD", SettleWhere.aboard), ("IN_LANE", .inLane)] w).map fun w => ⟨b, w⟩
  | _ => none

/-- The corridor selector of a slot: ANY, F or T. -/
def readCorridorSel : List Char → Option (Named (Option Corridor)) :=
  readNamed [("ANY", none), ("F", some .f), ("T", some .t)]

def readLaneSel (t : List Char) : Option LaneSelArg :=
  match readNumber t with
  | some n => some (.number n)
  | none =>
    (readNamed [("ANY", LaneSelArg.any), ("BAY", .kind .bay), ("BUFFER", .kind .buffer), ("STATION", .kind .station)] t).map
      fun w => (w.val?).getD .unknown

def readRefCond : List (List Char) → Option RefCond
  | [w] =>
    if w = "ANY".toList then some .any
    else if w = "PRESENT".toList then some .present
    else if w = "ABSENT".toList then some .absent
    else none
  | [w, v] => if w = "EQUAL".toList then (readNumber v).map .equal else none
  | _ => none

def readSlot : List (List Char) → Option SlotArgs
  | en :: ap :: ev :: co :: la :: bv :: bm :: rd :: ref =>
    (if en = "YES".toList then some true else if en = "NO".toList then some false else none).bind fun en =>
    (readNamed [("SET", true), ("CLEAR", false)] ap).bind fun ap => (readSet eventWords ev).bind fun ev =>
    (readCorridorSel co).bind fun co => (readLaneSel la).bind fun la => (readNumber bv).bind fun bv =>
    (readNumber bm).bind fun bm => (readSet readinessWords rd).bind fun rd => (readRefCond ref).map fun ref =>
      ⟨en, ap, ev, co, la, bv, bm, rd, ref⟩
  | _ => none

def readWatch : List (List Char) → Option WatchArgs
  | [i] => (readNumber i).map fun i => ⟨i, .read⟩
  | i :: rest =>
    (readNumber i).bind fun i =>
      if rest = ["OFF".toList] then some ⟨i, .off⟩ else (readSlot rest).map fun a => ⟨i, .write a⟩
  | [] => none

/-- The command a request's words and fields spell, its fields malformed where they have not the form it calls for; none for words
that are no request's. `level` and `pins` are the input levels LAYOUT SET GATE and RESTART read at that moment (log 14). -/
def readRequest (l : LinkId) (level : Level) (pins : Pins) : List (List Char) → Option Instr
  | [] => none
  | w :: rest =>
    let is := fun x : String => decide (w = x.toList)
    if is "STATUS" then some (.status l (reqOf (readNone rest)))
    else if is "SAVE" then some (.save l (reqOf (readNone rest)))
    else if is "RESTART" then some (.restart l (reqOf (readNone rest)) pins)
    else if is "ARRIVE" then some (.arrive l (reqOf (readArrive rest)))
    else if is "HANDOFF" then some (.handoff l (reqOf (readOne readNumber rest)))
    else if is "MOVE" then some (.move l (reqOf (readMove rest)))
    else if is "CANCEL" then some (.cancel l (reqOf (readOne readNumber rest)))
    else if is "ABORT" then some (.abort l (reqOf (readOne readNumber rest)))
    else if is "CLEAR" then some (.clear l (reqOf (readOne readCarriage rest)))
    else if is "FENCE" then some (.fence l (reqOf (readTrack rest)))
    else if is "UNFENCE" then some (.unfence l (reqOf (readTrack rest)))
    else if is "HOME" then some (.home l (reqOf (readOne readCarriage rest)))
    else if is "DECLARE" then some (.declare l (reqOf (readDeclare rest)))
    else if is "WATCH" then some (.watch l (reqOf (readWatch rest)))
    else if is "FETCH" then some (.fetch l (reqOf (readMaybe readNumber rest)))
    else if is "ATTENTION" then some (.attention l (reqOf (readOne (readNamed [("ON", true), ("OFF", false)]) rest)))
    else
      match rest with
      | [] => none
      | v :: fs =>
        let sub := fun (x y : String) => decide (w = x.toList) && decide (v = y.toList)
        if sub "LAYOUT" "GET" then some (.layoutGet l (reqOf (readItem fs)))
        else if sub "LAYOUT" "SET" then some (.layoutSet l (reqOf (readEdit level fs)))
        else if sub "MODE" "CONFIGURE" then some (.modeConfigure l (reqOf (readNone fs)))
        else if sub "MODE" "RUN" then some (.modeRun l (reqOf (readNone fs)))
        else if sub "LANE" "GET" then some (.laneGet l (reqOf (readOne readNumber fs)))
        else if sub "LANE" "SET" then some (.laneSet l (reqOf (readLaneSet fs)))
        else if sub "BENCH" "GET" then some (.benchGet l (reqOf (readOne readNumber fs)))
        else if sub "BENCH" "SET" then some (.benchSet l (reqOf (readBenchSet fs)))
        else if sub "BENCH" "DELETE" then some (.benchDelete l (reqOf (readOne readNumber fs)))
        else if sub "BENCH" "IDENT" then some (.benchIdent l (reqOf (readOne readNumber fs)))
        else if sub "BENCH" "SWAP" then some (.benchSwap l (reqOf (readSwap fs)))
        else if sub "BENCH" "SETTLE" then some (.benchSettle l (reqOf (readSettle fs)))
        else if sub "ORDER" "GET" then some (.orderGet l (reqOf (readOne readNumber fs)))
        else if sub "ORDER" "LIST" then some (.orderList l (reqOf (readMaybe readNumber fs)))
        else if sub "CARRIAGE" "GET" then some (.carriageGet l (reqOf (readOne readCarriage fs)))
        else if sub "CARRIAGE" "LIST" then some (.carriageList l (reqOf (readOne readCorridor fs)))
        else if sub "SEGMENT" "GET" then some (.segmentGet l (reqOf (readTrack fs)))
        else if sub "SEGMENT" "LIST" then some (.segmentList l (reqOf (readOne readCorridor fs)))
        else if sub "GATE" "SERVICE" then some (.gateService l (reqOf (readGateService fs)))
        else if sub "GATE" "GET" then some (.gateGet l (reqOf (readTrack fs)))
        else if sub "AUTHORITY" "GET" then some (.authorityGet l (reqOf (readOne readCarriage fs)))
        else if sub "LINE" "GET" then some (.lineGet l (reqOf (readOne readCorridor fs)))
        else none

/-- The words of section 12.6 that take a sub-word. -/
def subWorded : List String :=
  ["LAYOUT", "MODE", "LANE", "BENCH", "ORDER", "CARRIAGE", "SEGMENT", "GATE", "AUTHORITY", "LINE"]

/-- What stands in the place of the request word and, behind a word that takes a sub-word, of the sub-word (R176). -/
def wordsInPlace (fields : List (List Char)) : List (List Char) :=
  fields.take (if fields.head?.any fun w => subWorded.any fun x => decide (w = x.toList) then 2 else 1)

/-- The command a good line on a link spells (R176, R179); a line whose words are no request's is STATUS with those words in place of its
own, which is answered SYNTAX (log 7). -/
def readLine (l : LinkId) (level : Level) (pins : Pins) (text : List Char) : Option Instr :=
  match lineContent text with
  | some ('>' :: content) =>
    let fields := splitOn ' ' content
    some ((readRequest l level pins fields).getD (.status l (.unlisted (wordsInPlace fields))))
  | _ => none

/-! ## Requests as a planning computer writes them (R179) -/

/-- A word in its place; X stands for one that no place defines. -/
def namedText {α : Type} (word : α → String) : Named α → List Char
  | .known a => (word a).toList
  | .unknown => ['X']

/-- A set of words. -/
def namedSetText {α : Type} (word : α → String) (l : List (Named α)) : List Char := setText (l.map (namedText word))

def TimingKey.word : TimingKey → String
  | .corridor c => Corridor.word c
  | .unit => "UNIT"

def keyText : ItemKey → List (List Char)
  | .corridor c => ["CORRIDOR".toList, namedText Corridor.word c]
  | .segment c k => ["SEGMENT".toList, namedText Corridor.word c, digits k]
  | .gate c k => ["GATE".toList, namedText Corridor.word c, digits k]
  | .lane n => ["LANE".toList, digits n]
  | .mouth n c => ["MOUTH".toList, digits n, namedText Corridor.word c]
  | .carriage n => ["CARRIAGE".toList, namedText CarriageName.word n]
  | .link n => ["LINK".toList, digits n]
  | .timing k => ["TIMING".toList, namedText TimingKey.word k]

def decelText : Named (Option Nat) → List Char
  | .known (some n) => digits n
  | w => namedText (fun _ => "DEFAULT") w

def editText : LayoutEdit → List (List Char)
  | .remove k => keyText k ++ ["REMOVE".toList]
  | .corridor c length => keyText (.corridor c) ++ [digits length]
  | .segment c k length => keyText (.segment c k) ++ [digits length]
  | .gate c k input _ => keyText (.gate c k) ++ [digits input]
  | .lane n kind role capacity =>
    keyText (.lane n) ++ (LaneKind.word kind).toList
      :: ((match role with | some r => [namedText StationRole.word r] | none => []) ++ [digits capacity])
  | .mouth n c side dock => keyText (.mouth n c) ++ [namedText Side.word side, digits dock]
  | .carriage n length decel home address =>
    keyText (.carriage n) ++ [digits length, decelText decel, namedText Dir.word home, digits address]
  | .link n ps => keyText (.link n) ++ [namedSetText Permission.word ps]
  | .timing c vmax reaction margin tol slip trust =>
    keyText (.timing (.known (.corridor c))) ++ [vmax, reaction, margin, tol, slip, trust].map digits
  | .timingUnit aging allowance rehome => keyText (.timing (.known .unit)) ++ [aging, allowance, rehome].map digits

def arriveText (a : ArriveArgs) : List (List Char) :=
  [digits a.bench, digits a.lane, digits a.batch, namedText Readiness.word a.readiness] ++ a.reference.toList.map digits

/-- One to three pairs; the word NONE takes a reference away. -/
def benchSetText (a : BenchSetArgs) : List (List Char) :=
  digits a.bench ::
    (a.batch.toList.flatMap fun x => ["BATCH".toList, digits x])
    ++ (a.readiness.toList.flatMap fun r => ["READINESS".toList, namedText Readiness.word r])
    ++ (a.reference.toList.flatMap fun r =>
        ["REFERENCE".toList, match r with | .known (some x) => digits x | w => namedText (fun _ => "NONE") w])

def moveSourceText : MoveSource → List (List Char)
  | .bench n => ["BENCH".toList, digits n]
  | .laneEnd l c => ["LANE".toList, "END".toList, digits l, namedText Corridor.word c]
  | .aboard n => ["ABOARD".toList, namedText CarriageName.word n]

def moveText (a : MoveArgs) : List (List Char) :=
  moveSourceText a.source ++ digits a.dest
    :: (a.corridor.toList.map (namedText Corridor.word) ++ [namedText OrderClass.word a.cls])

def trackText (a : TrackArgs) : List (List Char) := [namedText Corridor.word a.c, digits a.k]

def laneSelText : LaneSelArg → List Char
  | .any => "ANY".toList
  | .number n => digits n
  | .kind k => (LaneKind.word k).toList
  | .unknown => ['X']

def refCondText : RefCond → List (List Char)
  | .any => ["ANY".toList]
  | .present => ["PRESENT".toList]
  | .absent => ["ABSENT".toList]
  | .equal v => ["EQUAL".toList, digits v]

/-- All fields of a slot in their order. -/
def slotText (a : SlotArgs) : List (List Char) :=
  [if a.enabled then "YES".toList else "NO".toList, namedText (fun b : Bool => if b then "SET" else "CLEAR") a.andPrev,
   namedSetText EventKind.word a.events,
   namedText (fun c : Option Corridor => match c with | some c => Corridor.word c | none => "ANY") a.corridor,
   laneSelText a.lane, digits a.batchValue, digits a.batchMask, namedSetText Readiness.word a.readiness]
  ++ refCondText a.reference

def watchText (a : WatchArgs) : List (List Char) :=
  digits a.slot :: match a.op with
    | .read => []
    | .off => ["OFF".toList]
    | .write b => slotText b

/-- A request's words, then its fields; of a line whose words are no request's, those words. -/
def ReqWord.line {α : Type} (w : ReqWord) (q : Req α) (fields : α → List (List Char)) : List (List Char) :=
  match q with
  | .args a => w.text ++ fields a
  | .malformed => w.text
  | .unlisted words => words

/-- The words and fields of the line that spells a request (R179); none for a command that is no request. -/
def requestText : Instr → List (List Char)
  | .status _ q => ReqWord.line .status q fun _ => []
  | .layoutGet _ q => ReqWord.line .layoutGet q keyText
  | .layoutSet _ q => ReqWord.line .layoutSet q editText
  | .modeConfigure _ q => ReqWord.line .modeConfigure q fun _ => []
  | .modeRun _ q => ReqWord.line .modeRun q fun _ => []
  | .save _ q => ReqWord.line .save q fun _ => []
  | .restart _ q _ => ReqWord.line .restart q fun _ => []
  | .laneGet _ q => ReqWord.line .laneGet q fun n => [digits n]
  | .benchGet _ q => ReqWord.line .benchGet q fun n => [digits n]
  | .arrive _ q => ReqWord.line .arrive q arriveText
  | .handoff _ q => ReqWord.line .handoff q fun n => [digits n]
  | .laneSet _ q => ReqWord.line .laneSet q fun a => digits a.lane :: a.benches.map digits
  | .benchSet _ q => ReqWord.line .benchSet q benchSetText
  | .benchDelete _ q => ReqWord.line .benchDelete q fun n => [digits n]
  | .benchIdent _ q => ReqWord.line .benchIdent q fun n => [digits n]
  | .benchSwap _ q => ReqWord.line .benchSwap q fun a => [digits a.n, digits a.m]
  | .benchSettle _ q =>
    ReqWord.line .benchSettle q fun a =>
      [digits a.bench, namedText (fun w : SettleWhere => match w with | .aboard => "ABOARD" | .inLane => "IN_LANE") a.place]
  | .move _ q => ReqWord.line .move q moveText
  | .cancel _ q => ReqWord.line .cancel q fun n => [digits n]
  | .abort _ q => ReqWord.line .abort q fun n => [digits n]
  | .orderGet _ q => ReqWord.line .orderGet q fun n => [digits n]
  | .orderList _ q => ReqWord.line .orderList q fun n => n.toList.map digits
  | .clear _ q => ReqWord.line .clear q fun n => [namedText CarriageName.word n]
  | .carriageGet _ q => ReqWord.line .carriageGet q fun n => [namedText CarriageName.word n]
  | .carriageList _ q => ReqWord.line .carriageList q fun c => [namedText Corridor.word c]
  | .fence _ q => ReqWord.line .fence q trackText
  | .unfence _ q => ReqWord.line .unfence q trackText
  | .segmentGet _ q => ReqWord.line .segmentGet q trackText
  | .segmentList _ q => ReqWord.line .segmentList q fun c => [namedText Corridor.word c]
  | .home _ q => ReqWord.line .home q fun n => [namedText CarriageName.word n]
  | .declare _ q => ReqWord.line .declare q fun a => [namedText CarriageName.word a.carriage, digits a.p, digits a.tolerance]
  | .gateService _ q =>
    ReqWord.line .gateService q fun a =>
      [namedText Corridor.word a.c, digits a.k,
       namedText (fun w : ServiceWord => match w with | .putIn => "IN" | .takeOut => "OUT") a.word]
  | .gateGet _ q => ReqWord.line .gateGet q trackText
  | .authorityGet _ q => ReqWord.line .authorityGet q fun n => [namedText CarriageName.word n]
  | .lineGet _ q => ReqWord.line .lineGet q fun c => [namedText Corridor.word c]
  | .watch _ q => ReqWord.line .watch q watchText
  | .fetch _ q => ReqWord.line .fetch q fun n => n.toList.map digits
  | .attention _ q => ReqWord.line .attention q fun b => [namedText (fun b : Bool => if b then "ON" else "OFF") b]
  | _ => []

/-! ## Telegrams on the drive lines (R180, R181) -/

def byteSum (l : List Nat) : Nat := l.foldl (· + ·) 0 % 256

/-- Four bytes, high byte first. -/
def bytes4 (v : BitVec 32) : List Nat :=
  [v.toNat / 16777216, v.toNat / 65536 % 256, v.toNat / 256 % 256, v.toNat % 256]

/-- Two bytes, high byte first. -/
def bytes2 (n : Nat) : List Nat := [n / 256, n % 256]

def SetMode.code : SetMode → Nat
  | .hold => 1
  | .brake => 2
  | .run => 3
  | .crawlNorth => 4
  | .crawlSouth => 5
  | .pull => 6
  | .push => 7

def sideCode : Option Side → Nat
  | none => 0
  | some .left => 1
  | some .right => 2

/-- The ten characters of a command telegram or the broadcast (R180); 256 is the ninth bit. -/
def Telegram.chars (t : Telegram) : List Nat :=
  let body := t.mode.code :: bytes4 t.target ++ bytes2 t.cap ++ [sideCode t.side]
  (256 + t.address) :: body ++ [byteSum (t.address :: body)]

def DriveState.code : DriveState → Nat
  | .standing => 1
  | .moving => 2
  | .atTarget => 3
  | .working => 4
  | .transferDone => 5
  | .transferFailed => 6
  | .driveFault => 7

def driveStateOf : Nat → Option DriveState
  | 1 => some .standing
  | 2 => some .moving
  | 3 => some .atTarget
  | 4 => some .working
  | 5 => some .transferDone
  | 6 => some .transferFailed
  | 7 => some .driveFault
  | _ => none

def loadOf : Nat → Option Bool
  | 0 => some false
  | 1 => some true
  | _ => none

/-- The characters of a status answer before its check byte (R181). -/
def answerBody (a : StatusAnswer) : List Nat :=
  a.address :: DriveState.code a.state :: (if a.loaded then 1 else 0) ::
    (bytes4 a.odometer ++ bytes2 a.speed ++ [a.faultCode, a.bytes.length] ++ a.bytes)

/-- The characters of a status answer (R181). -/
def answerChars (a : StatusAnswer) : List Nat := answerBody a ++ [byteSum (answerBody a)]

/-- The answer that characters spell where they pass the tests of R146 other than the window's and the address's. -/
def readAnswer (l : List Nat) : Option StatusAnswer :=
  match l with
  | ad :: st :: ld :: o3 :: o2 :: o1 :: o0 :: s1 :: s0 :: code :: n :: rest =>
    match driveStateOf st, loadOf ld with
    | some st', some ld' =>
      if n ≤ 12 ∧ rest.length = n + 1 ∧ l.all (fun b => decide (b < 256)) = true
          ∧ rest.getLast? = some (byteSum (l.take (11 + n))) then
        some ⟨ad, st', ld', BitVec.ofNat 32 (16777216 * o3 + 65536 * o2 + 256 * o1 + o0), 256 * s1 + s0, code, rest.take n⟩
      else none
    | _, _ => none
  | _ => none

/-! ## The tag telegram (R182) -/

/-- The bytes of a plate's telegram, with three sync bytes. -/
def tagBytes (bench : Nat) : List Nat :=
  let pair := [bench / 256, bench % 256]
  [165, 165, 165, 90] ++ pair ++ pair ++ pair ++ pair

end Sys2Proof.Machine
end

