-- ==== Sys2Proof/Safety.lean ====
section
/-! DEFINITION. What the statements speak of: when a link's request is taken, what a command's event leaves alone, and the properties
that every step keeps. -/

namespace Sys2Proof.Machine

/-- A port takes the next good line as a request: the unit has power, no request is outstanding, and no allocator run is owed from
an event under way (log 15; NothingOwed holds after every step). -/
abbrev Ready (s : State) (l : LinkId) : Prop :=
  s.powered = true ∧ (s.link l).outstanding = none ∧ s.owed = ⟨false, false⟩

/-- No allocator run is owed between events. -/
abbrev NothingOwed (s : State) : Prop := s.owed = ⟨false, false⟩

/-- R164, R173, R167: at most 16 notices in a queue, a lost count of at most 255, a bad-line count of at most 65,535, six slots. -/
abbrev LinkBounded (k : Link) : Prop :=
  k.queue.length ≤ 16 ∧ k.lost ≤ 255 ∧ k.badLines ≤ 65535 ∧ k.slots.length = 6

def LinksBounded (s : State) : Prop := ∀ l : LinkId, LinkBounded (s.link l)

/-- R97: every carriage's uncertainty stays between 0 and 1,500 mm. -/
def UncertaintyBounded (s : State) : Prop := ∀ n : CarriageName, (s.car n).u ≤ 1500

/-- R77: no two carriages stand in the layers of one segment; the segment tables are in their canonical form. -/
def OneCarriage (s : State) : Prop :=
  ∀ c, (s.segments.get c).wf = true ∧
    ∀ k n m, (s.seg c k).holds n = true → (s.seg c k).holds m = true → n = m

/-- R40, R41: at most 48 live orders, at most 24 of one link, each under an id of its own; the next id lies from 1 to 65,535. -/
def BookBounded (s : State) : Prop :=
  s.book.length ≤ 48 ∧ (∀ l, s.share l ≤ 24) ∧ (s.book.map (·.id)).Nodup ∧ 1 ≤ s.nextId ∧ s.nextId ≤ 65535

/-- What stays of the unit when only carriages, orders, layers, notices and allocator runs may change. -/
structure Still where
  powered : Bool
  mode : UnitMode
  layout : Layout
  saved : SavedLayout
  storeBusy : Option LinkId
  retainedAgrees : Bool
  millis : Nat
  inputs : List Nat
  benches : Table Bench
  nextId : Nat
  gates : Two (Table Gate)
  lines : Two Line
  stops : Two Stop
  starting : Two Bool
  pending : List Instr
  deriving DecidableEq, Repr

def State.still (s : State) : Still :=
  ⟨s.powered, s.mode, s.layout, s.saved, s.storeBusy, s.retainedAgrees, s.millis, s.inputs, s.benches, s.nextId, s.gates, s.lines,
    s.stops, s.starting, s.pending⟩

/-- A lane entry without its waiting carriage. -/
def State.laneStand (s : State) (n : Nat) : List Nat × Nat × Nat × Option Corridor :=
  ((s.lane n).benches, (s.lane n).incoming, (s.lane n).outgoing, (s.lane n).lock)

/-- A port and its notice unit without the queue and the lost count. -/
def State.portStand (s : State) (l : LinkId) :
    Option (List Char) × Option ReqWord × Bool × Nat × Option AnswerLine × Bool × Bool × List WatchSlot :=
  ((s.link l).assembling, (s.link l).outstanding, (s.link l).overrun, (s.link l).badLines, (s.link l).answer,
    (s.link l).noticesFollow, (s.link l).attention, (s.link l).slots)

/-- A carriage record without what an allocator run may write in it: state, task and work, leg, homing and docking, last request. -/
def Carriage.stand (v : Carriage) : Carriage :=
  { v with
    state := .idle, remembered := none, faultKind := none, faultCode := none, assigned := none, task := none, homing := none
    leg := none, horizon := none, requestList := [], docked := none }

/-- An order record without its phase and carriage. -/
def Order.stand (o : Order) : Order := { o with phase := .queued, carriage := none }

/-- What a carriage is doing, for a carriage that is neither IDLE nor UNHOMED. -/
def Carriage.doing (v : Carriage) : CarState × Option Remembered × Option FaultKind × Option Nat × Option Leg × Option Nat :=
  (v.state, v.remembered, v.faultKind, v.faultCode, v.leg, v.docked)

/-- The layers of a segment without its waiting carriages. -/
def State.layers (s : State) (c : Corridor) (k : Nat) :
    Option Fence × Option (CarriageName × Dir) × Option CarriageName :=
  ((s.seg c k).fence, (s.seg c k).running, (s.seg c k).standing)

/-! ## What the end of an event may change -/

/-- Two states differ only in what carriages do, the phases of orders, layers, waiting carriages of lanes, queued notices, runs owed
and the free value. -/
structure Calm (s t : State) : Prop where
  still : t.still = s.still
  lanes : ∀ n, t.laneStand n = s.laneStand n
  ports : ∀ l, t.portStand l = s.portStand l
  cars : ∀ n, (t.car n).stand = (s.car n).stand
  orders : t.book.map Order.stand = s.book.map Order.stand

/-- A carriage that is neither IDLE nor UNHOMED goes on with what it is doing. -/
def Steady (s t : State) : Prop :=
  ∀ n, (s.car n).state ≠ .idle → (s.car n).state ≠ .unhomed → (t.car n).doing = (s.car n).doing

/-- The second state differs from the first by no more than what the allocator runs of an event give out (R69 to R74), the waiting
sets they empty, and notices queued: no layer of a segment changes, and a carriage at work goes on with it. -/
structure RunsOnly (s t : State) : Prop where
  calm : Calm s t
  steady : Steady s t
  layers : ∀ c k, t.layers c k = s.layers c k

/-! ## Speeds and positions -/

/-- The cap is 0 whatever the terms give (R122). -/
def capIsZero (s : State) (n : CarriageName) : Prop :=
  s.hold n.corridor = true ∨ s.loopOpen n.corridor = true ∨
  (∃ r, s.footprint n = some r ∧ ∃ k ∈ s.segsMeeting n.corridor r, (s.seg n.corridor k).fence ≠ none) ∨ (s.car n).p = none

/-- The crawl term applies (R122). -/
abbrev crawls (s : State) (n : CarriageName) : Prop :=
  (s.car n).state = .homing ∨ (s.timing n.corridor).trust < (s.car n).u

/-- A speed is one of the terms of R122 that apply. -/
def capTerm (s : State) (n : CarriageName) (it : CarriageItem) (x : Nat) : Prop :=
  x = (s.timing n.corridor).vmax ∨
  x = capFor it.decel (s.timing n.corridor).reaction (s.availableDistance n) ∨
  (∃ d, s.targetDistance n = some d ∧ 0 < d ∧ x = max (capFor it.decel (s.timing n.corridor).reaction d) 100) ∨
  (crawls s n ∧ x = 100)

/-- The signed 32-bit change of a carriage's odometer count; 0 at the first count (R96). -/
def odometerChange (v : Carriage) (odo : BitVec 32) : Int :=
  match v.lastOdometer with
  | some last => (odo - last).toInt
  | none => 0

/-- The direction R96 gives outside anchoring. -/
def directionBy (v : Carriage) (change : Int) : Option Dir :=
  if 0 < change then some .south else if change < 0 then some .north else if v.speed = 0 then none else v.dir

/-- How far the front of a carriage at a position lies past a gate, in a direction of travel (R101, R106). -/
def frontPast (dir : Dir) (p : Int) (length : Nat) (g : Int) : Int :=
  match dir with
  | .south => p + length - g
  | .north => g - p

/-- R101: a carriage of the corridor is moving, and the gate lies at a deviation of at most 2·(u + tol) from its front carried forward
from the latest answer. -/
def Candidate (s : State) (c : Corridor) (g : Int) (n : CarriageName) (e : Int) : Prop :=
  n ∈ s.carsOf c ∧ (s.car n).link = .up ∧
  ((s.car n).state = .running ∨ (s.car n).state = .homing ∨ 0 < (s.car n).speed) ∧
  (∃ (it : CarriageItem) (p : Int) (dir : Dir) (ahead : Nat), s.item n = some it ∧ (s.car n).p = some p ∧ (s.car n).dir = some dir ∧
    ahead = (s.car n).speed * (s.millis - (s.car n).lastAnswer.getD s.millis) / 1000 ∧
    e = (match dir with | .south => g - (p + it.length + ahead) | .north => g - (p - ahead))) ∧
  (e.natAbs : Int) ≤ 2 * (((s.car n).u : Int) + (s.timing c).tol)

/-- A carriage that became IDLE: it stands IDLE, or the retry of a carriage that waited at a segment it holds has shifted it at once
(R63, R82, R85). -/
def Idled (v : Carriage) : Prop :=
  v.remembered = none ∧ v.docked = none ∧
    ((v.state = .idle ∧ v.task = none ∧ v.leg = none) ∨ (v.state = .running ∧ v.onShift = true))

/-- The first state's layers with one carriage seated alone over a stretch (R93): it stands in each segment in use there that no other
carriage holds, each that another holds is fenced and left to it, and it holds no other segment. -/
def Seated (s t : State) (n : CarriageName) (r : Int × Int) : Prop :=
  ∀ k,
    (k ∈ s.segsInUse n.corridor → s.layout.segMeets n.corridor k r = true →
      ((∀ m, m ≠ n → (s.seg n.corridor k).holds m = false) →
        (t.seg n.corridor k).standing = some n ∧ (t.seg n.corridor k).running = none) ∧
      ∀ m, m ≠ n → (s.seg n.corridor k).holds m = true →
        (t.seg n.corridor k).fence = some ((s.seg n.corridor k).fence.getD (.auto .restartOverlap)) ∧
        (t.seg n.corridor k).holds m = true ∧ (t.seg n.corridor k).holds n = false) ∧
    ((k ∉ s.segsInUse n.corridor ∨ s.layout.segMeets n.corridor k r = false) → (t.seg n.corridor k).holds n = false)

/-- A bench straddles at a lane's mouth on a corridor. -/
def StraddlesAt (s : State) (k : Nat) (c : Corridor) : Prop := ∃ e ∈ s.benches.entries, ∃ n, e.2.place = .straddling n k c

/-! ## Requests -/

/-- A link makes a request its permissions suffice for, and its port takes it. -/
abbrev Asks (s : State) (l : LinkId) (w : ReqWord) : Prop := Ready s l ∧ s.mayAsk l w = true

/-- The port has taken a request and composed its answer (R175, R179). -/
def State.replied (s : State) (l : LinkId) (w : ReqWord) (r : Reply) : State := (s.takeLine l w).answer l w r

/-- A table of refusals taken in its order gives a result: the status of its first row whose condition holds, none where none does. -/
def FirstRefusal : List (Status × Prop) → Option Status → Prop
  | [], r => r = none
  | (w, p) :: rest, r => (p → r = some w) ∧ (¬ p → FirstRefusal rest r)

/-- The refusals of ARRIVE in their order (R31). -/
def arriveTable (s : State) (a : ArriveArgs) : List (Status × Prop) :=
  [(.range, a.bench < 1 ∨ 4000 < a.bench ∨ a.lane < 1 ∨ 120 < a.lane ∨ 65535 < a.batch ∨ a.readiness = .unknown ∨
      ∃ x, a.reference = some x ∧ (x < 1 ∨ 999999 < x)),
   (.unknown, s.laneItem a.lane = none),
   (.range, ∀ it, s.laneItem a.lane = some it → it.kind ≠ .station ∨ it.role ≠ some .source),
   (.claimed, ∃ v, s.bench? a.bench = some v ∧ v.claim ≠ none),
   (.collision, ∃ v, s.bench? a.bench = some v ∧ v.place ≠ .outside),
   (.laneFull, ∃ it, s.laneItem a.lane = some it ∧
      it.capacity ≤ (s.lane a.lane).benches.length + (s.straddlers a.lane).length + (s.lane a.lane).incoming),
   (.full, s.bench? a.bench = none ∧ 2000 ≤ s.benches.entries.length)]

/-- R24: a lane is quiet. -/
def QuietLane (s : State) (k : Nat) : Prop :=
  (s.lane k).incoming = 0 ∧ (s.lane k).outgoing = 0 ∧ (s.lane k).lock = none ∧ s.straddlers k = [] ∧
  ∀ n, ¬ ((s.car n).state = .docked ∧ (s.car n).docked = some k) ∧
    ¬ ((s.car n).state = .transferring ∧ (s.car n).transfer.map (·.lane) = some k)

/-- The refusals of LANE SET in their order (R33). -/
def laneSetTable (s : State) (a : LaneSetArgs) : List (Status × Prop) :=
  [(.range, a.lane < 1 ∨ 120 < a.lane ∨ (∃ b ∈ a.benches, b < 1 ∨ 4000 < b) ∨ ¬ a.benches.Nodup ∨
      ∃ it, s.laneItem a.lane = some it ∧ it.capacity < a.benches.length),
   (.unknown, s.laneItem a.lane = none),
   (.collision, ¬ QuietLane s a.lane ∨ ∃ b ∈ a.benches, ∃ v, s.bench? b = some v ∧
      (v.claim ≠ none ∨ (∃ n k c, v.place = .straddling n k c) ∨ ∃ k, k ≠ a.lane ∧ v.place = .inLane k ∧ ¬ QuietLane s k)),
   (.full, 2000 < s.benches.entries.length + (a.benches.filter fun b => (s.bench? b).isNone).length)]

/-- R42: a corridor is open to the source and to the destination of a MOVE. -/
def OpenTo (s : State) (a : MoveArgs) (c : Corridor) : Prop :=
  s.mouth a.dest c ≠ none ∧
    match a.source with
    | .bench n => ∃ v k, s.bench? n = some v ∧ v.place = .inLane k ∧ s.mouth k c ≠ none
    | .laneEnd k w => w = .known c ∧ s.mouth k c ≠ none
    | .aboard w => ∃ n, w = .known n ∧ n.corridor = c

/-- The bench a BENCH source names, or the one aboard an ABOARD source's carriage (R43). -/
def MovesBench (s : State) (a : MoveArgs) (v : Bench) : Prop :=
  match a.source with
  | .bench n => s.bench? n = some v
  | .laneEnd _ _ => False
  | .aboard w => ∃ n b, w = .known n ∧ (s.car n).load = .bench b ∧ s.bench? b = some v

/-- The refusals of MOVE in their order (R43), after those of the port. -/
def moveTable (s : State) (l : LinkId) (a : MoveArgs) : List (Status × Prop) :=
  [(.range,
      (match a.source with
       | .bench n => n < 1 ∨ 4000 < n
       | .laneEnd k c => k < 1 ∨ 120 < k ∨ c = .unknown
       | .aboard n => n = .unknown)
      ∨ a.dest < 1 ∨ 120 < a.dest ∨ a.corridor = some .unknown ∨ a.cls = .unknown),
   (.unknown,
      (match a.source with
       | .bench n => s.bench? n = none
       | .laneEnd k _ => s.laneItem k = none
       | .aboard w => ∀ n, w = .known n → s.item n = none)
      ∨ s.laneItem a.dest = none),
   (.identity, ∃ v r, MovesBench s a v ∧ v.identity = .doubtful r),
   (.claimed, ∃ v, MovesBench s a v ∧ v.claim ≠ none),
   (.state,
      match a.source with
      | .bench n => ∀ v k, s.bench? n = some v → v.place ≠ .inLane k
      | .laneEnd _ _ => False
      | .aboard w => ∀ n, w = .known n → (s.car n).state ≠ .idle ∨ (s.car n).load = .empty ∨ (s.car n).load = .straddled),
   (.noPath,
      (∃ it, s.laneItem a.dest = some it ∧ it.kind = .station ∧ it.role = some .source) ∨ s.sourceLane a.source = some a.dest ∨
      (∀ c, ¬ OpenTo s a c) ∨ ∃ c, a.corridor = some (.known c) ∧ ¬ OpenTo s a c),
   (.range, a.corridor = none ∧ OpenTo s a .f ∧ OpenTo s a .t),
   (.laneFull, ∃ it, s.laneItem a.dest = some it ∧
      it.capacity ≤ (s.lane a.dest).benches.length + (s.straddlers a.dest).length + (s.lane a.dest).incoming),
   (.laneEmpty, ∃ k, s.sourceLane a.source = some k ∧ (s.lane k).benches.length ≤ (s.lane k).outgoing),
   (.full, 48 ≤ s.book.length ∨ 24 ≤ s.share l)]

/-- Some LINK item but one holds LAYOUT (R6). -/
def HeldBeside (s : State) (l : LinkId) : Prop := ∃ m ps, m ≠ l ∧ s.layout.perms.get m = some ps ∧ Permission.layout ∈ ps

/-- The fields and the key of an edit lie in their ranges, and its conditions hold (R6). -/
def EditInRange (s : State) : LayoutEdit → Prop
  | .remove (.corridor _) => False
  | .remove (.timing _) => False
  | .remove (.link n) => ∃ l, LinkId.ofNumber n = some l ∧ HeldBeside s l
  | .remove _ => True
  | .corridor c length => c ≠ .unknown ∧ 4000 ≤ length ∧ length ≤ 200000
  | .segment c k length => c ≠ .unknown ∧ k ≤ 39 ∧ 2000 ≤ length ∧ length ≤ 12000
  | .gate c k input _ => c ≠ .unknown ∧ k ≤ 40 ∧ 1 ≤ input ∧ input ≤ 96
  | .lane n kind role capacity =>
    1 ≤ n ∧ n ≤ 120 ∧ 1 ≤ capacity ∧ s.held n ≤ capacity ∧
    ((kind = .station ∧ (∃ r, role = some (.known r)) ∧ capacity ≤ 4) ∨ (kind ≠ .station ∧ role = none ∧ capacity ≤ 32))
  | .mouth n c side dock => 1 ≤ n ∧ n ≤ 120 ∧ c ≠ .unknown ∧ side ≠ .unknown ∧ dock ≤ 200000
  | .carriage n length decel home address =>
    (∃ x, n = .known x ∧ ∀ m : CarriageName, m ≠ x → m.corridor = x.corridor → (s.item m).map (·.address) ≠ some address) ∧
    2000 ≤ length ∧ length ≤ 6000 ∧ decel ≠ .unknown ∧ (∀ a, decel = .known (some a) → 100 ≤ a ∧ a ≤ 1000) ∧ home ≠ .unknown ∧
    1 ≤ address ∧ address ≤ 3
  | .link n ps => ∃ l, LinkId.ofNumber n = some l ∧ Named.unknown ∉ ps ∧ (Named.known Permission.layout ∈ ps ∨ HeldBeside s l)
  | .timing _ vmax reaction margin tol slip trust =>
    200 ≤ vmax ∧ vmax ≤ 1200 ∧ 100 ≤ reaction ∧ reaction ≤ 1000 ∧ 200 ≤ margin ∧ margin ≤ 2000 ∧ 20 ≤ tol ∧ tol ≤ 200 ∧
    5 ≤ slip ∧ slip ≤ 50 ∧ 200 ≤ trust ∧ trust ≤ 1000
  | .timingUnit aging allowance rehome =>
    30 ≤ aging ∧ aging ≤ 600 ∧ allowance ≤ 3000 ∧ 500 ≤ rehome ∧ rehome ≤ 10000

/-! ## The consistency check (R8) -/

/-- A corridor has a length; its segments are numbered 0 upward, at least 2, and their lengths sum to the corridor's. -/
def SegmentsFit (s : State) (c : Corridor) : Prop :=
  (∀ k, k < s.layout.segCount c → s.segInUse c k = true) ∧ 2 ≤ s.layout.segCount c ∧
  s.layout.length.get c = some ((s.layout.segments.get c).entries.map (·.2)).sum

/-- Its gates are those of the indexes 0 up to the segment count. -/
def GatesFit (s : State) (c : Corridor) : Prop := ∀ k, s.gateInput c k ≠ none ↔ k ≤ s.layout.segCount c

/-- The gates of the layout with their inputs, F before T. -/
def gateList (s : State) : List ((Corridor × Nat) × Nat) :=
  (s.layout.gates.get .f).entries.map (fun e => ((.f, e.1), e.2)) ++ (s.layout.gates.get .t).entries.map fun e => ((.t, e.1), e.2)

/-- A mouth belongs to a lane and lies within its corridor for every carriage of it. -/
def MouthFits (s : State) (n : Nat) (c : Corridor) : Prop :=
  ∀ m, s.mouth n c = some m → s.laneItem n ≠ none ∧
    ∃ e, s.layout.length.get c = some e ∧ ∀ x it, x.corridor = c → s.item x = some it → m.dock + it.length ≤ e

/-- A BAY lane has both mouths, another one exactly one. -/
def LaneMouthsFit (s : State) (n : Nat) (it : LaneItem) : Prop :=
  if it.kind = .bay then s.mouth n .f ≠ none ∧ s.mouth n .t ≠ none else (s.mouth n .f ≠ none ↔ s.mouth n .t = none)

/-- Benches in a lane's list find its item, and benches straddling there its item and the mouth of their carriage's corridor. -/
def BenchesFindLane (s : State) (n : Nat) : Prop :=
  ((s.lane n).benches ≠ [] → s.laneItem n ≠ none) ∧
  ∀ e ∈ s.benches.entries, ∀ x c, e.2.place = .straddling x n c → s.laneItem n ≠ none ∧ s.mouth n x.corridor ≠ none

/-- A carriage that a bench is aboard of or straddles has its item. -/
def BenchesFindCarriage (s : State) (x : CarriageName) : Prop :=
  ∀ e ∈ s.benches.entries, (e.2.place = .aboard x ∨ ∃ l c, e.2.place = .straddling x l c) → s.item x ≠ none

/-- An item is there whose ordinal comes before it in its corridor, or it is the first; and no lower ordinal has its address. -/
def CarriageOffends (s : State) (x : CarriageName) : Prop :=
  (s.item x = none ∧ (x.ordinal = 1 ∨ ∃ y : CarriageName, y.corridor = x.corridor ∧ x.ordinal < y.ordinal ∧ s.item y ≠ none)) ∨
  ∃ (y : CarriageName) (a b : CarriageItem), y.corridor = x.corridor ∧ y.ordinal < x.ordinal ∧ s.item x = some a ∧ s.item y = some b ∧
    a.address = b.address

/-- A table of conditions taken in its order: the first that fails names its item; none is named where all hold. -/
def FirstFailing : List (Prop × (ItemName → Prop)) → Option ItemName → Prop
  | [], r => r = none
  | (p, names) :: rest, r => (¬ p → ∃ i, r = some i ∧ names i) ∧ (p → FirstFailing rest r)

/-- The conditions of R8 in their order, each with what it says of the item it names; F before T is log 36. -/
def checkTable (s : State) : List (Prop × (ItemName → Prop)) :=
  [(∀ c, s.layout.length.get c ≠ none,
      fun i => ∃ c, i = .corridor c ∧ s.layout.length.get c = none ∧ (c = .t → s.layout.length.get .f ≠ none)),
   (∀ c, SegmentsFit s c,
      fun i => ∃ c, ¬ SegmentsFit s c ∧ (c = .t → SegmentsFit s .f) ∧
        ((i = .corridor c ∧ ∀ k, k < s.layout.segCount c → s.segInUse c k = true) ∨
          ∃ k, i = .segment c k ∧ k < s.layout.segCount c ∧ s.segInUse c k = false ∧ ∀ j, j < k → s.segInUse c j = true)),
   (∀ c, GatesFit s c,
      fun i => ∃ c k, i = .gate c k ∧ (c = .t → GatesFit s .f) ∧
        ((k ≤ s.layout.segCount c ∧ s.gateInput c k = none ∧ ∀ j, j < k → s.gateInput c j ≠ none) ∨
          (s.layout.segCount c < k ∧ (∀ j, j ≤ s.layout.segCount c → s.gateInput c j ≠ none) ∧
            ∃ pre input post, (s.layout.gates.get c).entries = pre ++ (k, input) :: post ∧
              ∀ e ∈ pre, e.1 ≤ s.layout.segCount c))),
   (((gateList s).map (·.2)).Nodup,
      fun i => ∃ c k input pre post, i = .gate c k ∧ gateList s = pre ++ ((c, k), input) :: post ∧ (pre.map (·.2)).Nodup ∧
        input ∈ pre.map (·.2)),
   (∀ n, 1 ≤ n → n ≤ 120 → ∀ c, MouthFits s n c,
      fun i => ∃ n c, i = .mouth n c ∧ 1 ≤ n ∧ n ≤ 120 ∧ ¬ MouthFits s n c ∧ (c = .t → MouthFits s n .f) ∧
        ∀ m, 1 ≤ m → m < n → ∀ d, MouthFits s m d),
   (∀ e ∈ s.layout.lanes.entries, LaneMouthsFit s e.1 e.2,
      fun i => ∃ pre e post, s.layout.lanes.entries = pre ++ e :: post ∧ i = .lane e.1 ∧ ¬ LaneMouthsFit s e.1 e.2 ∧
        ∀ d ∈ pre, LaneMouthsFit s d.1 d.2),
   (∀ e ∈ s.layout.lanes.entries, s.held e.1 ≤ e.2.capacity,
      fun i => ∃ pre e post, s.layout.lanes.entries = pre ++ e :: post ∧ i = .lane e.1 ∧ e.2.capacity < s.held e.1 ∧
        ∀ d ∈ pre, s.held d.1 ≤ d.2.capacity),
   (∀ n, 1 ≤ n → n ≤ 120 → BenchesFindLane s n,
      fun i => ∃ n, i = .lane n ∧ 1 ≤ n ∧ n ≤ 120 ∧ ¬ BenchesFindLane s n ∧ ∀ m, 1 ≤ m → m < n → BenchesFindLane s m),
   (∀ x, BenchesFindCarriage s x,
      fun i => ∃ x pre post, i = .carriage x ∧ ¬ BenchesFindCarriage s x ∧ CarriageName.all = pre ++ x :: post ∧
        ∀ y ∈ pre, BenchesFindCarriage s y),
   (∀ x, ¬ CarriageOffends s x,
      fun i => ∃ x, i = .carriage x ∧ CarriageOffends s x ∧ (x.corridor = .t → ∀ y : CarriageName, y.corridor = .f → ¬ CarriageOffends s y) ∧
        ∀ y : CarriageName, y.corridor = x.corridor → y.ordinal < x.ordinal → ¬ CarriageOffends s y),
   (∃ l ps, s.layout.perms.get l = some ps ∧ Permission.layout ∈ ps,
      fun i => i = .link .l1)]

/-! ## The allocator (R70 to R74) -/

/-- Two stretches share no position. -/
abbrev Apart (a b : Int × Int) : Prop := a.2 < b.1 ∨ b.2 < a.1

/-- A stretch meets no travel interval of a busy carriage of the corridor but one, and no uncertain footprint of a carriage that is
FAULTED, UNHOMED or UNPLACED with a position, but one where one is left out of account (R72, R73, R74). -/
def WayClear (s : State) (c : Corridor) (r : Int × Int) (worker : CarriageName) (out : Option CarriageName) : Prop :=
  (∀ m ∈ s.carsOf c, m ≠ worker → ∀ k, (s.car m).task = some k → Apart (k.lo, k.hi) r) ∧
  ∀ m ∈ s.carsOf c, some m ≠ out → ((s.car m).state = .faulted ∨ (s.car m).state = .unhomed ∨ (s.car m).state = .unplaced) →
    ∀ q, s.uncertain m = some q → Apart q r

/-- A carriage is free, its re-home mark clear, and its load fits the order (R71). -/
def Suits (s : State) (o : Order) (n : CarriageName) : Prop :=
  n ∈ s.carsOf o.corridor ∧ (s.car n).state = .idle ∧ (s.car n).task = none ∧ (s.car n).rehome = false ∧
  match o.source with
  | .aboard m => m = n ∧ ∃ b, (s.car n).load = .bench b ∧ o.bench = some b
  | _ => (s.car n).load = .empty

/-- The travel interval of a carriage for an order: the smallest stretch over its uncertain footprint, that footprint at the destination
dock point, and at the source dock point where the source has one (R71). `start` is the dock point it then goes to (R72). -/
def TravelStretch (s : State) (o : Order) (n : CarriageName) (r : Int × Int) (start : Int) : Prop :=
  ∃ (it : CarriageItem) (p : Int) (m : MouthItem), s.item n = some it ∧ (s.car n).p = some p ∧ s.mouth o.dest o.corridor = some m ∧
    match o.source with
    | .aboard _ =>
      start = m.dock ∧ r = (min p m.dock - (s.car n).u, max p m.dock + it.length + (s.car n).u)
    | _ =>
      ∃ (k : Nat) (f : MouthItem), o.srcLane = some k ∧ s.mouth k o.corridor = some f ∧ start = f.dock ∧
        r = (min (min p m.dock) f.dock - (s.car n).u, max (max p m.dock) f.dock + it.length + (s.car n).u)

/-- A carriage is eligible for an order (R72), with its travel interval and the dock point it goes to. -/
def Eligible (s : State) (o : Order) (n : CarriageName) (r : Int × Int) (start : Int) : Prop :=
  Suits s o n ∧ TravelStretch s o n r start ∧ WayClear s o.corridor r n none

/-- The eligible carriage the allocator chooses: no other lies nearer to the source dock point, none as near has a lower ordinal (R72). -/
def Chosen (s : State) (o : Order) (n : CarriageName) (r : Int × Int) (start : Int) : Prop :=
  Eligible s o n r start ∧
  ∀ m q x, Eligible s o m q x → ∀ a b, (s.car n).p = some a → (s.car m).p = some b →
    (a - start).natAbs < (b - start).natAbs ∨ ((a - start).natAbs = (b - start).natAbs ∧ n.ordinal ≤ m.ordinal)

/-- A carriage needs a homing (R74). -/
abbrev NeedsHoming (s : State) (n : CarriageName) : Prop :=
  s.item n ≠ none ∧ ((s.car n).state = .unhomed ∨ ((s.car n).state = .idle ∧ (s.car n).rehome = true)) ∧ (s.car n).link = .up ∧
  (s.car n).load ≠ .straddled ∧ (s.car n).task = none

/-- A carriage record once its shift is given (R73). -/
def shifted (v : Carriage) (h : Shift) (work : Work) : Carriage :=
  { v with
    state := .running, task := some ⟨.shift, h.interval.1, h.interval.2, [], some h.target, some work⟩
    leg := some ⟨h.target, if v.p.getD h.target ≤ h.target then .south else .north⟩ }

/-- A carriage at the target of its shift, widened by its u (R73). -/
def State.there (s : State) (h : Shift) : Int × Int :=
  (h.target - (s.car h.carriage).u, h.target + ((s.item h.carriage).map (·.length)).getD 0 + (s.car h.carriage).u)

/-- The first carriage stands between the worker and the second, by ordinals. -/
def Between (worker g m : CarriageName) : Prop :=
  (m.ordinal < g.ordinal ∧ g.ordinal < worker.ordinal) ∨ (worker.ordinal < g.ordinal ∧ g.ordinal < m.ordinal)

/-- The stretch that a shift clears (R73): the work's, or where the carriage shifted before it on its side goes. -/
def Clears (s : State) (worker : CarriageName) (r : Int × Int) (l : List Shift) (h : Shift) (q : Int × Int) : Prop :=
  (q = r ∧ ∀ g ∈ l, ¬ Between worker g.carriage h.carriage) ∨ ∃ g ∈ l, Between worker g.carriage h.carriage ∧ q = s.there g

/-- What a planned shift keeps (R73): its carriage is a free one of the corridor other than the worker and stands in the way; the target
is the nearest on its own side of the stretch it clears, within the corridor, and the way to it is clear. -/
def ShiftFits (s : State) (worker : CarriageName) (r : Int × Int) (l : List Shift) (h : Shift) : Prop :=
  h.carriage ∈ s.carsOf worker.corridor ∧ (s.car h.carriage).state = .idle ∧ (s.car h.carriage).task = none ∧
  ∃ (now q : Int × Int) (it : CarriageItem), s.uncertain h.carriage = some now ∧ s.item h.carriage = some it ∧ Clears s worker r l h q ∧
    (¬ Apart now r ∨ ¬ Apart now q) ∧
    ((h.carriage.ordinal < worker.ordinal ∧ (s.there h).2 + 1 = q.1) ∨ (worker.ordinal < h.carriage.ordinal ∧ q.2 + 1 = (s.there h).1)) ∧
    0 ≤ h.target ∧ h.target + it.length ≤ (((s.layout.length.get worker.corridor).getD 0 : Nat) : Int) ∧
    h.interval = (min now.1 (s.there h).1, max now.2 (s.there h).2) ∧ WayClear s worker.corridor h.interval worker none

/-- The shifts that clear a stretch for a worker (R73): each fits, and each free carriage that stands in the stretch, or in the way of
one shifted before it on its side, is among them. -/
def ShiftsClear (s : State) (worker : CarriageName) (r : Int × Int) (l : List Shift) : Prop :=
  (l.map Shift.carriage).Nodup ∧ (∀ h ∈ l, ShiftFits s worker r l h) ∧
  ∀ m ∈ s.carsOf worker.corridor, m ≠ worker → (s.car m).state = .idle → (s.car m).task = none → ∀ now, s.uncertain m = some now →
    (¬ Apart now r ∨ ∃ g ∈ l, Between worker g.carriage m ∧ ¬ Apart now (s.there g)) → m ∈ l.map Shift.carriage

/-- The carriages after the shifts are given and one carriage waits for them (R72, R73, R74). -/
def WaitsFor (s t : State) (n : CarriageName) (l : List Shift) (work : Work) (v : Carriage) : Prop :=
  t = { s with book := t.book, carriages := t.carriages } ∧ t.car n = v ∧
  (∀ h ∈ l, t.car h.carriage = shifted (s.car h.carriage) h work) ∧
  ∀ m, m ≠ n → m ∉ l.map Shift.carriage → t.car m = s.car m

/-- The travel interval of a homing (R74): the uncertain footprint alone where no gate is expected. -/
def HomingStretch (s : State) (n : CarriageName) (r : Int × Int) : Prop :=
  ∃ (it : CarriageItem) (now : Int × Int), s.item n = some it ∧ s.uncertain n = some now ∧
    match s.expectedGate n with
    | none => r = now
    | some (g, _) =>
      ∃ (d x : Int), d = (s.timing n.corridor).tol + (s.car n).u ∧
        x = (match it.home with | .south => g.2 + d | .north => g.2 - d) ∧ r = (min now.1 x, max now.2 x)

/-- The candidates of a corridor's run in their order (R70): by effective class, then placed-at stamp, equal ones by book order. -/
def CandidateOrder (s : State) (c : Corridor) (l : List Order) : Prop :=
  l.Pairwise (fun a b => classRank a.eff < classRank b.eff ∨ (a.eff = b.eff ∧ a.placedAt ≤ b.placedAt)) ∧
  ∀ k stamp, (l.filter fun o => decide (o.eff = k ∧ o.placedAt = stamp)) =
    s.book.filter fun o => decide (o.corridor = c ∧ o.phase = .queued ∧ o.eff = k ∧ o.placedAt = stamp)

/-- The link, the request word as it is answered and the well-formedness of a command that is a request line. -/
def asked : Instr → Option (LinkId × ReqWord × Bool)
  | .status l q => some (l, answeredAs .status q, (q.fields fun _ => true).isSome)
  | .layoutGet l q => some (l, answeredAs .layoutGet q, (q.fields ItemKey.form).isSome)
  | .layoutSet l q => some (l, answeredAs .layoutSet q, (q.fields LayoutEdit.form).isSome)
  | .modeConfigure l q => some (l, answeredAs .modeConfigure q, (q.fields fun _ => true).isSome)
  | .modeRun l q => some (l, answeredAs .modeRun q, (q.fields fun _ => true).isSome)
  | .save l q => some (l, answeredAs .save q, (q.fields fun _ => true).isSome)
  | .restart l q _ => some (l, answeredAs .restart q, (q.fields fun _ => true).isSome)
  | .laneGet l q => some (l, answeredAs .laneGet q, (q.fields numberOk).isSome)
  | .benchGet l q => some (l, answeredAs .benchGet q, (q.fields numberOk).isSome)
  | .arrive l q => some (l, answeredAs .arrive q, (q.fields ArriveArgs.form).isSome)
  | .handoff l q => some (l, answeredAs .handoff q, (q.fields numberOk).isSome)
  | .laneSet l q => some (l, answeredAs .laneSet q, (q.fields LaneSetArgs.form).isSome)
  | .benchSet l q => some (l, answeredAs .benchSet q, (q.fields BenchSetArgs.form).isSome)
  | .benchDelete l q => some (l, answeredAs .benchDelete q, (q.fields numberOk).isSome)
  | .benchIdent l q => some (l, answeredAs .benchIdent q, (q.fields numberOk).isSome)
  | .benchSwap l q => some (l, answeredAs .benchSwap q, (q.fields BenchSwapArgs.form).isSome)
  | .benchSettle l q => some (l, answeredAs .benchSettle q, (q.fields BenchSettleArgs.form).isSome)
  | .move l q => some (l, answeredAs .move q, (q.fields MoveArgs.form).isSome)
  | .cancel l q => some (l, answeredAs .cancel q, (q.fields numberOk).isSome)
  | .abort l q => some (l, answeredAs .abort q, (q.fields numberOk).isSome)
  | .orderGet l q => some (l, answeredAs .orderGet q, (q.fields numberOk).isSome)
  | .orderList l q => some (l, answeredAs .orderList q, (q.fields optNumberOk).isSome)
  | .clear l q => some (l, answeredAs .clear q, (q.fields fun _ => true).isSome)
  | .carriageGet l q => some (l, answeredAs .carriageGet q, (q.fields fun _ => true).isSome)
  | .carriageList l q => some (l, answeredAs .carriageList q, (q.fields fun _ => true).isSome)
  | .fence l q => some (l, answeredAs .fence q, (q.fields TrackArgs.form).isSome)
  | .unfence l q => some (l, answeredAs .unfence q, (q.fields TrackArgs.form).isSome)
  | .segmentGet l q => some (l, answeredAs .segmentGet q, (q.fields TrackArgs.form).isSome)
  | .segmentList l q => some (l, answeredAs .segmentList q, (q.fields fun _ => true).isSome)
  | .home l q => some (l, answeredAs .home q, (q.fields fun _ => true).isSome)
  | .declare l q => some (l, answeredAs .declare q, (q.fields DeclareArgs.form).isSome)
  | .gateService l q => some (l, answeredAs .gateService q, (q.fields GateServiceArgs.form).isSome)
  | .gateGet l q => some (l, answeredAs .gateGet q, (q.fields TrackArgs.form).isSome)
  | .authorityGet l q => some (l, answeredAs .authorityGet q, (q.fields fun _ => true).isSome)
  | .lineGet l q => some (l, answeredAs .lineGet q, (q.fields fun _ => true).isSome)
  | .watch l q => some (l, answeredAs .watch q, (q.fields WatchArgs.form).isSome)
  | .fetch l q => some (l, answeredAs .fetch q, (q.fields optNumberOk).isSome)
  | .attention l q => some (l, answeredAs .attention q, (q.fields fun _ => true).isSome)
  | _ => none

/-- What a line does not say of its request: the input levels that LAYOUT SET of a GATE and RESTART read at that moment (log 14); a MOVE
whose corridor is neither F nor T has no line (log 55). -/
def SpelledAt (level : Level) (pins : Pins) : Instr → Prop
  | .layoutSet _ (.args (.gate _ _ _ v)) => level = v
  | .restart _ _ p => pins = p
  | .move _ (.args a) => a.corridor ≠ some .unknown
  | _ => True

end Sys2Proof.Machine
end

