-- ==== Sys2Proof/Certificates/Slice0/Obligations.lean ====
section
/-! DEFINITION. The statements about the TC-62 that are to be proved. -/

open Sys2Proof Sys2Proof.Machine

/-! ## The step -/

/-- A step takes the command at the front of the queue and runs it on the unit with the queue's rest. -/
def Obligations.StepRunsTheFrontCommand : Prop :=
  ∀ (c : Instr) (s : State), step { s with pending := c :: s.pending } = exec c s

/-- The model's choices of log 2 and log 5: with no command waiting a step is one millisecond of a powered unit's clock, the samples of
that moment (taken on even counts) and then the commands that fall due at it; of gates and stops the samples alone change, of gates
those in use alone; an unpowered unit idles, and takes no command but POWER_ON. -/
def Obligations.IdleStepsAndPower : Prop :=
  (∀ s : State, s.pending = [] →
       (s.powered = false → step s = .next s) ∧
       (s.powered = true → ∀ u : State, u = ({ s with millis := s.millis + 1 } : State).sample →
         step s = .next { u with pending := u.due } ∧
         u = { s with millis := s.millis + 1, gates := u.gates, stops := u.stops } ∧
         (∀ c k, { u.gate c k with samples := (s.gate c k).samples } = s.gate c k) ∧
         (∀ c k, s.gateInput c k = none → u.gate c k = s.gate c k) ∧
         (∀ c, u.stop c = { s.stop c with
           samples := if (s.millis + 1) % 2 = 0 then ⟨(s.stop c).input, (s.stop c).samples.newest, (s.stop c).samples.middle⟩
             else (s.stop c).samples }) ∧
         ((s.millis + 1) % 2 = 1 → u.gates = s.gates))) ∧
  (∀ (c : Instr) (s : State), s.powered = false → (∀ pins, c ≠ .powerOn pins) → exec c s = .next s)

/-- The five properties that every step keeps hold at reset. -/
def Obligations.InvariantsHoldAtReset : Prop :=
  NothingOwed State.reset ∧ LinksBounded State.reset ∧ UncertaintyBounded State.reset ∧ OneCarriage State.reset ∧
  BookBounded State.reset

/-- R69, R70, R71, R72, R73, R74: every step ends with no allocator run owed (log 15), and this is what a run gives out. In CONFIGURING,
under an open loop or the corridor hold, and while the corridor's first polling cycle since the start is awaited (log 16), nothing. Else it
tries the homings by ordinal, then the QUEUED orders by class, placed-at stamp and book order. An order that is not ready, that has no
eligible carriage (one whose travel interval meets nothing busy and no obstacle), or whose shifts cannot be placed changes nothing (log
59). Else the nearest eligible carriage, of equally near ones that of the lower ordinal, has it: with no shift it starts toward its first
dock point, else it waits for the shifts of the carriages in the way. Shifts are planned just where every one fits. A homing is likewise
given out, turned away, or left waiting for its shifts; one that starts without a gate to expect faults. That a carriage shifted behind
another clears the first one's target footprint, also where it stands in the work's stretch itself, is log 29; the order a waiting-for set
is kept in is log 40. -/
def Obligations.NoRunStaysOwed : Prop :=
  (∀ s t : State, NothingOwed s → step s = .next t → NothingOwed t) ∧
  (∀ (s : State) (c : Corridor),
    (s.mode = .configuring ∨ s.loopOpen c = true ∨ s.hold c = true ∨ s.starting.get c = true → s.allocate c = s) ∧
    (s.mode = .running → s.loopOpen c = false → s.hold c = false → s.starting.get c = false →
      ∀ u, u = (s.carsOf c).foldl State.tryHoming s → s.allocate c = (u.candidates c).foldl State.tryOrder u) ∧
    ∃ l, s.candidates c = l.map (·.id) ∧ CandidateOrder s c l) ∧
  (∀ (s : State) (n : CarriageName) (r : Int × Int),
    (∀ l, planShifts s n r none = some l → ShiftsClear s n r l) ∧
    (planShifts s n r none = none → ∀ l, ¬ ShiftsClear s n r l)) ∧
  (∀ (s : State) (id : Nat) (o : Order), s.order? id = some o →
    (s.sourceReady o = false ∨ (∀ n r start, ¬ Eligible s o n r start) → s.tryOrder id = s) ∧
    ∀ n r start p, s.sourceReady o = true → Chosen s o n r start → (s.car n).p = some p →
      (planShifts s n r none = none → s.tryOrder id = s) ∧
      (planShifts s n r none = some [] →
        s.tryOrder id = { s with
          carriages := s.carriages.set n { s.car n with
            task := some ⟨.order, r.1, r.2, [], none, none⟩, assigned := some id, state := .running
            leg := some ⟨start, if p ≤ start then .south else .north⟩ }
          book := s.book.map fun q =>
            if q.id = id then
              { q with carriage := some n, phase := (match q.source with | .aboard _ => .carrying | _ => .fetching) }
            else q }) ∧
      ∀ l, planShifts s n r none = some l → l ≠ [] →
        (s.tryOrder id).book =
          (s.book.map fun q => if q.id = id then { q with carriage := some n, phase := .assigned } else q) ∧
        WaitsFor s (s.tryOrder id) n l (.order id)
          { s.car n with task := some ⟨.order, r.1, r.2, l.map (·.carriage), none, none⟩, assigned := some id }) ∧
  ∀ (s : State) (n : CarriageName),
    (¬ NeedsHoming s n ∨ (∀ r, HomingStretch s n r → ¬ WayClear s n.corridor r n (some n)) → s.tryHoming n = s) ∧
    ∀ r, NeedsHoming s n → HomingStretch s n r → WayClear s n.corridor r n (some n) →
      (planShifts s n r none = none → s.tryHoming n = s) ∧
      (planShifts s n r none = some [] →
        (∀ it g x, s.item n = some it → s.expectedGate n = some (g, false) →
          x = (match it.home with
            | .south => g.2 + (s.timing n.corridor).tol - it.length
            | .north => g.2 - (s.timing n.corridor).tol) →
          s.tryHoming n = { s with
            carriages := s.carriages.set n { s.car n with
              task := some ⟨.homing, r.1, r.2, [], none, none⟩, state := .homing
              homing := some ⟨g.1, x, s.millis⟩, leg := some ⟨x, it.home⟩ } }) ∧
        ((∀ g, s.expectedGate n ≠ some (g, false)) →
          ((s.tryHoming n).car n).state = .faulted ∧ ((s.tryHoming n).car n).faultKind = some .homingFailed)) ∧
      ∀ l, planShifts s n r none = some l → l ≠ [] →
        (s.tryHoming n).book = s.book ∧
        WaitsFor s (s.tryHoming n) n l (.homing n)
          { s.car n with task := some ⟨.homing, r.1, r.2, l.map (·.carriage), none, none⟩ }

/-- R164, R167, R173: every step keeps queues at 16 notices, lost counts at 255, bad-line counts at 65,535 and six slots a link. -/
def Obligations.LinksStayBounded : Prop :=
  ∀ s t : State, LinksBounded s → step s = .next t → LinksBounded t

/-- R97: every step keeps every carriage's uncertainty between 0 and 1,500 mm. -/
def Obligations.UncertaintyStaysBounded : Prop :=
  ∀ s t : State, UncertaintyBounded s → step s = .next t → UncertaintyBounded t

/-! ## Wire -/

/-- R181: the characters of a status answer spell it, with every field at every value the wire carries. R180: a command telegram has ten
characters: the address with the ninth bit set, the code of its mode, four target bytes and two cap bytes, high byte first, the side, and
the sum of the bytes before it, modulo 256; the broadcast has address 0, BRAKE and zeros. -/
def Obligations.StatusAnswersSpellThemselves : Prop :=
  (∀ a : StatusAnswer, a.form = true → readAnswer (answerChars a) = some a) ∧
  (∀ (t : Telegram) (mode side t3 t2 t1 t0 c1 c0 : Nat),
    mode = (match t.mode with
      | .hold => 1 | .brake => 2 | .run => 3 | .crawlNorth => 4 | .crawlSouth => 5 | .pull => 6 | .push => 7) →
    side = (match t.side with | none => 0 | some .left => 1 | some .right => 2) →
    t3 = t.target.toNat / 16777216 → t2 = t.target.toNat / 65536 % 256 → t1 = t.target.toNat / 256 % 256 → t0 = t.target.toNat % 256 →
    c1 = t.cap / 256 → c0 = t.cap % 256 →
      t.chars = [256 + t.address, mode, t3, t2, t1, t0, c1, c0, side, (t.address + mode + t3 + t2 + t1 + t0 + c1 + c0 + side) % 256] ∧
      (t.cap < 65536 → ∀ x ∈ t.chars.drop 1, x < 256)) ∧
  Telegram.broadcast.chars = [256, 2, 0, 0, 0, 0, 0, 0, 0, 2]

/-- R140, R182: a tag telegram is recognised from HUNT whatever the count: its number is handed on where it lies from 1 to 4,000 and
discarded where it does not, and the recognizer is in HUNT with count 0. -/
def Obligations.TagTelegramIsRecognised : Prop :=
  ∀ count b : Nat, b < 65536 →
    (tagBytes b).foldl (fun r x => recognize r.1 x) (Recognizer.hunt count, none)
      = (Recognizer.hunt 0, if 1 ≤ b ∧ b ≤ 4000 then some b else none)

/-- R175, R179: what a composed answer changes is its own port, and the overrun mark set before it travels with it; its last character
clears the mark where the answer carried it, and the outstanding request unless notice lines follow, whose last character then clears it and
leaves the mark (log 6), and the row does nothing where there is no answer or no request (the model's choice, log 4). R174: a bad line is
counted, up to 65,535, and not answered; the ">" that broke into a line begins the next. What each character does to the line being
assembled (a ">" begins a line even as the 161st character, log 76); a good line is one of at most 160 characters that is closed by the two
hex digits of its sum, CR and LF. R179: the fields of a line stand between single spaces and are read apart again; answer and notice lines
hold their fields in order, the request's own words first, be they a request's or not (log 7), OVERRUN and the fired set last; a "-" stands
before every value below 0 (log 77). -/
def Obligations.AnswersAndBadLinesAtAPort : Prop :=
  (∀ (s : State) (l : LinkId) (w : ReqWord) (r : Reply),
       s.replied l w r =
         { s with
           links := s.links.set l
             { s.link l with
               assembling := none, outstanding := some w, noticesFollow := false
               answer := some ⟨w, r.status, r.fields, (s.link l).overrun, r.notices⟩ } }) ∧
  (∀ (s : State) (l : LinkId), s.powered = true →
       (∀ cause, exec (.badLine l cause) s =
         .next { s with
           links := s.links.set l
             { s.link l with
               badLines := min 65535 ((s.link l).badLines + 1), assembling := if cause = .newStart then some ['>'] else none } }) ∧
       (∀ a, (s.link l).answer = some a → (s.link l).outstanding ≠ none →
         ((s.link l).noticesFollow = false → a.notices = [] →
           exec (.answerSent l) s =
             .next { s with
               links := s.links.set l
                 { s.link l with outstanding := none, overrun := (s.link l).overrun && !a.overrun } }) ∧
         ((s.link l).noticesFollow = false → a.notices ≠ [] →
           exec (.answerSent l) s =
             .next { s with
               links := s.links.set l
                 { s.link l with overrun := (s.link l).overrun && !a.overrun, noticesFollow := true } }) ∧
         ((s.link l).noticesFollow = true →
           exec (.answerSent l) s =
             .next { s with links := s.links.set l { s.link l with outstanding := none, noticesFollow := false } })) ∧
       ((s.link l).answer = none ∨ (s.link l).outstanding = none → exec (.answerSent l) s = .next s)) ∧
  (∀ c : Char, takeChar none c = (if c = '>' then some ['>'] else none, .nothing)) ∧
  (∀ (line m : List Char) (c : Char), m = line ++ [c] →
    (c = '>' → takeChar (some line) c = (some ['>'], .bad .newStart)) ∧
    (c ≠ '>' → 160 < m.length → takeChar (some line) c = (none, .bad .tooLong)) ∧
    (c ≠ '>' → m.length ≤ 160 → ¬ (c = '\n' ∧ line.getLast? = some '\r') → takeChar (some line) c = (some m, .nothing)) ∧
    (c = '\n' → line.getLast? = some '\r' → m.length ≤ 160 →
      ((∃ body, m = closeLine body) → takeChar (some line) c = (none, .complete m)) ∧
      ((∀ body, m ≠ closeLine body) → takeChar (some line) c = (none, .bad .badSum)))) ∧
  (∀ body l : List Char, (lineContent l = some body ↔ l = closeLine body) ∧
    (goodLine l = true ↔ l.length ≤ 160 ∧ ∃ b, l = closeLine b)) ∧
  (∀ body : List Char, ∃ a b,
    closeLine body = body ++ ['#', a, b, '\r', '\n'] ∧
    "0123456789ABCDEF".toList[(body.map Char.toNat).sum % 256 / 16]? = some a ∧
    "0123456789ABCDEF".toList[(body.map Char.toNat).sum % 256 % 16]? = some b) ∧
  (∀ body : List Char, '>' ∉ body → '\n' ∉ body → (closeLine ('>' :: body)).length ≤ 160 →
    (closeLine ('>' :: body)).foldl (fun r c => takeChar r.1 c) (none, .nothing) = (none, .complete (closeLine ('>' :: body)))) ∧
  (∀ fields : List (List Char), fields ≠ [] → (∀ t ∈ fields, ' ' ∉ t) → splitOn ' ' (joined ' ' fields) = fields) ∧
  (∀ a : AnswerLine,
    a.text = closeLine ('<' :: joined ' '
      ((match a.word with | .other words => words | w => w.words.map String.toList)
        ++ a.status.word.toList :: a.fields.map Field.text
        ++ if a.overrun = true then ["OVERRUN".toList] else []))) ∧
  (∀ m : Notice,
    m.text = closeLine ('!' :: joined ' '
      (m.body.kindWord.toList :: Nat.toDigits 10 m.stamp :: m.body.fields.map Field.text
        ++ match m.fired with | some l => [(Field.nums l).text] | none => []))) ∧
  (∀ n : Nat, (Field.num n).text = Nat.toDigits 10 n ∧ (Field.num (-(n + 1 : Nat))).text = '-' :: Nat.toDigits 10 (n + 1)) ∧
  (∀ w : String, (Field.word w).text = w.toList) ∧
  (∀ l : List String, (Field.words l).text = if l = [] then "NONE".toList else joined ',' (l.map String.toList)) ∧
  (∀ l : List Nat, (Field.nums l).text = if l = [] then "NONE".toList else joined ',' (l.map (Nat.toDigits 10)))

/-! ## Speeds and authority -/

/-- R121: capfor(x) is 0 up to 0, beyond it the greatest whole v of the inequality; it grows with x; the table's values. -/
def Obligations.CapForIsTheGreatestSpeed : Prop :=
  (∀ (a r : Nat) (x : Int), x ≤ 0 → capFor a r x = 0) ∧
  (∀ (a r x : Nat), 0 < x →
    1000 * (capFor a r x * capFor a r x) + 2 * a * r * capFor a r x ≤ 2000 * a * x ∧
    ∀ v : Nat, 1000 * (v * v) + 2 * a * r * v ≤ 2000 * a * x → v ≤ capFor a r x) ∧
  (∀ (a r : Nat) (x y : Int), x ≤ y → capFor a r x ≤ capFor a r y) ∧
  capFor 400 300 1 = 3 ∧ capFor 400 300 350 = 422 ∧ capFor 400 300 600 = 583 ∧ capFor 400 300 1000 = 782 ∧ capFor 400 300 3500 = 1557

/-- R122: the speed cap is 0 in the four cases, else the least of the terms that apply; no telegram carries more than Vmax, nor more
than 100 mm/s where the crawl term applies. -/
def Obligations.SpeedCapIsTheLeastTerm : Prop :=
  ∀ (s : State) (n : CarriageName) (it : CarriageItem), s.item n = some it →
    (capIsZero s n → s.speedCap n = 0) ∧
    (¬ capIsZero s n →
      capTerm s n it (s.speedCap n) ∧ ∀ x, capTerm s n it x → s.speedCap n ≤ x) ∧
    ∀ address : Nat,
      (s.telegramTo n address).cap ≤ (s.timing n.corridor).vmax ∧
      (crawls s n → (s.telegramTo n address).cap ≤ 100)

/-- R124, R125: the mode of a set-point is that of the first row that applies; and what travels with it: the leg's target less the offset as
a signed 32-bit count in RUN, the cap (never 0) in RUN and CRAWL, the mouth's side in PULL and PUSH, and 0 elsewhere. R119, R120: the
authority end is the far boundary of the far segment held, or the near boundary of the first fenced segment in use wholly beyond the
front where that is nearer; the available distance is what it leaves the uncertain front and the margin, 0 where there is none (log 31);
the target distance is that of p to the leg's target. -/
def Obligations.SetPointFollowsTheTable : Prop :=
  (∀ (s : State) (n : CarriageName),
       (s.holdsIntrusion n = true ↔ ∃ k ∈ s.heldRun n, ∃ g, (s.seg n.corridor k).fence = some (.auto (.intrusion g))) ∧
       s.setMode n =
         (if s.loopOpen n.corridor = true then .brake
          else if ((s.car n).state = .running ∨ (s.car n).state = .homing)
              ∧ s.availableDistance n < -((s.timing n.corridor).margin : Int) then .brake
          else if ((s.car n).state = .running ∨ (s.car n).state = .homing) ∧ s.holdsIntrusion n = true then .brake
          else if (s.car n).state = .transferring then
            (match (s.car n).transfer with
             | some tr => (match tr.kind with | .pull => .pull | .push => .push)
             | none => .hold)
          else if (s.car n).state ≠ .running ∧ (s.car n).state ≠ .homing then .hold
          else
            match (s.car n).leg with
            | none => .hold
            | some leg =>
              if s.speedCap n = 0 then .hold
              else if (s.car n).state = .running ∧ (s.car n).offset = none then .hold
              else if (s.car n).state = .homing then (match leg.dir with | .south => .crawlSouth | .north => .crawlNorth)
              else .run)) ∧
  (∀ (s : State) (n : CarriageName) (address : Nat),
       (s.telegramTo n address).mode = s.setMode n ∧ (s.telegramTo n address).address = address ∧
       (s.telegramTo n address).target =
         (if s.setMode n = .run then
           (match (s.car n).leg, (s.car n).offset with
            | some leg, some off => BitVec.ofInt 32 (leg.target - off)
            | _, _ => 0)
          else 0) ∧
       (s.telegramTo n address).cap =
         (if s.setMode n = .run ∨ s.setMode n = .crawlNorth ∨ s.setMode n = .crawlSouth then s.speedCap n else 0) ∧
       ((s.setMode n = .run ∨ s.setMode n = .crawlNorth ∨ s.setMode n = .crawlSouth) → 0 < (s.telegramTo n address).cap) ∧
       (s.telegramTo n address).side =
         (if s.setMode n = .pull ∨ s.setMode n = .push then (s.car n).transfer.map (·.side) else none)) ∧
  (∀ (s : State) (n : CarriageName) (it : CarriageItem) (p : Int) (leg : Leg),
       s.item n = some it → (s.car n).p = some p → (s.car n).leg = some leg →
       (s.heldRun n = [] → s.authorityEnd n = none) ∧
       (s.authorityEnd n = none → s.availableDistance n = 0) ∧
       (leg.dir = .south →
         s.targetDistance n = some (leg.target - p) ∧
         (∀ a k, s.authorityEnd n = some (a, k) →
           s.availableDistance n = a - (p + it.length + (s.car n).u) - (s.timing n.corridor).margin) ∧
         ∀ j x y fenced, (s.heldRun n).getLast? = some j → s.layout.bounds n.corridor j = some (x, y) →
           fenced = (s.segsInUse n.corridor).filter (fun k => (s.seg n.corridor k).fence.isSome &&
             (s.layout.segSpan n.corridor k).any fun r => decide (p + it.length < r.1)) →
           s.authorityEnd n =
             (match fenced.head?.bind (s.layout.bounds n.corridor) with
              | some b => if (b.1 : Int) < y then some ((b.1 : Int), .fenceEnd) else some ((y : Int), .runEnd)
              | none => some ((y : Int), .runEnd))) ∧
       (leg.dir = .north →
         s.targetDistance n = some (p - leg.target) ∧
         (∀ a k, s.authorityEnd n = some (a, k) →
           s.availableDistance n = (p - (s.car n).u) - a - (s.timing n.corridor).margin) ∧
         ∀ j x y fenced, (s.heldRun n).head? = some j → s.layout.bounds n.corridor j = some (x, y) →
           fenced = (s.segsInUse n.corridor).filter (fun k => (s.seg n.corridor k).fence.isSome &&
             (s.layout.segSpan n.corridor k).any fun r => decide (r.2 < p)) →
           s.authorityEnd n =
             (match fenced.getLast?.bind (s.layout.bounds n.corridor) with
              | some b => if (x : Int) < b.2 then some ((b.2 : Int), .fenceEnd) else some ((x : Int), .runEnd)
              | none => some ((x : Int), .runEnd)))) ∧
  (∀ (s : State) (n : CarriageName), ((s.car n).leg = none ∨ (s.car n).p = none) →
       s.authorityEnd n = none ∧ s.targetDistance n = none ∧ s.availableDistance n = 0)

/-! ## Track and positions -/

/-- R80, R81, R77: a grant request places neither a fenced segment nor one whose layers name another carriage newly in a running layer; it
grants the first segment of its list where that is grantable (the list over a horizon inside or behind the uncertain footprint: logs 44 and
78); in CONFIGURING and under the corridor hold it grants none; a carriage that
is neither RUNNING nor HOMING makes none. Every step keeps that no two carriages stand in the layers of one segment. -/
def Obligations.GrantsKeepOutOfFences : Prop :=
  (∀ (s : State) (n : CarriageName),
    (∀ c k, (s.seg c k).fence ≠ none → ((s.grantRequest n).seg c k).running = (s.seg c k).running) ∧
    (∀ c k m, m ≠ n → (s.seg c k).holds m = true →
      ((s.grantRequest n).seg c k).running = (s.seg c k).running ∧ ((s.grantRequest n).seg c k).standing = (s.seg c k).standing) ∧
    (s.mode = .configuring ∨ s.hold n.corridor = true →
      ∀ c k, ((s.grantRequest n).seg c k).running = (s.seg c k).running) ∧
    ((s.car n).state ≠ .running → (s.car n).state ≠ .homing → s.grantRequest n = s) ∧
    ∀ it p leg k rest, ((s.car n).state = .running ∨ (s.car n).state = .homing) → s.mode = .running → s.hold n.corridor = false →
      s.item n = some it → (s.car n).p = some p → (s.car n).leg = some leg →
      s.requestList n leg.dir (s.requestStretch n leg p it).2 = k :: rest →
      ((s.heldRun n = [] ∧ ∃ r, s.uncertain n = some r ∧ s.layout.segMeets n.corridor k r = true) ∨
        (∃ e, leg.dir = .south ∧ (s.heldRun n).getLast? = some e ∧ k = e + 1) ∨
        (∃ e, leg.dir = .north ∧ (s.heldRun n).head? = some e ∧ k + 1 = e)) →
      s.segInUse n.corridor k = true → (s.seg n.corridor k).fence = none → (s.seg n.corridor k).running = none →
      ((s.seg n.corridor k).standing = none ∨ (s.seg n.corridor k).standing = some n) →
      ((s.grantRequest n).seg n.corridor k).running = some (n, leg.dir) ∧ ((s.grantRequest n).seg n.corridor k).standing = none) ∧
  ∀ s t : State, OneCarriage s → step s = .next t → OneCarriage t

/-- R96: an odometer count anchors the offset, moves p and the distances, or only keeps count and direction. That p is count plus offset as
a signed 32-bit sum is the model's reading (log 18), and that the change is 0 where no last count is kept is log 72. The tracker goes on
with the count so, the ends of the corridor before the missed gates (log 74): u is computed afresh (R97), and above 1,500 mm it stands at
1,500 and the carriage, unless UNPLACED, faults with POSITION_LOST (R115); a footprint more than u beyond an end of the corridor is held at
that end and faults likewise (R115; the southern end is known with the length only, log 46); the distance since homing sets the re-home mark
at the answer at which it reaches the re-home distance (R98, log 45); missed gates are counted (R106) and a standstill at a gate is marked
(R105). A fault keeps position, offset and u; one of a FAULTED carriage changes its kind only to one of higher rank (R64). -/
def Obligations.OdometerCountsMoveThePosition : Prop :=
  (∀ (s : State) (n : CarriageName) (odo : BitVec 32) (t : State),
    t = ((((s.trackOdometer n odo).refreshU n).checkEnds n).checkRehome n (s.car n).sinceHoming) →
    ∀ u : State, u = ((t.missedGates n (s.car n).prevAnswer).foldl (State.missGate n.corridor) t).markStandstill n →
    s.track n odo =
      { u with carriages := u.carriages.set n { u.car n with prevAnswer := (u.car n).p.map fun p => (p, (u.car n).u) } }) ∧
  (∀ (s : State) (n : CarriageName) (k u : Nat),
    k = (if (s.car n).slip = true then 2 * (s.timing n.corridor).slip else (s.timing n.corridor).slip) →
    u = (s.car n).uBase + ((s.car n).sinceCorrection * k + 999) / 1000 →
    ((s.car n).p = none → s.refreshU n = s) ∧
    ((s.car n).p ≠ none → u ≤ 1500 → s.refreshU n = { s with carriages := s.carriages.set n { s.car n with u := u } }) ∧
    ((s.car n).p ≠ none → 1500 < u → (s.car n).state = .unplaced →
      s.refreshU n = { s with carriages := s.carriages.set n { s.car n with u := 1500 } }) ∧
    ((s.car n).p ≠ none → 1500 < u → (s.car n).state ≠ .unplaced →
      s.refreshU n = ({ s with carriages := s.carriages.set n { s.car n with u := 1500 } } : State).fault n .positionLost none)) ∧
  (∀ (s : State) (n : CarriageName),
    ((s.car n).p = none ∨ s.item n = none → s.checkEnds n = s) ∧
    ∀ (p : Int) (it : CarriageItem) (end_ : Int → State), (s.car n).p = some p → s.item n = some it →
      (∀ q, end_ q = ({ s with
        carriages := s.carriages.set n
          { s.car n with
            p := some q
            offset := match (s.car n).lastOdometer with | some odo => some (q - odo.toInt) | none => (s.car n).offset } } : State).fault n
        .positionLost none) →
      (p < -((s.car n).u : Int) → s.checkEnds n = end_ 0) ∧
      (-((s.car n).u : Int) ≤ p →
        (∀ e : Nat, s.layout.length.get n.corridor = some e → (e : Int) + (s.car n).u < p + it.length →
          s.checkEnds n = end_ ((e : Int) - it.length)) ∧
        ((∀ e : Nat, s.layout.length.get n.corridor = some e → p + it.length ≤ (e : Int) + (s.car n).u) → s.checkEnds n = s))) ∧
  (∀ (s : State) (n : CarriageName) (before : Nat),
    (before < s.layout.unit.rehome * 1000 → s.layout.unit.rehome * 1000 ≤ (s.car n).sinceHoming →
      s.checkRehome n before = s.setRehome n) ∧
    ((s.layout.unit.rehome * 1000 ≤ before ∨ (s.car n).sinceHoming < s.layout.unit.rehome * 1000) → s.checkRehome n before = s) ∧
    s.setRehome n =
      { s with
        carriages := s.carriages.set n { s.car n with rehome := true }
        owed := if s.item n ≠ none ∧ (s.car n).state = .idle ∧ (s.car n).task = none then s.owed.set n.corridor true else s.owed }) ∧
  (∀ (s : State) (n : CarriageName) (c : Corridor) (k : Nat),
    s.markStandstill n = { s with gates := (s.markStandstill n).gates } ∧
    (s.markStandstill n).gate c k =
      if c = n.corridor ∧ (s.car n).speed = 0 ∧ (s.gate c k).attributed = some n then { s.gate c k with standstill := true }
      else s.gate c k) ∧
  (∀ (s : State) (n : CarriageName) (kind : FaultKind) (code : Option Nat),
    ((s.car n).state ≠ .faulted →
      ((s.fault n kind code).car n).state = .faulted ∧ ((s.fault n kind code).car n).faultKind = some kind ∧
      ((s.fault n kind code).car n).faultCode = code ∧ ((s.fault n kind code).car n).p = (s.car n).p ∧
      ((s.fault n kind code).car n).offset = (s.car n).offset ∧ ((s.fault n kind code).car n).u = (s.car n).u) ∧
    ∀ old, (s.car n).state = .faulted → (s.car n).faultKind = some old →
      (kind.rank ≤ old.rank → s.fault n kind code = s) ∧
      (old.rank < kind.rank →
        s.fault n kind code =
          ({ s with carriages := s.carriages.set n { s.car n with faultKind := some kind, faultCode := none } } : State).notifyAll
            (.fault n kind none))) ∧
  ∀ (s : State) (n : CarriageName) (odo : BitVec 32),
    (∀ m, m ≠ n → (s.trackOdometer n odo).car m = s.car m) ∧
    ((s.trackOdometer n odo).car n).lastOdometer = some odo ∧ ((s.trackOdometer n odo).car n).returned = false ∧
    (∀ p : Int, (s.car n).p = some p → ((s.car n).offset = none ∨ (s.car n).returned = true) →
      (s.trackOdometer n odo).car n =
        { s.car n with lastOdometer := some odo, returned := false, offset := some (p - odo.toInt), dir := none }) ∧
    (∀ p off : Int, (s.car n).p = some p → (s.car n).offset = some off → (s.car n).returned = false →
      (s.trackOdometer n odo).car n =
        { s.car n with
          lastOdometer := some odo, returned := false, p := some (odo + BitVec.ofInt 32 off).toInt
          sinceCorrection := (s.car n).sinceCorrection + (odometerChange (s.car n) odo).natAbs
          sinceHoming := (s.car n).sinceHoming + (odometerChange (s.car n) odo).natAbs
          dir := directionBy (s.car n) (odometerChange (s.car n) odo) }) ∧
    ((s.car n).p = none →
      (s.trackOdometer n odo).car n =
        { s.car n with
          lastOdometer := some odo, returned := false
          dir := directionBy (s.car n) (odometerChange (s.car n) odo) })

/-! ## Ports (R174 to R176) -/

/-- R175: a line complete while a request is outstanding sets the overrun mark and does nothing else; so does the row OVERRUN, which
does nothing where no request is outstanding (log 4). -/
def Obligations.LineDuringARequestIsAnOverrun : Prop :=
  ∀ (s : State) (l : LinkId), s.powered = true →
    ((s.link l).outstanding ≠ none →
      (∀ (c : Instr) (w : ReqWord) (ok : Bool), asked c = some (l, w, ok) →
        exec c s = .next { s with links := s.links.set l { s.link l with overrun := true, assembling := none } }) ∧
      exec (.overrun l) s = .next { s with links := s.links.set l { s.link l with overrun := true, assembling := none } }) ∧
    ((s.link l).outstanding = none → exec (.overrun l) s = .next s)

/-- R176: the port's own refusals in their order: SYNTAX, MODE for a MOVE in CONFIGURING, DENIED; nothing but the answer changes. R179: a
line whose words are a request's is read as that request, in form or not, and no other line is read as one: it is answered SYNTAX with its
own first field, and its second where the first is a word that takes a sub-word (the row STATUS carries it, the model's choice, log 7). The
words and fields written for a request in form are read as that request, with every operand at every value its form admits; numbers are 1
to 10 digits, words are of capitals, digits and underscores, a capital first. The level at the input that LAYOUT SET of a GATE reads and
the levels a RESTART reads stand beside the line (log 14), and no line spells a MOVE's corridor but F and T (log 55). -/
def Obligations.PortRefusesInOrder : Prop :=
  (∀ (l : LinkId) (level : Level) (pins : Pins) (fields : List (List Char)), fields ≠ [] → (∀ t ∈ fields, ' ' ∉ t) →
    readLine l level pins (closeLine ('>' :: joined ' ' fields)) =
      some ((readRequest l level pins fields).getD (.status l (.unlisted (wordsInPlace fields))))) ∧
  (∀ fields : List (List Char),
    ((∃ (w : ReqWord) (x y : String), w.words = [x, y] ∧ fields.head? = some x.toList) → wordsInPlace fields = fields.take 2) ∧
    ((∀ (w : ReqWord) (x y : String), w.words = [x, y] → fields.head? ≠ some x.toList) → wordsInPlace fields = fields.take 1)) ∧
  (∀ (l : LinkId) (level : Level) (pins : Pins) (fields : List (List Char)),
    readRequest l level pins fields = none ↔ ∀ w : ReqWord, w.words ≠ [] → ¬ w.words.map String.toList <+: fields) ∧
  (∀ (l : LinkId) (level : Level) (pins : Pins) (w : ReqWord) (rest : List (List Char)), w.words ≠ [] →
    ∃ c ok, readRequest l level pins (w.words.map String.toList ++ rest) = some c ∧ asked c = some (l, w, ok)) ∧
  (∀ (l : LinkId) (level : Level) (pins : Pins) (w : ReqWord) (c : Instr),
    asked c = some (l, w, true) → SpelledAt level pins c → readRequest l level pins (requestText c) = some c) ∧
  (∀ (t : List Char) (n : Nat), readNumber t = some n ↔
    1 ≤ t.length ∧ t.length ≤ 10 ∧ (∀ c ∈ t, '0' ≤ c ∧ c ≤ '9') ∧ n = t.foldl (fun x c => 10 * x + (c.toNat - 48)) 0) ∧
  (∀ (α : Type) (defs : List (String × α)) (t : List Char), readNamed defs t ≠ none ↔
    ∃ c rest, t = c :: rest ∧ ('A' ≤ c ∧ c ≤ 'Z') ∧
      ∀ d ∈ rest, ('A' ≤ d ∧ d ≤ 'Z') ∨ ('0' ≤ d ∧ d ≤ '9') ∨ d = '_') ∧
  (∀ (s : State) (l : LinkId) (words : List (List Char)), s.powered = true → (s.link l).outstanding = none →
    exec (.status l (.unlisted words)) s = .next (s.replied l (.other words) (.refuse .badForm))) ∧
  ∀ (s : State) (l : LinkId) (c : Instr) (w : ReqWord) (ok : Bool),
    s.powered = true → (s.link l).outstanding = none → asked c = some (l, w, ok) →
      (ok = false → exec c s = .next (s.replied l w (.refuse .badForm))) ∧
      (ok = true → w = .move → s.mode = .configuring → exec c s = .next (s.replied l w (.refuse .mode))) ∧
      (ok = true → ¬ (w = .move ∧ s.mode = .configuring) → s.mayAsk l w = false →
        exec c s = .next (s.replied l w (.refuse .denied)))

/-! ## Requests that read -/

/-- R5, R30: LAYOUT GET, LANE GET and BENCH GET answer the fields of what they name, and change nothing. That LAYOUT GET answers RANGE for
a key out of its range is the model's reading (log 23), the order a permission set is answered in its choice (log 40). The fields are those
of R1 to R3, R18 and R25, written out, with the derived boundaries and positions of R1. The model's choices here: a boundary or gate
position without the segments it rests on is absent (log 13); how LANE GET writes mouths, the lock holder and straddling benches (log 73),
and the waiting carriage last (log 68); an absent read number is NONE (log 67). -/
def Obligations.LayoutAndInventoryReads : Prop :=
  (∀ k : ItemKey, keyOk k = true ↔
    match k with
    | .corridor c => c ≠ .unknown
    | .segment c k => c ≠ .unknown ∧ k ≤ 39
    | .gate c k => c ≠ .unknown ∧ k ≤ 40
    | .lane n => 1 ≤ n ∧ n ≤ 120
    | .mouth n c => 1 ≤ n ∧ n ≤ 120 ∧ c ≠ .unknown
    | .carriage n => n ≠ .unknown
    | .link n => 1 ≤ n ∧ n ≤ 3
    | .timing k => k ≠ .unknown) ∧
  (∀ (s : State) (c : Corridor) (k n : Nat) (x : CarriageName) (l : LinkId),
    s.itemFields (.corridor (.known c)) =
      (s.layout.length.get c).map (fun e =>
        [.num e, .num (s.layout.segments.get c).entries.length, .num (s.layout.gates.get c).entries.length]) ∧
    s.itemFields (.segment (.known c) k) =
      ((s.layout.segments.get c).get? k).map (fun e =>
        .num e :: match s.layout.bounds c k with
          | some b => [.num b.1, .num b.2]
          | none => [.word "NONE", .word "NONE"]) ∧
    s.itemFields (.gate (.known c) k) =
      ((s.layout.gates.get c).get? k).map (fun i =>
        [.num i, match s.layout.gatePos c k with | some g => .num g | none => .word "NONE"]) ∧
    s.itemFields (.lane n) =
      (s.layout.lanes.get? n).map (fun it =>
        [.word (LaneKind.word it.kind), match it.role with | some r => .word (StationRole.word r) | none => .word "NONE",
          .num it.capacity]) ∧
    s.itemFields (.mouth n (.known c)) = ((s.layout.mouths.get c).get? n).map (fun m => [.word (Side.word m.side), .num m.dock]) ∧
    s.itemFields (.carriage (.known x)) =
      (s.layout.carriages.get x).map (fun it => [.num it.length, .num it.decel, .word (Dir.word it.home), .num it.address]) ∧
    s.itemFields (.link l.number) = (s.layout.perms.get l).map (fun ps => [.words (ps.map Permission.word)]) ∧
    s.itemFields (.timing (.known (.corridor c))) =
      some [.num (s.timing c).vmax, .num (s.timing c).reaction, .num (s.timing c).margin, .num (s.timing c).tol, .num (s.timing c).slip,
        .num (s.timing c).trust] ∧
    s.itemFields (.timing (.known .unit)) =
      some [.num s.layout.unit.aging, .num s.layout.unit.allowance, .num s.layout.unit.rehome]) ∧
  (∀ (y : Layout) (c : Corridor) (k north : Nat), north = ((List.range k).map fun j => ((y.segments.get c).get? j).getD 0).sum →
    ((∀ j, j < k → (y.segments.get c).get? j ≠ none) → ∀ e, (y.segments.get c).get? k = some e →
      y.bounds c k = some (north, north + e)) ∧
    ((∃ j, j ≤ k ∧ (y.segments.get c).get? j = none) → y.bounds c k = none) ∧
    y.gatePos c k =
      (if k = (y.segments.get c).entries.length then y.length.get c else (y.bounds c k).map fun b => b.1)) ∧
  (∀ (s : State) (n : Nat) (straddlers : List Nat),
    straddlers = (s.benches.entries.filter fun e => match e.2.place with | .straddling _ k _ => decide (k = n) | _ => false).map (·.1) →
    s.laneFields n =
      .num n ::
        (match s.laneItem n with
         | some it =>
           [.word (LaneKind.word it.kind), match it.role with | some r => .word (StationRole.word r) | none => .word "NONE",
             .num it.capacity]
         | none => [.word "NONE", .word "NONE", .word "NONE"])
      ++ (match s.laneItem n, s.mouth n .f, s.mouth n .t with
          | some _, some a, some b =>
            [.word "F", .word (Side.word a.side), .num a.dock, .word "T", .word (Side.word b.side), .num b.dock]
          | some _, some a, none => [.word "F", .word (Side.word a.side), .num a.dock]
          | some _, none, some b => [.word "T", .word (Side.word b.side), .num b.dock]
          | _, _, _ => [.word "NONE"])
      ++ [.nums (s.lane n).benches, .num (s.lane n).incoming, .num (s.lane n).outgoing,
          match (if s.isBay n = true then (s.lane n).lock else none) with | some c => .word (Corridor.word c) | none => .word "NONE",
          .num ((s.lane n).benches.length + straddlers.length), .nums straddlers,
          match (s.lane n).waiting with | some w => .word (CarriageName.word w) | none => .word "NONE"]) ∧
  (∀ (s : State) (b : Nat) (v : Bench),
    s.benchFields b v =
      [.num b, .num v.batch, .word (Readiness.word v.readiness), match v.reference with | some r => .num r | none => .word "NONE"]
      ++ (match v.place with
          | .inLane k => [.word "IN_LANE", .num k, .num ((s.lane k).benches.findIdx fun x => decide (x = b))]
          | .aboard n => [.word "ABOARD", .word (CarriageName.word n)]
          | .straddling n k c => [.word "STRADDLING", .word (CarriageName.word n), .num k, .word (Corridor.word c)]
          | .outside => [.word "OUTSIDE"])
      ++ (match v.identity with
          | .verified => [.word "VERIFIED", .word "NONE"]
          | .unread => [.word "UNREAD", .word "NONE"]
          | .doubtful none => [.word "DOUBTFUL", .word "NONE"]
          | .doubtful (some r) => [.word "DOUBTFUL", .num r])
      ++ [match v.claim with | some id => .num id | none => .word "NONE", .num v.lastMoved]) ∧
  ∀ (s : State) (l : LinkId), Ready s l →
    (∀ k : ItemKey, k.form = true → exec (.layoutGet l (.args k)) s =
      .next (s.replied l .layoutGet
        (if keyOk k = false then .refuse .range
         else match s.itemFields k with | none => .refuse .unknown | some f => .ok f))) ∧
    (∀ n : Nat, numberOk n = true → exec (.laneGet l (.args n)) s =
      .next (s.replied l .laneGet
        (if n < 1 ∨ 120 < n then .refuse .range
         else if s.laneItem n = none ∧ (s.lane n).benches = [] then .refuse .unknown
         else .ok (s.laneFields n)))) ∧
    (∀ b : Nat, numberOk b = true → exec (.benchGet l (.args b)) s =
      .next (s.replied l .benchGet
        (if b < 1 ∨ 4000 < b then .refuse .range
         else match s.bench? b with | none => .refuse .unknown | some v => .ok (s.benchFields b v))))

/-- R58, R76, R127, R95, R108, R154: ORDER GET and LIST, CARRIAGE GET and LIST, AUTHORITY GET, SEGMENT GET and LIST, GATE GET and LINE GET
answer what stands in the records, and change nothing. The fields are written out in the order of the rules that list them (R39, R60, R61,
R78, R99, R110, R126, R142, R143, R152). The model's choices here: the words of an authority end (log 51), fixed places for the figures
(log 52), the work of a SHIFT (log 60), the order of a gate's samples (log 63), the place of the last load (log 65), what LINE GET writes
and the words for a record in use (log 66), values below 0 (log 77), NONE in the place of an absent carriage or fence kind (log 67), the
corridor of an order written once, before its destination lane (log 79), and the order a waiting set or a waiting-for set is kept and
answered in (log 40). -/
def Obligations.RecordReads : Prop :=
  (∀ (o : Order) (l : List Order),
    o.fields =
      [.num o.id, .num o.link.number, .word (OrderClass.word o.base), .word (OrderClass.word o.eff)]
      ++ (match o.source with
          | .bench b => [.word "BENCH", .num b]
          | .laneEnd k => [.word "LANE", .word "END", .num k, .word (Corridor.word o.corridor)]
          | .aboard n => [.word "ABOARD", .word (CarriageName.word n)])
      ++ [.word (Corridor.word o.corridor), .num o.dest, match o.bench with | some b => .num b | none => .word "NONE",
          match o.carriage with | some n => .word (CarriageName.word n) | none => .word "NONE", .word o.phase.word, .word "NONE",
          .num o.placedAt, .num o.raisedAt] ∧
    listOrders l =
      .num l.length :: l.flatMap (fun o => [.num o.id, .num o.link.number, .word o.phase.word, .word (OrderClass.word o.eff)])) ∧
  (∀ (n : CarriageName) (v : Carriage) (orNone : Option Nat → Field) (intOrNone : Option Int → Field),
    orNone = (fun x => match x with | some k => .num k | none => .word "NONE") →
    intOrNone = (fun x => match x with | some k => .num k | none => .word "NONE") →
    carriageFields n v =
      [.word (CarriageName.word n), .word v.state.word, match v.remembered with | some r => .word r.word | none => .word "NONE",
       match v.faultKind with | some k => .word k.word | none => .word "NONE", orNone v.faultCode,
       match v.load with | .empty => .word "EMPTY" | .bench b => .num b | .straddled => .word "STRADDLED", orNone v.assigned]
      ++ (match v.task with
          | none => [.word "NONE"]
          | some k =>
            [.word k.kind.word, .num k.lo, .num k.hi, .words (k.waitingFor.map CarriageName.word), intOrNone k.target]
            ++ match k.work with
              | some (.order id) => [.word "ORDER", .num id]
              | some (.homing m) => [.word "HOMING", .word (CarriageName.word m)]
              | none => [.word "NONE"])
      ++ [intOrNone v.p, intOrNone v.offset, .num v.u, .num v.uBase, .num v.sinceCorrection, .num v.sinceHoming,
          .word (if v.slip = true then "SET" else "CLEAR"), .word (if v.rehome = true then "SET" else "CLEAR"),
          match v.dir with | some d => .word (Dir.word d) | none => .word "NONE", .num v.speed,
          match v.driveState with | some d => .word (DriveState.word d) | none => .word "NONE",
          match v.lastLoad with | some true => .word "LOADED" | some false => .word "EMPTY" | none => .word "NONE"]
      ++ (match v.mark with | some k => [.num k.lane, .word (Corridor.word k.mouth), .num k.bench] | none => [.word "CLEAR"])
      ++ [.num v.homings, .word v.link.word]
      ++ (match v.homing with | some h => [.num h.gate, .num h.target, .num h.start] | none => [.word "NONE"])
      ++ (match v.docked with
          | some k => if v.state = .docked then [.num k, .word (Corridor.word n.corridor)] else [.word "NONE"]
          | none => [.word "NONE"])
      ++ (match v.transfer with
          | some t =>
            [.word t.kind.word, .num t.lane, .word (Corridor.word n.corridor), .word (Side.word t.side), .num t.order, .num t.bench,
             .word (if t.startLoaded = true then "LOADED" else "EMPTY"), .num t.start]
          | none => [.word "NONE"])
      ++ [orNone v.slot, .word (if v.slotOverrun = true then "SET" else "CLEAR")]
      ++ (match v.recognizer with | .hunt k => [.word "HUNT", .num k] | .body l => [.word "BODY", .num l.length]) ∧
    authorityFields v =
      (match v.leg with | some leg => [.word (Dir.word leg.dir), .num leg.target] | none => [.word "NONE"])
      ++ [intOrNone v.horizon, .nums v.requestList]
      ++ (match v.figures with
          | none => [.word "NONE"]
          | some g =>
            (match g.authority with
             | some (a, .runEnd) => [.num a, .word "RUN_END"]
             | some (a, .fenceEnd) => [.num a, .word "FENCE_END"]
             | none => [.word "NONE"])
            ++ [intOrNone g.dA, intOrNone g.dT, .num g.capV, orNone g.capA, orNone g.capT, orNone g.capC, .num g.cap, .word g.mode.word,
                match g.target with | some t => .num t.toInt | none => .word "NONE", .num g.second])) ∧
  (∀ (s : State) (c : Corridor) (k : Nat) (g : Segment → List Field) (kind : Segment → Field),
    g = (fun v => match v.fence, v.running, v.standing with
      | some _, _, _ => [.word "FENCED", .word "NONE"]
      | none, some (n, _), _ => [.word "RUNNING", .word (CarriageName.word n)]
      | none, none, some n => [.word "STANDING", .word (CarriageName.word n)]
      | none, none, none => [.word "FREE", .word "NONE"]) →
    kind = (fun v => match v.fence with | some (.operator _) => .word "OPERATOR" | some (.auto _) => .word "AUTO" | none => .word "NONE") →
    s.segmentFields c k =
      (match (s.layout.segments.get c).get? k, s.layout.bounds c k with
       | none, _ => [.word "NO"]
       | some _, some b => [.word "YES", .num b.1, .num b.2]
       | some _, none => [.word "YES", .word "NONE", .word "NONE"])
      ++ (match (s.seg c k).fence with
          | some (.operator l) => [.word "OPERATOR", .num l.number]
          | some (.auto (.intrusion i)) => [.word "AUTO", .word "INTRUSION", .num i]
          | some (.auto (.carriageLost n)) => [.word "AUTO", .word "CARRIAGE_LOST", .word (CarriageName.word n)]
          | some (.auto .restartOverlap) => [.word "AUTO", .word "RESTART_OVERLAP"]
          | none => [.word "NONE"])
      ++ (match (s.seg c k).running with | some (n, d) => [.word (CarriageName.word n), .word (Dir.word d)] | none => [.word "NONE"])
      ++ [match (s.seg c k).standing with | some n => .word (CarriageName.word n) | none => .word "NONE"]
      ++ g (s.seg c k) ++ [.words ((s.seg c k).waiting.map CarriageName.word)] ∧
    s.segmentListFields c =
      .num (s.layout.segments.get c).entries.length
        :: ((s.layout.segments.get c).entries.flatMap fun e => .num e.1 :: g (s.seg c e.1) ++ [kind (s.seg c e.1)])
        ++ ((s.segments.get c).entries.filter fun e =>
              decide ((s.layout.segments.get c).get? e.1 = none ∧ e.2.fence ≠ none)).flatMap fun e => [.num e.1, kind e.2]) ∧
  (∀ (s : State) (c : Corridor) (k : Nat) (level : Level → Field),
    level = (fun v => match v with | .clear => .word "CLEAR" | .present => .word "PRESENT") →
    s.gateFields c k =
      [match s.gateInput c k with | some i => .num i | none => .word "NONE",
       .word (match (s.gate c k).service with | .inService => "IN_SERVICE" | .outOfService => "OUT_OF_SERVICE"), .num (s.gate c k).misses,
       level (s.gate c k).samples.newest, level (s.gate c k).samples.middle, level (s.gate c k).samples.oldest, level (s.gate c k).level,
       match (s.gate c k).rising with | some t => .num t | none => .word "NONE",
       match (s.gate c k).duration with | some t => .num t | none => .word "NONE",
       match (s.gate c k).attributed with | some n => .word (CarriageName.word n) | none => .word "NONE",
       .word (if (s.gate c k).standstill = true then "SET" else "CLEAR"), .word (s.gate c k).outcome.word]
      ++ (match s.gateInput c k, s.layout.gatePos c k with
          | none, _ => [.word "NO"]
          | some _, some g => [.word "YES", .num g]
          | some _, none => [.word "YES", .word "NONE"])) ∧
  (∀ (s : State) (address : Nat) (n : CarriageName),
    driveFields s (address, n) =
      [.num address, .word (CarriageName.word n), .word (match (s.car n).link with | .up => "UP" | .lost => "LOST"), .num (s.car n).misses,
       .word (if (s.car n).returned = true then "SET" else "CLEAR"),
       match (s.car n).lastAnswer with | some t => .num (t / 1000 : Nat) | none => .word "NONE"]) ∧
  (∀ (s : State) (l : LinkId), Ready s l →
       (∀ id : Nat, numberOk id = true → exec (.orderGet l (.args id)) s =
         .next (s.replied l .orderGet
           (if id < 1 ∨ 65535 < id then .refuse .range
            else match s.order? id with | none => .refuse .unknown | some o => .ok o.fields))) ∧
       exec (.orderList l (.args none)) s = .next (s.replied l .orderList (.ok (listOrders s.book))) ∧
       (∀ n : Nat, numberOk n = true → exec (.orderList l (.args (some n))) s =
         .next (s.replied l .orderList
           (match LinkId.ofNumber n with
            | none => .refuse .range
            | some m => .ok (listOrders (s.book.filter fun o => decide (o.link = m)))))) ∧
       (∀ n, exec (.carriageGet l (.args (.known n))) s =
         .next (s.replied l .carriageGet (if s.item n = none then .refuse .unknown else .ok (carriageFields n (s.car n))))) ∧
       exec (.carriageGet l (.args .unknown)) s = .next (s.replied l .carriageGet (.refuse .range)) ∧
       (∀ c, exec (.carriageList l (.args (.known c))) s =
         .next (s.replied l .carriageList
           (.ok ((s.carsOf c).flatMap fun n =>
             [.word (CarriageName.word n), .word (s.car n).state.word,
              (match (s.car n).faultKind with | some k => .word k.word | none => .word "NONE"),
              loadField (s.car n).load, optNum (s.car n).assigned])))) ∧
       exec (.carriageList l (.args .unknown)) s = .next (s.replied l .carriageList (.refuse .range)) ∧
       (∀ n, exec (.authorityGet l (.args (.known n))) s =
         .next (s.replied l .authorityGet (if s.item n = none then .refuse .unknown else .ok (authorityFields (s.car n))))) ∧
       exec (.authorityGet l (.args .unknown)) s = .next (s.replied l .authorityGet (.refuse .range))) ∧
  (∀ (s : State) (l : LinkId), Ready s l →
       (∀ c k, numberOk k = true → exec (.segmentGet l (.args ⟨.known c, k⟩)) s =
         .next (s.replied l .segmentGet (if 39 < k then .refuse .range else .ok (s.segmentFields c k)))) ∧
       (∀ k, numberOk k = true → exec (.segmentGet l (.args ⟨.unknown, k⟩)) s = .next (s.replied l .segmentGet (.refuse .range))) ∧
       (∀ c, exec (.segmentList l (.args (.known c))) s = .next (s.replied l .segmentList (.ok (s.segmentListFields c)))) ∧
       exec (.segmentList l (.args .unknown)) s = .next (s.replied l .segmentList (.refuse .range)) ∧
       (∀ c k, numberOk k = true → exec (.gateGet l (.args ⟨.known c, k⟩)) s =
         .next (s.replied l .gateGet (if 40 < k then .refuse .range else .ok (s.gateFields c k)))) ∧
       (∀ k, numberOk k = true → exec (.gateGet l (.args ⟨.unknown, k⟩)) s = .next (s.replied l .gateGet (.refuse .range))) ∧
       (∀ c, exec (.lineGet l (.args (.known c))) s =
         .next (s.replied l .lineGet
           (.ok ((match (s.line c).inFlight with | some ex => [yesNo true, .num ex.address] | none => [yesNo false])
             ++ [yesNo (s.line c).broadcast] ++ (s.drives c).flatMap (driveFields s))))) ∧
       exec (.lineGet l (.args .unknown)) s = .next (s.replied l .lineGet (.refuse .range)))

/-- R178: STATUS is served in every mode, store busy or not, answers the ten fields as they stand and changes nothing. -/
def Obligations.StatusTellsTheUnit : Prop :=
  ∀ (s : State) (l : LinkId), Ready s l →
    exec (.status l (.args ())) s =
      .next (s.replied l .status
        (.ok [.word (match s.mode with | .configuring => "CONFIGURING" | .running => "RUNNING"),
          .word (if s.storeBusy = none then "NO" else "YES"), .num s.book.length, .num s.benches.entries.length,
          .word (match (s.stop .f).loop with | .closed => "CLOSED" | .opened => "OPEN"),
          .word (match (s.stop .t).loop with | .closed => "CLOSED" | .opened => "OPEN"),
          .word (if s.hold .f = true then "YES" else "NO"), .word (if s.hold .t = true then "YES" else "NO"),
          .num (s.link l).badLines, .num (s.millis / 1000)]))

/-! ## Starts, power and the store -/

/-- R15, R17, R12, R14: POWER_ON starts the unit with its retained memory checked, RESTART answers OK and starts it unchecked or answers
BUSY, and POWER_LOSS leaves the stores with a write under way broken off; power that reaches a powered unit was lost first (log 5). -/
def Obligations.PowerRowsStartAndStop : Prop :=
  ∀ s : State,
    (∀ pins, s.powered = false → exec (.powerOn pins) s = .next (s.start pins true)) ∧
    (∀ pins, s.powered = true → exec (.powerOn pins) s = .next ((s.powerFails false).start pins true)) ∧
    (∀ cut, s.powered = true → exec (.powerLoss cut) s =
      .next { s with
        powered := false, saved := ⟨s.saved.content, s.saved.valid && s.storeBusy.isNone⟩, storeBusy := none
        retainedAgrees := s.retainedAgrees && !cut }) ∧
    (∀ l pins, Asks s l .restart → s.storeBusy = none →
      exec (.restart l (.args ()) pins) s =
        .next { (s.takeLine l .restart).start pins false with
          links := ((s.takeLine l .restart).start pins false).links.set l
            { ((s.takeLine l .restart).start pins false).link l with
              answer := some ⟨.restart, .ok, [], (s.link l).overrun, []⟩ } }) ∧
    (∀ l pins, Asks s l .restart → s.storeBusy ≠ none →
      exec (.restart l (.args ()) pins) s = .next (s.replied l .restart (.refuse .busy)))

/-- R15, R16, R23, R29, R94, R99, R143, R155, R172, R173: what a start leaves in the unit, whatever stood before it: the clock, the book,
the ports, the drive lines and drive records, the stop records, lane counts and locks, claims and stamps, the layers of the segments with
the fences of retained memory, the gates with their retained service; and what a lost retained memory leaves. The samples and level of a
gate record that is not in use are the model's choice (log 81). -/
def Obligations.StartLeavesTheStartValues : Prop :=
  ∀ (s : State) (pins : Pins) (checked : Bool),
    (s.start pins checked).powered = true ∧ (s.start pins checked).storeBusy = none ∧ (s.start pins checked).millis = 0 ∧
    (s.start pins checked).book = [] ∧ (s.start pins checked).nextId = 1 ∧ (s.start pins checked).saved = s.saved ∧
    (s.start pins checked).inputs = pins.present ∧ (s.start pins checked).pending = s.pending ∧
    (s.start pins checked).layout = (if s.saved.valid = true then s.saved.content else Layout.empty) ∧
    (s.start pins checked).mode =
      (if s.saved.valid = true ∧ (s.start pins checked).check = none then .running else .configuring) ∧
    (∀ l, (s.start pins checked).link l =
      { assembling := none, outstanding := none, overrun := false, badLines := 0, answer := none, noticesFollow := false
        queue := ⟨.started (s.start pins checked).mode, 0, none⟩
          :: (if checked = true ∧ s.retainedAgrees = false then [⟨.retainedLost, 0, none⟩] else [])
        lost := 0, attention := true, slots := List.replicate 6 ⟨false, false, [], none, .any, 0, 0, [], .any⟩ }) ∧
    (checked = true → s.retainedAgrees = false →
      (s.start pins checked).benches = Table.empty ∧ (∀ n, ((s.start pins checked).lane n).benches = []) ∧
      (∀ c k, ((s.start pins checked).seg c k).fence = none) ∧ (∀ c k, ((s.start pins checked).gate c k).service = .inService) ∧
      ∀ n, ((s.start pins checked).car n).p = none ∧ ((s.start pins checked).car n).load = .empty
        ∧ ((s.start pins checked).car n).mark = none) ∧
    (checked = false ∨ s.retainedAgrees = true →
      (∀ c k f, (s.seg c k).fence = some f → ((s.start pins checked).seg c k).fence = some f) ∧
      ∀ c k, ((s.start pins checked).gate c k).service = (s.gate c k).service) ∧
    (∀ c, (s.start pins checked).line c =
      { inFlight := none, broadcast := false, cycleStart := 0, toCall := [], sent := none, broadcastEnds := none }) ∧
    (∀ n, ((s.start pins checked).car n).link = .up ∧ ((s.start pins checked).car n).misses = 0 ∧
      ((s.start pins checked).car n).lastAnswer = none ∧ ((s.start pins checked).car n).returned = false) ∧
    (s.start pins checked).stops =
      ⟨⟨pins.loopF, ⟨pins.loopF, pins.loopF, pins.loopF⟩, pins.loopF⟩, ⟨pins.loopT, ⟨pins.loopT, pins.loopT, pins.loopT⟩, pins.loopT⟩⟩ ∧
    (∀ k, ((s.start pins checked).lane k).incoming = 0 ∧ ((s.start pins checked).lane k).outgoing = 0 ∧
      ((s.start pins checked).lane k).waiting = none ∧
      ((s.start pins checked).isBay k = false → ((s.start pins checked).lane k).lock = none) ∧
      (¬ StraddlesAt (s.start pins checked) k .f → ¬ StraddlesAt (s.start pins checked) k .t →
        ((s.start pins checked).lane k).lock = none) ∧
      ∀ c : Corridor, 1 ≤ k → k ≤ 120 → (s.start pins checked).isBay k = true → StraddlesAt (s.start pins checked) k c →
        ¬ StraddlesAt (s.start pins checked) k c.other → ((s.start pins checked).lane k).lock = some c) ∧
    (∀ b v, (s.start pins checked).bench? b = some v → v.claim = none ∧ v.lastMoved = 0) ∧
    (∀ c k, ((s.start pins checked).seg c k).running = none ∧ ((s.start pins checked).seg c k).waiting = [] ∧
      (k ∉ (s.start pins checked).segsInUse c ∨ (∀ n, (s.start pins checked).wanting c k ≠ [n]) →
        ((s.start pins checked).seg c k).standing = none) ∧
      (k ∈ (s.start pins checked).segsInUse c → ∀ n, (s.start pins checked).wanting c k = [n] →
        ((s.start pins checked).seg c k).standing = some n) ∧
      (k ∈ (s.start pins checked).segsInUse c → 2 ≤ ((s.start pins checked).wanting c k).length →
        ((s.start pins checked).seg c k).fence ≠ none)) ∧
    ∀ c k, ((s.start pins checked).gate c k).misses = 0 ∧ ((s.start pins checked).gate c k).rising = none ∧
      ((s.start pins checked).gate c k).duration = none ∧ ((s.start pins checked).gate c k).attributed = none ∧
      ((s.start pins checked).gate c k).standstill = false ∧ ((s.start pins checked).gate c k).outcome = .none ∧
      (∀ i, (s.start pins checked).gateInput c k = some i →
        ((s.start pins checked).gate c k).level = if i ∈ pins.present then .present else .clear) ∧
      ((s.start pins checked).gate c k).samples =
        ⟨((s.start pins checked).gate c k).level, ((s.start pins checked).gate c k).level, ((s.start pins checked).gate c k).level⟩

/-- R16, R23, R68: what a start whose retained memory stands gives a carriage that has a CARRIAGE item, and what it makes of a transfer
mark: the bench leaves its list, straddles at the mark's mouth and holds a BAY lane's lock for it. That u and u base of a carriage without
a position are kept is log 12, the blank homing fields, docked mouth and previous answer are log 28. -/
def Obligations.StartPlacesTheCarriages : Prop :=
  ∀ (s : State) (pins : Pins) (checked : Bool) (n : CarriageName), (checked = false ∨ s.retainedAgrees = true) →
    ((s.start pins checked).item n ≠ none →
      (s.start pins checked).car n =
        { Carriage.blank with
          state :=
            if (s.car n).p = none ∨ 1500 ≤ (s.car n).u + (s.start pins checked).layout.unit.allowance then .unplaced else .unhomed
          p := (s.car n).p
          u := if (s.car n).p = none then (s.car n).u else min 1500 ((s.car n).u + (s.start pins checked).layout.unit.allowance)
          uBase := if (s.car n).p = none then (s.car n).u else min 1500 ((s.car n).u + (s.start pins checked).layout.unit.allowance)
          load := if (s.car n).mark = none then (s.car n).load else .straddled }) ∧
    ∀ k v, (s.car n).mark = some k → (∀ m, m ≠ n → (s.car m).mark.map (·.bench) ≠ some k.bench) → s.bench? k.bench = some v →
      ((s.start pins checked).bench? k.bench).map Bench.place = some (.straddling n k.lane k.mouth) ∧
      ((s.start pins checked).car n).load = .straddled ∧ ((s.start pins checked).car n).mark = none ∧
      ((∀ m, m ≠ n → (s.car m).mark = none) →
        ∀ j, ((s.start pins checked).lane j).benches = (s.lane j).benches.erase k.bench) ∧
      (1 ≤ k.lane → k.lane ≤ 120 → (s.start pins checked).isBay k.lane = true →
        ¬ StraddlesAt (s.start pins checked) k.lane k.mouth.other → ((s.start pins checked).lane k.lane).lock = some k.mouth)

/-- R13, R177: SAVE answers BUSY, MODE or RANGE at once (RANGE with the item that fails the check, as ModesAreEntered spells it), or makes
the store busy and leaves its request without an answer; the end of the write and its read-back leave the saved layout, and OK or
STORE_FAILED on the link of the SAVE; the row does nothing where the store is not busy (the model's choice, log 4), and a failed write
leaves the layout written, invalid (log 37). -/
def Obligations.SaveTakesTheStore : Prop :=
  (∀ (s : State) (l : LinkId), Asks s l .save →
       exec (.save l (.args ())) s =
         .next
           (if s.storeBusy ≠ none ∧ s.storeBusy ≠ some l then s.replied l .save (.refuse .busy)
            else if s.mode = .running then s.replied l .save (.refuse .mode)
            else
              match s.check with
              | some i => s.replied l .save ⟨.range, i.fields, []⟩
              | none =>
                { s with
                  storeBusy := some l
                  links := s.links.set l
                    { s.link l with assembling := none, outstanding := some .save, answer := none, noticesFollow := false } })) ∧
  (∀ (s : State) (same : Bool), s.powered = true → NothingOwed s →
       (s.storeBusy = none → exec (.saveComplete same) s = .next s) ∧
       ∀ l, s.storeBusy = some l →
         exec (.saveComplete same) s =
           .next { s with
             storeBusy := none, saved := ⟨s.layout, same⟩
             links := s.links.set l
               { s.link l with
                 answer := some ⟨.save, if same = true then .ok else .storeFailed, [], (s.link l).overrun, []⟩ } })

/-! ## The layout and the mode -/

/-- R6, R7: LAYOUT SET refuses with the first of BUSY, MODE, UNKNOWN (a REMOVE of an absent item) and RANGE that applies; else it makes the
edit of R7 and answers OK, and no more than the end of its event follows. What the edits of a GATE, a LANE, a LINK and a CARRIAGE that has
a record do, and what REMOVE does to each kind of item, is told edit by edit. RANGE is every edit whose fields, key or conditions do not
hold. The model's choices here: the lock of an edited lane (log 24); that a removed carriage's gates no longer name it (log 25) and that
its name keeps a blank record with its position, load and mark (log 28); the order in which a permission set is kept (log 40); that a
drive with a new address waits for the next cycle (log 48); that an added or changed GATE item keeps the record's last edge outcome (log
57); and that the level at its input is the one the row gives (log 14). -/
def Obligations.LayoutSetJudgesAndEdits : Prop :=
  (∀ (s : State) (e : LayoutEdit), s.editOk e = true ↔ EditInRange s e) ∧
  (∀ (s : State) (l : LinkId) (e : LayoutEdit), Asks s l .layoutSet → e.form = true →
    ((s.storeBusy ≠ none ∧ s.storeBusy ≠ some l) →
      exec (.layoutSet l (.args e)) s = .next (s.replied l .layoutSet (.refuse .busy))) ∧
    ((s.storeBusy = none ∨ s.storeBusy = some l) → s.mode = .running →
      exec (.layoutSet l (.args e)) s = .next (s.replied l .layoutSet (.refuse .mode))) ∧
    ((s.storeBusy = none ∨ s.storeBusy = some l) → s.mode = .configuring →
      (∀ k, e = .remove k → s.itemFields k = none →
        exec (.layoutSet l (.args e)) s = .next (s.replied l .layoutSet (.refuse .unknown))) ∧
      ((∀ k, e = .remove k → s.itemFields k ≠ none) → s.editOk e = false →
        exec (.layoutSet l (.args e)) s = .next (s.replied l .layoutSet (.refuse .range))) ∧
      ((∀ k, e = .remove k → s.itemFields k ≠ none) → s.editOk e = true →
        ∃ t, exec (.layoutSet l (.args e)) s = .next t ∧ RunsOnly ((s.applyEdit e).replied l .layoutSet (.ok [])) t))) ∧
  (∀ (s : State) (l : LinkId), Asks s l .layoutSet → (s.storeBusy = none ∨ s.storeBusy = some l) → s.mode = .configuring →
    (∀ c k input level put, k ≤ 40 → 1 ≤ input → input ≤ 96 →
      put = { s.layout with gates := s.layout.gates.set c ((s.layout.gates.get c).put k input) } →
      (s.gateInput c k = some input →
        exec (.layoutSet l (.args (.gate (.known c) k input level))) s = .next ({ s with layout := put }.replied l .layoutSet (.ok []))) ∧
      (s.gateInput c k ≠ some input →
        exec (.layoutSet l (.args (.gate (.known c) k input level))) s =
          .next ({ s with
            layout := put, inputs := (s.setInput input level).inputs
            gates := s.gates.set c ((s.gates.get c).put k
              (if s.gateInput c k = none then
                { s.gate c k with
                  misses := 0, rising := none, duration := none, attributed := none, standstill := false
                  samples := ⟨level, level, level⟩, level := level }
               else { s.gate c k with samples := ⟨level, level, level⟩, level := level })) }.replied l .layoutSet (.ok [])) ∧
        ∀ i, (s.setInput input level).inputLevel i = if i = input then level else s.inputLevel i)) ∧
    (∀ n kind (role : Option StationRole) capacity, 1 ≤ n → n ≤ 120 →
      ((kind = .station ∧ role ≠ none ∧ capacity ≤ 4) ∨ (kind ≠ .station ∧ role = none ∧ capacity ≤ 32)) → 1 ≤ capacity →
      s.held n ≤ capacity →
      ∃ lock,
        exec (.layoutSet l (.args (.lane n kind (role.map Named.known) capacity))) s =
          .next ({ s with
            layout := { s.layout with lanes := s.layout.lanes.put n ⟨kind, role, capacity⟩ }
            lanes := s.lanes.put n { s.lane n with lock := lock, waiting := none } }.replied l .layoutSet (.ok [])) ∧
        (kind ≠ .bay → lock = none) ∧
        (kind = .bay → (∀ c : Corridor, StraddlesAt s n c → ¬ StraddlesAt s n c.other → lock = some c) ∧
          (¬ StraddlesAt s n .f → ¬ StraddlesAt s n .t → lock = none))) ∧
    (∀ n m (perms : List Permission) put, LinkId.ofNumber n = some m →
      put = s.layout.perms.set m (some (allPermissions.filter perms.contains)) →
      exec (.layoutSet l (.args (.link n (perms.map Named.known)))) s =
        .next (if LinkId.all.any (fun k => ((put.get k).getD []).contains .layout) = true then
          { s with layout := { s.layout with perms := put } }.replied l .layoutSet (.ok [])
         else s.replied l .layoutSet (.refuse .range))) ∧
    (∀ n old length decel home address, s.item n = some old → 2000 ≤ length → length ≤ 6000 →
      (∀ a, decel = some a → 100 ≤ a ∧ a ≤ 1000) → 1 ≤ address → address ≤ 3 →
      (∀ m, m ≠ n → m.corridor = n.corridor → (s.item m).map (·.address) ≠ some address) →
      exec (.layoutSet l (.args (.carriage (.known n) length (.known decel) (.known home) address))) s =
        .next ({ s with
          layout := { s.layout with carriages := s.layout.carriages.set n (some ⟨length, decel.getD 400, home, address⟩) }
          carriages := if old.address = address then s.carriages else s.carriages.set n { s.car n with misses := 0 }
          lines := if old.address = address then s.lines else
            s.lines.set n.corridor
              { s.line n.corridor with toCall := (s.line n.corridor).toCall.filter fun d => decide (d.2 ≠ n) }
        }.replied l .layoutSet (.ok []))) ∧
    (∀ c k, (s.layout.segments.get c).get? k ≠ none → k ≤ 39 →
      exec (.layoutSet l (.args (.remove (.segment (.known c) k)))) s =
        .next ({ s with layout := { s.layout with segments := s.layout.segments.set c ((s.layout.segments.get c).del k) }
          }.replied l .layoutSet (.ok []))) ∧
    (∀ c k, s.gateInput c k ≠ none → k ≤ 40 →
      exec (.layoutSet l (.args (.remove (.gate (.known c) k)))) s =
        .next ({ s with layout := { s.layout with gates := s.layout.gates.set c ((s.layout.gates.get c).del k) }
          }.replied l .layoutSet (.ok []))) ∧
    (∀ n c, s.mouth n c ≠ none → n ≤ 120 →
      exec (.layoutSet l (.args (.remove (.mouth n (.known c))))) s =
        .next ({ s with layout := { s.layout with mouths := s.layout.mouths.set c ((s.layout.mouths.get c).del n) }
          }.replied l .layoutSet (.ok []))) ∧
    (∀ n, s.laneItem n ≠ none → n ≤ 120 →
      exec (.layoutSet l (.args (.remove (.lane n)))) s =
        .next ({ s with
          layout := { s.layout with lanes := s.layout.lanes.del n }
          lanes := s.lanes.put n { s.lane n with lock := none, waiting := none } }.replied l .layoutSet (.ok []))) ∧
    (∀ n m put, LinkId.ofNumber n = some m → s.layout.perms.get m ≠ none → put = s.layout.perms.set m none →
      exec (.layoutSet l (.args (.remove (.link n)))) s =
        .next (if LinkId.all.any (fun k => ((put.get k).getD []).contains .layout) = true then
          { s with layout := { s.layout with perms := put } }.replied l .layoutSet (.ok [])
         else s.replied l .layoutSet (.refuse .range))) ∧
    (∀ c, s.layout.length.get c ≠ none →
      exec (.layoutSet l (.args (.remove (.corridor (.known c))))) s = .next (s.replied l .layoutSet (.refuse .range))) ∧
    (∀ k, exec (.layoutSet l (.args (.remove (.timing (.known k))))) s = .next (s.replied l .layoutSet (.refuse .range))) ∧
    (∀ n, s.item n ≠ none →
      ∃ t, exec (.layoutSet l (.args (.remove (.carriage (.known n))))) s = .next t ∧
        t.layout = { s.layout with carriages := s.layout.carriages.set n none } ∧
        t.car n = { Carriage.blank with
          p := (s.car n).p, u := (s.car n).u, uBase := (s.car n).u, load := (s.car n).load, mark := (s.car n).mark } ∧
        (∀ m, m ≠ n → (t.car m).stand = (s.car m).stand) ∧
        (∀ k, (t.seg n.corridor k).holds n = false ∧ n ∉ (t.seg n.corridor k).waiting ∧
          (t.seg n.corridor k).fence = (s.seg n.corridor k).fence ∧ (t.gate n.corridor k).attributed ≠ some n) ∧
        (∀ d ∈ (t.line n.corridor).toCall, d.2 ≠ n) ∧ (∀ ex, (t.line n.corridor).inFlight = some ex → ex.carriage ≠ some n) ∧
        (t.link l).answer = some ⟨.layoutSet, .ok, [], (s.link l).overrun, []⟩))

/-- R6, R7: LAYOUT SET of a CORRIDOR, SEGMENT, MOUTH or TIMING item with its fields in their ranges writes that item and nothing else. -/
def Obligations.LayoutSetWritesOneItem : Prop :=
  ∀ (s : State) (l : LinkId), Asks s l .layoutSet → (s.storeBusy = none ∨ s.storeBusy = some l) → s.mode = .configuring →
    (∀ c length, 4000 ≤ length → length ≤ 200000 →
      exec (.layoutSet l (.args (.corridor (.known c) length))) s =
        .next ({ s with layout := { s.layout with length := s.layout.length.set c (some length) } }.replied l .layoutSet (.ok []))) ∧
    (∀ c k length, k ≤ 39 → 2000 ≤ length → length ≤ 12000 →
      exec (.layoutSet l (.args (.segment (.known c) k length))) s =
        .next ({ s with layout := { s.layout with
          segments := s.layout.segments.set c ((s.layout.segments.get c).put k length) } }.replied l .layoutSet (.ok []))) ∧
    (∀ n c side dock, 1 ≤ n → n ≤ 120 → dock ≤ 200000 →
      exec (.layoutSet l (.args (.mouth n (.known c) (.known side) dock))) s =
        .next ({ s with layout := { s.layout with
          mouths := s.layout.mouths.set c ((s.layout.mouths.get c).put n ⟨side, dock⟩) } }.replied l .layoutSet (.ok []))) ∧
    (∀ c vmax reaction margin tol slip trust,
      200 ≤ vmax → vmax ≤ 1200 → 100 ≤ reaction → reaction ≤ 1000 → 200 ≤ margin → margin ≤ 2000 → 20 ≤ tol → tol ≤ 200 →
      5 ≤ slip → slip ≤ 50 → 200 ≤ trust → trust ≤ 1000 →
      exec (.layoutSet l (.args (.timing c vmax reaction margin tol slip trust))) s =
        .next ({ s with layout := { s.layout with
          timing := s.layout.timing.set c ⟨vmax, reaction, margin, tol, slip, trust⟩ } }.replied l .layoutSet (.ok []))) ∧
    (∀ aging allowance rehome,
      30 ≤ aging → aging ≤ 600 → allowance ≤ 3000 → 500 ≤ rehome → rehome ≤ 10000 →
      exec (.layoutSet l (.args (.timingUnit aging allowance rehome))) s =
        .next ({ s with layout := { s.layout with unit := ⟨aging, allowance, rehome⟩ } }.replied l .layoutSet (.ok [])))

/-- R7, R68: a CARRIAGE item set for a name without one creates its record, placed as retained memory holds it. That u and u base of a
record created without a position are kept is log 12, the fields of a created record that no rule names are log 28, and that the corridor
waits for the drive's first set-point before it gives out work (R116) is log 16. That the other carriages' recognizers, reading slots and
transfers are left as they stand is log 75. -/
def Obligations.LayoutSetCreatesACarriage : Prop :=
  ∀ (s : State) (l : LinkId) (n : CarriageName) (length address : Nat) (decel : Option Nat) (home : Dir),
    Asks s l .layoutSet → (s.storeBusy = none ∨ s.storeBusy = some l) → s.mode = .configuring →
    s.editOk (.carriage (.known n) length (.known decel) (.known home) address) = true → s.item n = none →
    ∃ t, exec (.layoutSet l (.args (.carriage (.known n) length (.known decel) (.known home) address))) s = .next t ∧
      t.layout = { s.layout with carriages := s.layout.carriages.set n (some ⟨length, decel.getD 400, home, address⟩) } ∧
      t.car n =
        { Carriage.blank with
          state := if (s.car n).p = none ∨ 1500 ≤ (s.car n).u + s.layout.unit.allowance then .unplaced else .unhomed
          p := (s.car n).p
          u := if (s.car n).p = none then (s.car n).u else min 1500 ((s.car n).u + s.layout.unit.allowance)
          uBase := if (s.car n).p = none then (s.car n).u else min 1500 ((s.car n).u + s.layout.unit.allowance)
          load := (s.car n).load, mark := (s.car n).mark } ∧
      (∀ m, m ≠ n → (t.car m).stand = (s.car m).stand) ∧
      t.starting = s.starting.set n.corridor true ∧ t.benches = s.benches ∧ t.book.map Order.stand = s.book.map Order.stand ∧
      (t.link l).answer = some ⟨.layoutSet, .ok, [], (s.link l).overrun, []⟩

/-- R10: MODE CONFIGURE answers BUSY, or OK where the unit is in CONFIGURING, or enters it with every waiting set emptied. R11: MODE RUN
answers BUSY, or OK where the unit is in RUNNING, or RANGE with the failed item; else it enters RUNNING: the fences of records at or
beyond the segment count are dropped and the others kept, and the standing layers are built anew: a segment one carriage wants stands
under it, one that two want is fenced, and every other stands under none. R8: the check goes through its eleven conditions in their order
and names the first item that fails the first of them that fails, and no item where all hold; F before T in a condition on both corridors
is log 36. -/
def Obligations.ModesAreEntered : Prop :=
  (∀ s : State, FirstFailing (checkTable s) s.check) ∧
  (∀ (s : State) (l : LinkId), Asks s l .modeConfigure →
       exec (.modeConfigure l (.args ())) s =
         .next
           (if s.storeBusy ≠ none ∧ s.storeBusy ≠ some l then s.replied l .modeConfigure (.refuse .busy)
            else if s.mode = .configuring then s.replied l .modeConfigure (.ok [])
            else if s.book ≠ [] ∨ s.working = true then s.replied l .modeConfigure (.refuse .busy)
            else
              { s with
                mode := .configuring
                segments := ⟨s.segments.f.mapValues fun _ g => { g with waiting := [] },
                  s.segments.t.mapValues fun _ g => { g with waiting := [] }⟩ }.replied l .modeConfigure (.ok []))) ∧
  (∀ (s : State) (l : LinkId), Asks s l .modeRun →
       (s.storeBusy ≠ none → s.storeBusy ≠ some l →
         exec (.modeRun l (.args ())) s = .next (s.replied l .modeRun (.refuse .busy))) ∧
       ((s.storeBusy = none ∨ s.storeBusy = some l) → s.mode = .running →
         exec (.modeRun l (.args ())) s = .next (s.replied l .modeRun (.ok []))) ∧
       ((s.storeBusy = none ∨ s.storeBusy = some l) → s.mode = .configuring →
         (∀ i, s.check = some i → exec (.modeRun l (.args ())) s = .next (s.replied l .modeRun ⟨.range, i.fields, []⟩)) ∧
         (s.check = none →
           ∃ t, exec (.modeRun l (.args ())) s = .next t ∧ Calm ({ s with mode := .running }.replied l .modeRun (.ok [])) t ∧
             (∀ c k n, k ∈ s.segsInUse c → s.wanting c k = [n] → (t.seg c k).standing = some n ∧ (t.seg c k).running = none) ∧
             (∀ c k, k ∈ s.segsInUse c → 2 ≤ (s.wanting c k).length → (t.seg c k).fence ≠ none ∧ (t.seg c k).running = none) ∧
             (∀ c k, (k ∉ s.segsInUse c ∨ ∀ n, s.wanting c k ≠ [n]) → (t.seg c k).standing = none ∧ (t.seg c k).running = none) ∧
             (∀ c k, s.layout.segCount c ≤ k → k ∉ s.segsInUse c → (t.seg c k).fence = none) ∧
             (∀ c k f, k < s.layout.segCount c → (s.seg c k).fence = some f → (t.seg c k).fence = some f) ∧
             ∀ c k, (s.seg c k).fence = none → (t.seg c k).fence = none ∨
               ((t.seg c k).fence = some (.auto .restartOverlap) ∧ 2 ≤ (s.wanting c k).length))))

/-! ## The inventory -/

/-- R31: ARRIVE refuses by its table, in its order, or registers the bench at the end of the SOURCE station's list and answers its index;
the ARRIVED event names the lane and the bench, on the corridor of the station's mouth (R166), and the allocator of each corridor on which
the station has a mouth runs (R69). That the corridor is absent for a station without a mouth is log 34, F for one with two log 58. -/
def Obligations.ArriveRegistersTheBench : Prop :=
  (∀ (s : State) (a : ArriveArgs), FirstRefusal (arriveTable s a) (arriveRefusal s a)) ∧
  ∀ (s : State) (l : LinkId) (a : ArriveArgs), Asks s l .arrive → a.form = true →
    (∀ w, arriveRefusal s a = some w → exec (.arrive l (.args a)) s = .next (s.replied l .arrive (.refuse w))) ∧
    ∀ (r : Readiness) (it : LaneItem),
      1 ≤ a.bench → a.bench ≤ 4000 → 1 ≤ a.lane → a.lane ≤ 120 → a.batch ≤ 65535 → a.readiness = .known r →
      (∀ x, a.reference = some x → 1 ≤ x ∧ x ≤ 999999) → s.laneItem a.lane = some it → it.kind = .station →
      it.role = some .source → (∀ v, s.bench? a.bench = some v → v.claim = none ∧ v.place = .outside) →
      (s.lane a.lane).benches.length + (s.straddlers a.lane).length + (s.lane a.lane).incoming < it.capacity →
      (s.bench? a.bench ≠ none ∨ s.benches.entries.length < 2000) →
      ∃ t, exec (.arrive l (.args a)) s = .next t ∧
        (∀ (u v : State) (c : Option Corridor), u = s.takeLine l .arrive →
          c = (if s.mouth a.lane .f ≠ none then some .f else if s.mouth a.lane .t ≠ none then some .t else none) →
          v = ({ u with
            benches := s.benches.put a.bench ⟨a.batch, r, a.reference, .inLane a.lane, .verified, none, s.seconds⟩
            lanes := s.lanes.put a.lane { s.lane a.lane with benches := (s.lane a.lane).benches ++ [a.bench] } } : State).offer
              ⟨.arrived a.lane a.bench, c, some a.lane, some a.bench, none⟩ →
          t = (u.finish { v with
            owed := ⟨decide (s.mouth a.lane .f ≠ none), decide (s.mouth a.lane .t ≠ none)⟩ }).answer l .arrive
              (.ok [.num (s.lane a.lane).benches.length])) ∧
        RunsOnly ({ s with
          benches := s.benches.put a.bench ⟨a.batch, r, a.reference, .inLane a.lane, .verified, none, s.seconds⟩
          lanes := s.lanes.put a.lane { s.lane a.lane with benches := (s.lane a.lane).benches ++ [a.bench] }
        }.replied l .arrive (.ok [.num (s.lane a.lane).benches.length])) t

/-- R32: HANDOFF refuses by its table, or takes the bench out of the SINK station's list to OUTSIDE with a fresh stamp; the DEPARTED event
names the lane and the bench, on the corridor of the station's mouth (R166), and the allocator of each corridor on which the station has a
mouth runs (R69). That the corridor is absent for a station without a mouth is log 34, F for one with two log 58. -/
def Obligations.HandoffTakesTheBenchOut : Prop :=
  ∀ (s : State) (l : LinkId) (b : Nat), Asks s l .handoff → numberOk b = true →
    (b < 1 ∨ 4000 < b → exec (.handoff l (.args b)) s = .next (s.replied l .handoff (.refuse .range))) ∧
    (1 ≤ b → b ≤ 4000 →
      (s.bench? b = none → exec (.handoff l (.args b)) s = .next (s.replied l .handoff (.refuse .unknown))) ∧
      ∀ v, s.bench? b = some v →
        ((∀ k, v.place = .inLane k → s.isStation k .sink = false) →
          exec (.handoff l (.args b)) s = .next (s.replied l .handoff (.refuse .state))) ∧
        ∀ k, v.place = .inLane k → s.isStation k .sink = true →
          ((v.claim ≠ none ∨ s.transferringAt k = true ∨ (s.lane k).outgoing = (s.lane k).benches.length) →
            exec (.handoff l (.args b)) s = .next (s.replied l .handoff (.refuse .collision))) ∧
          (v.claim = none → s.transferringAt k = false → (s.lane k).outgoing ≠ (s.lane k).benches.length →
            ∃ t, exec (.handoff l (.args b)) s = .next t ∧
              (∀ (u w : State) (c : Option Corridor), u = s.takeLine l .handoff →
                c = (if s.mouth k .f ≠ none then some .f else if s.mouth k .t ≠ none then some .t else none) →
                w = ({ u with
                  benches := s.benches.put b { v with place := .outside, lastMoved := s.seconds }
                  lanes := s.lanes.put k { s.lane k with benches := (s.lane k).benches.erase b } } : State).offer
                    ⟨.departed k b, c, some k, some b, none⟩ →
                t = (u.finish { w with owed := ⟨decide (s.mouth k .f ≠ none), decide (s.mouth k .t ≠ none)⟩ }).answer l .handoff
                  (.ok [])) ∧
              RunsOnly ({ s with
                benches := s.benches.put b { v with place := .outside, lastMoved := s.seconds }
                lanes := s.lanes.put k { s.lane k with benches := (s.lane k).benches.erase b }
              }.replied l .handoff (.ok [])) t))

/-- R33, R24: LANE SET refuses by its table, in its order, or makes the list what the request names: each named bench stands in the lane
with its marks kept and is out of the list of any other lane it stood in, a bench without a record gets one, a bench no longer named is
OUTSIDE, and everything else stands. A bench takes the
current seconds count where its place changed; that one standing at the same index keeps its stamp is log 39. -/
def Obligations.LaneSetWritesTheList : Prop :=
  (∀ (s : State) (a : LaneSetArgs), FirstRefusal (laneSetTable s a) (laneSetRefusal s a)) ∧
  ∀ (s : State) (l : LinkId) (a : LaneSetArgs), Asks s l .laneSet → a.form = true →
    (∀ w, laneSetRefusal s a = some w → exec (.laneSet l (.args a)) s = .next (s.replied l .laneSet (.refuse w))) ∧
    (laneSetRefusal s a = none →
      ∃ t, exec (.laneSet l (.args a)) s = .next t ∧
        t.still = { s.still with benches := t.benches } ∧ t.book.map Order.stand = s.book.map Order.stand ∧
        (t.link l).answer = some ⟨.laneSet, .ok, [], (s.link l).overrun, []⟩ ∧
        (t.lane a.lane).benches = a.benches ∧
        (∀ b ∈ a.benches, ∀ v, s.bench? b = some v →
          t.bench? b = some { v with
            place := .inLane a.lane
            lastMoved :=
              if b ∈ (s.lane a.lane).benches ∧ indexIn b (s.lane a.lane).benches = indexIn b a.benches then v.lastMoved
              else s.seconds }) ∧
        (∀ b ∈ a.benches, s.bench? b = none → b ∉ (s.lane a.lane).benches →
          t.bench? b = some ⟨0, .growing, none, .inLane a.lane, .unread, none, s.seconds⟩) ∧
        (∀ b ∈ a.benches, s.bench? b = none →
          ∃ stamp, t.bench? b = some ⟨0, .growing, none, .inLane a.lane, .unread, none, stamp⟩) ∧
        (∀ b ∈ (s.lane a.lane).benches, b ∉ a.benches → ∀ v, s.bench? b = some v →
          t.bench? b = some { v with place := .outside, lastMoved := s.seconds }) ∧
        (∀ b, b ∉ a.benches → b ∉ (s.lane a.lane).benches → t.bench? b = s.bench? b) ∧
        (∀ k, (t.lane k).incoming = (s.lane k).incoming ∧ (t.lane k).outgoing = (s.lane k).outgoing
          ∧ (t.lane k).lock = (s.lane k).lock) ∧
        (∀ k, k ≠ a.lane → (∀ b ∈ a.benches, ∀ v, s.bench? b = some v → v.place ≠ .inLane k) →
          (t.lane k).benches = (s.lane k).benches) ∧
        (∀ k, k ≠ a.lane → (s.lane k).benches.Nodup →
          (t.lane k).benches = (s.lane k).benches.filter fun b =>
            !(a.benches.contains b && decide ((s.bench? b).map (·.place) = some (.inLane k)))) ∧
        (∀ n, (∀ b ∈ a.benches, ∀ v, s.bench? b = some v → v.place ≠ .aboard n) → (t.car n).load = (s.car n).load) ∧
        ∀ n, (∃ b ∈ a.benches, ∃ v, s.bench? b = some v ∧ v.place = .aboard n) → (t.car n).load = .empty)

/-- R34: BENCH SET refuses with RANGE or UNKNOWN, or gives the named fields their new values and leaves everything else. RANGE is every
bench number, batch, readiness or reference out of its range or words. -/
def Obligations.BenchSetChangesTheNamedFields : Prop :=
  (∀ a : BenchSetArgs, benchSetOk a = true ↔
    (1 ≤ a.bench ∧ a.bench ≤ 4000) ∧ (∀ x, a.batch = some x → x ≤ 65535) ∧ a.readiness ≠ some .unknown ∧ a.reference ≠ some .unknown ∧
    ∀ x, a.reference = some (.known (some x)) → 1 ≤ x ∧ x ≤ 999999) ∧
  ∀ (s : State) (l : LinkId) (a : BenchSetArgs), Asks s l .benchSet → a.form = true →
    exec (.benchSet l (.args a)) s =
      .next
        (if benchSetOk a = false then s.replied l .benchSet (.refuse .range)
         else
           match s.bench? a.bench with
           | none => s.replied l .benchSet (.refuse .unknown)
           | some v =>
             { s with
               benches := s.benches.put a.bench
                 { v with
                   batch := (match a.batch with | some x => x | none => v.batch)
                   readiness := (match a.readiness with | some (.known r) => r | _ => v.readiness)
                   reference := (match a.reference with | some (.known r) => r | _ => v.reference) }
             }.replied l .benchSet (.ok []))

/-- R35: BENCH DELETE refuses with RANGE, UNKNOWN or STATE, or removes the record: the number is registered no longer. -/
def Obligations.BenchDeleteRemovesTheRecord : Prop :=
  ∀ (s : State) (l : LinkId) (b : Nat), Asks s l .benchDelete → numberOk b = true →
    exec (.benchDelete l (.args b)) s =
      .next
        (if b < 1 ∨ 4000 < b then s.replied l .benchDelete (.refuse .range)
         else
           match s.bench? b with
           | none => s.replied l .benchDelete (.refuse .unknown)
           | some v =>
             if v.place = .outside then { s with benches := s.benches.del b }.replied l .benchDelete (.ok [])
             else s.replied l .benchDelete (.refuse .state)) ∧
    (s.benches.del b).get? b = none ∧ (∀ m, m ≠ b → (s.benches.del b).get? m = s.benches.get? m) ∧
    (s.bench? b ≠ none → (s.benches.del b).entries.length < s.benches.entries.length)

/-- R36: BENCH IDENT refuses with RANGE or UNKNOWN, or sets the identity to VERIFIED and drops a read number. -/
def Obligations.BenchIdentVerifies : Prop :=
  ∀ (s : State) (l : LinkId) (b : Nat), Asks s l .benchIdent → numberOk b = true →
    exec (.benchIdent l (.args b)) s =
      .next
        (if b < 1 ∨ 4000 < b then s.replied l .benchIdent (.refuse .range)
         else
           match s.bench? b with
           | none => s.replied l .benchIdent (.refuse .unknown)
           | some v => { s with benches := s.benches.put b { v with identity := .verified } }.replied l .benchIdent (.ok []))

/-- R37: BENCH SWAP refuses with RANGE, UNKNOWN or COLLISION, or exchanges the numbers in lists and loads and the places of the two
records, both then VERIFIED. -/
def Obligations.BenchSwapExchangesPlaces : Prop :=
  ∀ (s : State) (l : LinkId) (n m : Nat), Asks s l .benchSwap → numberOk n = true → numberOk m = true →
    ((n < 1 ∨ 4000 < n ∨ m < 1 ∨ 4000 < m ∨ n = m) →
      exec (.benchSwap l (.args ⟨n, m⟩)) s = .next (s.replied l .benchSwap (.refuse .range))) ∧
    (1 ≤ n → n ≤ 4000 → 1 ≤ m → m ≤ 4000 → n ≠ m →
      ((s.bench? n = none ∨ s.bench? m = none) →
        exec (.benchSwap l (.args ⟨n, m⟩)) s = .next (s.replied l .benchSwap (.refuse .unknown))) ∧
      ∀ x y, s.bench? n = some x → s.bench? m = some y →
        ((s.swapBars x = true ∨ s.swapBars y = true) →
          exec (.benchSwap l (.args ⟨n, m⟩)) s = .next (s.replied l .benchSwap (.refuse .collision))) ∧
        (s.swapBars x = false → s.swapBars y = false →
          ∃ t i j, exec (.benchSwap l (.args ⟨n, m⟩)) s = .next t ∧
            t.still = { s.still with
              benches := (s.benches.put n { x with place := y.place, identity := .verified, lastMoved := i }).put m
                { y with place := x.place, identity := .verified, lastMoved := j } } ∧
            (x.place ≠ .outside ∨ y.place ≠ .outside → i = s.seconds ∧ j = s.seconds) ∧
            (x.place = .outside → y.place = .outside → i = x.lastMoved ∧ j = y.lastMoved) ∧
            (t.link l).answer = some ⟨.benchSwap, .ok, [], (s.link l).overrun, []⟩ ∧
            t.book.map Order.stand = s.book.map Order.stand ∧
            (∀ k, (t.lane k).benches = (s.lane k).benches.map (fun b => if b = n then m else if b = m then n else b)
              ∧ (t.lane k).incoming = (s.lane k).incoming ∧ (t.lane k).outgoing = (s.lane k).outgoing
              ∧ (t.lane k).lock = (s.lane k).lock) ∧
            ∀ c, (t.car c).stand =
              { (s.car c).stand with
                load := (match (s.car c).load with
                  | .bench b => .bench (if b = n then m else if b = m then n else b)
                  | v => v) }))

/-- R38, R130: BENCH SETTLE refuses with RANGE, UNKNOWN or STATE, or puts the bench where it ended, unread, and frees a BAY lane's lock or
hands it to the carriage waiting at the other mouth. That a bench joins a lane without a LANE item at index 0 is the model's choice
(log 43). -/
def Obligations.BenchSettleEndsStraddling : Prop :=
  ∀ (s : State) (l : LinkId) (b : Nat), Asks s l .benchSettle → numberOk b = true →
    (∀ w, (b < 1 ∨ 4000 < b) →
      exec (.benchSettle l (.args ⟨b, w⟩)) s = .next (s.replied l .benchSettle (.refuse .range))) ∧
    exec (.benchSettle l (.args ⟨b, .unknown⟩)) s = .next (s.replied l .benchSettle (.refuse .range)) ∧
    (1 ≤ b → b ≤ 4000 → ∀ w : SettleWhere,
      (s.bench? b = none →
        exec (.benchSettle l (.args ⟨b, .known w⟩)) s = .next (s.replied l .benchSettle (.refuse .unknown))) ∧
      ∀ v, s.bench? b = some v →
        ((∀ n k c, v.place ≠ .straddling n k c) →
          exec (.benchSettle l (.args ⟨b, .known w⟩)) s = .next (s.replied l .benchSettle (.refuse .state))) ∧
        ∀ n k c, v.place = .straddling n k c →
          ∃ t, exec (.benchSettle l (.args ⟨b, .known w⟩)) s = .next t ∧
            t.still = { s.still with
              benches := s.benches.put b
                { v with
                  place := (match w with | .aboard => .aboard n | .inLane => .inLane k), identity := .unread
                  lastMoved := s.seconds } } ∧
            (t.link l).answer = some ⟨.benchSettle, .ok, [], (s.link l).overrun, []⟩ ∧
            (t.car n).load = (match w with | .aboard => .bench b | .inLane => .empty) ∧
            (∀ m, m ≠ n → (t.car m).load = (s.car m).load) ∧
            (t.lane k).benches =
              (match w with
               | .aboard => (s.lane k).benches
               | .inLane =>
                 if s.isBay k = true ∧ c = .t then (s.lane k).benches ++ [b] else b :: (s.lane k).benches) ∧
            (t.lane k).lock =
              (if s.isBay k = true then (s.lane k).waiting.map CarriageName.corridor else (s.lane k).lock) ∧
            ∀ j, j ≠ k → t.laneStand j = s.laneStand j)

/-! ## Orders -/

/-- R42, R43, R44: MOVE refuses with the first status of its table that applies, or creates its order at the tail of the book, on a
corridor open to source and destination, and takes its holdings. -/
def Obligations.MoveCreatesAnOrder : Prop :=
  (∀ (s : State) (l : LinkId) (a : MoveArgs), FirstRefusal (moveTable s l a) (s.judgeMove l a).getLeft? ∧
    ∀ c, s.judgeMove l a = .inr c → OpenTo s a c ∧ ∀ w, a.corridor = some w → w = .known c) ∧
  ∀ (s : State) (l : LinkId) (a : MoveArgs), Asks s l .move → s.mode = .running → a.form = true →
    (∀ w, s.judgeMove l a = .inl w → exec (.move l (.args a)) s = .next (s.replied l .move (.refuse w))) ∧
    ∀ c, s.judgeMove l a = .inr c →
      ∃ t k, a.cls = .known k ∧ exec (.move l (.args a)) s = .next t ∧
        t.still = { s.still with benches := t.benches, nextId := if 65535 ≤ s.newId then 1 else s.newId + 1 } ∧
        (t.link l).answer = some ⟨.move, .ok, [.num s.newId], (s.link l).overrun, []⟩ ∧
        t.book.map Order.stand = s.book.map Order.stand ++
          [{ id := s.newId, link := l, base := k, eff := k, source := orderSource a.source, srcLane := s.sourceLane a.source
             corridor := c, dest := a.dest, bench := s.sourceBench a.source, carriage := none, phase := .queued
             placedAt := s.seconds, raisedAt := s.seconds }] ∧
        (∀ b, t.bench? b =
          if s.sourceBench a.source = some b then (s.bench? b).map fun v => { v with claim := some s.newId } else s.bench? b) ∧
        (∀ j, (t.lane j).benches = (s.lane j).benches ∧ (t.lane j).lock = (s.lane j).lock ∧
          (t.lane j).outgoing = (s.lane j).outgoing + (if s.sourceLane a.source = some j then 1 else 0) ∧
          (t.lane j).incoming = (s.lane j).incoming + (if a.dest = j then 1 else 0)) ∧
        ∀ n, (t.car n).stand = (s.car n).stand

/-- R41: the id an accepted MOVE is given lies from 1 to 65,535 and names no live order, for a book of at most 48 orders. R40: every step
keeps the book at 48 orders at most, of one link at 24, under ids of their own. R53: what an order gives back at its end, by the state it
ends in. -/
def Obligations.IdsAndHoldingsOfOrders : Prop :=
  (∀ s : State, s.book.length ≤ 48 → 1 ≤ s.nextId → s.nextId ≤ 65535 →
       s.order? s.newId = none ∧ 1 ≤ s.newId ∧ s.newId ≤ 65535 ∧ (s.order? s.nextId = none → s.newId = s.nextId)) ∧
  (∀ s t : State, BookBounded s → step s = .next t → BookBounded t) ∧
  (∀ (s : State) (o : Order) (st : EndState),
       (∀ b, (s.giveBack o st).bench? b =
         (s.bench? b).map fun v => if o.bench = some b ∧ v.claim = some o.id then { v with claim := none } else v) ∧
       ∀ k, ((s.giveBack o st).lane k).benches = (s.lane k).benches ∧ ((s.giveBack o st).lane k).lock = (s.lane k).lock ∧
         ((s.giveBack o st).lane k).outgoing = (s.lane k).outgoing -
           (if o.srcLane = some k ∧ (o.phase = .queued ∨ o.phase = .assigned ∨ o.phase = .fetching ∨ o.phase = .pulling) then 1 else 0) ∧
         ((s.giveBack o st).lane k).incoming = (s.lane k).incoming - (if o.dest = k ∧ st ≠ .done then 1 else 0))

/-- R55, R56: CANCEL refuses with RANGE, UNKNOWN, DENIED or COMMITTED, or ends the order: it leaves the book, gives back its holdings and is
reported by an ENDED notice on its link and an ENDED event (R54), and its carriage is withdrawn by its state (R75): IDLE it drops its
task, RUNNING it keeps on without a leg, DOCKED it gives up its wait for the lock and becomes IDLE, HALTED it remembers IDLE. -/
def Obligations.CancelEndsTheOrder : Prop :=
  (∀ (s : State) (l : LinkId) (id : Nat), Asks s l .cancel → numberOk id = true →
    (id < 1 ∨ 65535 < id → exec (.cancel l (.args id)) s = .next (s.replied l .cancel (.refuse .range))) ∧
    (1 ≤ id → id ≤ 65535 →
      (s.order? id = none → exec (.cancel l (.args id)) s = .next (s.replied l .cancel (.refuse .unknown))) ∧
      ∀ o, s.order? id = some o →
        (o.link ≠ l → s.permits l .override = false →
          exec (.cancel l (.args id)) s = .next (s.replied l .cancel (.refuse .denied))) ∧
        ((o.link = l ∨ s.permits l .override = true) →
          ((o.phase = .pulling ∨ o.phase = .carrying ∨ o.phase = .pushing) →
            exec (.cancel l (.args id)) s = .next (s.replied l .cancel (.refuse .committed))) ∧
          ((o.phase = .queued ∨ o.phase = .assigned ∨ o.phase = .fetching) →
            ∃ t, exec (.cancel l (.args id)) s = .next t ∧
              t = ((s.takeLine l .cancel).finish ((s.takeLine l .cancel).endAndWithdraw o .cancelled)).answer l .cancel (.ok []) ∧
              Calm ({ s.giveBack o .cancelled with book := s.book.filter fun q => decide (q.id ≠ id) }.replied l .cancel (.ok [])) t)))) ∧
  (∀ (s : State) (o : Order) (st : EndState) (reason : Option EndReason), s.order? o.id = some o →
    (s.endOrder o.id st reason).book = s.book.filter (fun q => decide (q.id ≠ o.id)) ∧
    (s.endOrder o.id st reason).links =
      (s.offer ⟨.ended o.id st reason o.bench, some o.corridor, o.bench.map fun _ => o.dest, o.bench, some o.link⟩).links ∧
    (∀ n, (s.endOrder o.id st reason).car n =
      if o.carriage = some n ∧ (s.car n).assigned = some o.id then
        { s.car n with assigned := none, leg := if (s.car n).state = .running then none else (s.car n).leg }
      else s.car n) ∧
    (∀ n, o.carriage = some n → (s.car n).assigned = some o.id →
      s.endAndWithdraw o st = (s.endOrder o.id st none).withdraw n) ∧
    ((∀ n, o.carriage = some n → (s.car n).assigned ≠ some o.id) → s.endAndWithdraw o st = s.endOrder o.id st none)) ∧
  ∀ (s : State) (n : CarriageName),
    ((s.car n).state = .idle → s.withdraw n = { s with carriages := s.carriages.set n { s.car n with task := none } }) ∧
    ((s.car n).state = .halted → s.withdraw n = { s with carriages := s.carriages.set n { s.car n with remembered := some .idle } }) ∧
    ((s.car n).state = .docked → Idled ((s.withdraw n).car n) ∧
      (∀ k, (s.car n).docked = some k → ((s.withdraw n).lane k).waiting ≠ some n) ∧
      ∀ k, (s.withdraw n).laneStand k = s.laneStand k) ∧
    ((s.car n).state ≠ .idle → (s.car n).state ≠ .halted → (s.car n).state ≠ .docked → s.withdraw n = s)

/-- R57, R52, R138: ABORT refuses with RANGE or UNKNOWN; ends an order that is not in transfer as CANCEL does, ABORTED, its carriage
withdrawn by its state (R56, R75); and interrupts the transfer of one that is: its bench straddles, the order ends ABORTED (a LANE END
order then names the bench of its pull), and then its carriage faults, with a FAULT notice to every link. -/
def Obligations.AbortEndsTheOrder : Prop :=
  ∀ (s : State) (l : LinkId) (id : Nat), Asks s l .abort → numberOk id = true →
    (id < 1 ∨ 65535 < id → exec (.abort l (.args id)) s = .next (s.replied l .abort (.refuse .range))) ∧
    (1 ≤ id → id ≤ 65535 →
      (s.order? id = none → exec (.abort l (.args id)) s = .next (s.replied l .abort (.refuse .unknown))) ∧
      ∀ o, s.order? id = some o →
        (o.phase ≠ .pulling → o.phase ≠ .pushing →
          ∃ t, exec (.abort l (.args id)) s = .next t ∧
            t = ((s.takeLine l .abort).finish
              (match o.carriage with
               | some n =>
                 if (s.car n).assigned = some id then ((s.takeLine l .abort).endOrder id .aborted none).withdraw n
                 else (s.takeLine l .abort).endOrder id .aborted none
               | none => (s.takeLine l .abort).endOrder id .aborted none)).answer l .abort (.ok []) ∧
            Calm ({ s.giveBack o .aborted with book := s.book.filter fun q => decide (q.id ≠ id) }.replied l .abort (.ok [])) t ∧
            ∀ n, o.carriage = some n → (s.car n).assigned = some id →
              ((s.car n).state = .running → (t.car n).state = .running ∧ (t.car n).leg = none) ∧
              ((s.car n).state = .halted → (t.car n).state = .halted ∧ (t.car n).remembered = some .idle ∧
                (t.car n).leg = (s.car n).leg)) ∧
        ∀ n tr, (o.phase = .pulling ∨ o.phase = .pushing) → o.carriage = some n → (s.car n).assigned = some id →
          (s.car n).state = .transferring → (s.car n).transfer = some tr → tr.order = id →
          ∃ t, exec (.abort l (.args id)) s = .next t ∧
            t = ((s.takeLine l .abort).finish
              (((((s.takeLine l .abort).leaveStraddling n tr).endOrder id .aborted none).enterFaulted n .transferInterrupted none).notifyAll
                (.fault n .transferInterrupted none))).answer l .abort (.ok []) ∧
            (∃ q, ((s.takeLine l .abort).leaveStraddling n tr).order? id = some q ∧ q.link = o.link ∧ q.dest = o.dest ∧
              q.bench = (match tr.kind with | .pull => some tr.bench | .push => o.bench)) ∧
            (t.link l).answer = some ⟨.abort, .ok, [], (s.link l).overrun, []⟩ ∧
            (∀ q ∈ t.book, q.id ≠ id) ∧ (t.car n).state = .faulted ∧ (t.car n).faultKind = some .transferInterrupted ∧
            (t.car n).load = .straddled ∧ (t.car n).transfer = none ∧ (t.car n).mark = none ∧
            (∀ v, s.bench? tr.bench = some v → (t.bench? tr.bench).map Bench.place = some (.straddling n tr.lane n.corridor)) ∧
            t.layout = s.layout ∧ t.millis = s.millis)

/-- R45: the aging of a QUEUED or ASSIGNED order below URGENT raises its effective class one step; of any other order, or of an order that
is not in the book (the model's choice, log 4), it does nothing. The clock has then come at least to the moment the row names (log 3). -/
def Obligations.AgingRaisesOneClass : Prop :=
  ∀ (s : State) (id : Nat), s.powered = true → NothingOwed s →
    (∀ o, s.order? id = some o → (o.phase = .queued ∨ o.phase = .assigned) → o.eff ≠ .urgent →
      exec (.orderAging id) s =
        .next { s with
          millis := max s.millis (1000 * (o.raisedAt + s.layout.unit.aging))
          book := s.book.map fun q =>
            if q.id = id then
              { q with
                eff := (match q.eff with | .background => .normal | .normal => .urgent | .urgent => .urgent)
                raisedAt := max s.millis (1000 * (o.raisedAt + s.layout.unit.aging)) / 1000 }
            else q }) ∧
    (s.order? id = none → exec (.orderAging id) s = .next s) ∧
    ∀ o, s.order? id = some o → ((o.phase ≠ .queued ∧ o.phase ≠ .assigned) ∨ o.eff = .urgent) → exec (.orderAging id) s = .next s

/-! ## Carriages and positions -/

/-- R65, R66, R84, R92, R93: CLEAR refuses with RANGE, UNKNOWN or STATE, or gives the state of the fault kind with its effects, drops the
fault kind, and lifts the carriage's CARRIAGE_LOST fences; after a lost link u grows by the stopping distance at the speed last reported
before the silence (the model's reading, log 42), and u is 0 where the position is dropped, as are the distances dropped with it (the
model's choices, log 12 and log 80). The state given is the one answered; in RUNNING the end of the event can home a carriage cleared to
UNHOMED or give work to one cleared to IDLE (R69), which the retry of a carriage that waited for it can shift at once (R82, R85). -/
def Obligations.ClearRestoresTheCarriage : Prop :=
  ∀ (s : State) (l : LinkId), Asks s l .clear →
    exec (.clear l (.args .unknown)) s = .next (s.replied l .clear (.refuse .range)) ∧
    ∀ n,
      (s.item n = none → exec (.clear l (.args (.known n))) s = .next (s.replied l .clear (.refuse .unknown))) ∧
      ∀ it, s.item n = some it →
        (((s.car n).state ≠ .faulted ∨ (s.car n).link = .lost ∨ (s.car n).driveState = some .driveFault
            ∨ (s.car n).load = .straddled) →
          exec (.clear l (.args (.known n))) s = .next (s.replied l .clear (.refuse .state))) ∧
        ∀ k, (s.car n).state = .faulted → (s.car n).link = .up → (s.car n).driveState ≠ some .driveFault →
          (s.car n).load ≠ .straddled → (s.car n).faultKind = some k →
          ∃ (u t : State) (st : CarState) (w : Carriage),
            exec (.clear l (.args (.known n))) s = .next t ∧
            u = (s.takeLine l .clear).clearCarriage n ∧ t = ((s.takeLine l .clear).finish u).answer l .clear (.ok [.word st.word]) ∧
            (st ≠ .idle → (u.car n).state = st ∧ (u.car n).faultKind = none ∧ (u.car n).faultCode = none) ∧
            (st = .idle → Idled (u.car n) ∧ (u.car n).faultKind = none ∧ (u.car n).faultCode = none) ∧
            ((s.mode = .configuring ∨ st = .unplaced) →
              (t.car n).state = st ∧ (t.car n).faultKind = none ∧ (t.car n).faultCode = none) ∧
            (t.car n).stand = w.stand ∧
            (t.link l).answer = some ⟨.clear, .ok, [.word st.word], (s.link l).overrun, []⟩ ∧
            (∀ m, m ≠ n → (t.car m).stand = (s.car m).stand) ∧ t.still = s.still ∧
            (∀ i, (t.seg n.corridor i).fence ≠ some (.auto (.carriageLost n))) ∧
            ((k = .transferInterrupted ∨ (k = .driveFault ∧ (s.car n).p ≠ none)) → st = .idle ∧ w = s.car n) ∧
            (k = .driveFault → (s.car n).p = none → st = .unplaced ∧ w = { s.car n with rehome := false, slip := false }) ∧
            (k = .linkLost → (s.car n).p ≠ none →
              st = (if (s.car n).u + stopDistance it.decel (s.timing n.corridor).reaction (s.car n).lostSpeed < 1500 then .unhomed
                else .unplaced) ∧
              w = { s.car n with
                rehome := false, slip := false, sinceCorrection := 0
                u := min 1500 ((s.car n).u + stopDistance it.decel (s.timing n.corridor).reaction (s.car n).lostSpeed)
                uBase := min 1500 ((s.car n).u + stopDistance it.decel (s.timing n.corridor).reaction (s.car n).lostSpeed) }) ∧
            (k = .linkLost → (s.car n).p = none → st = .unplaced ∧ w = { s.car n with rehome := false, slip := false }) ∧
            ((k = .positionLost ∨ k = .homingFailed) →
              st = .unplaced ∧
              w = { s.car n with
                rehome := false, slip := false, p := none, offset := none, sinceCorrection := 0, sinceHoming := 0, u := 0
                uBase := 0 })

/-- R113: HOME refuses with RANGE, UNKNOWN or STATE; changes nothing for an UNHOMED or HOMING carriage; else sets the re-home mark. -/
def Obligations.HomeAsksForAHoming : Prop :=
  ∀ (s : State) (l : LinkId), Asks s l .home →
    exec (.home l (.args .unknown)) s = .next (s.replied l .home (.refuse .range)) ∧
    ∀ n,
      (s.item n = none → exec (.home l (.args (.known n))) s = .next (s.replied l .home (.refuse .unknown))) ∧
      (s.item n ≠ none →
        (((s.car n).state = .unplaced ∨ (s.car n).state = .faulted) →
          exec (.home l (.args (.known n))) s = .next (s.replied l .home (.refuse .state))) ∧
        (((s.car n).state = .unhomed ∨ (s.car n).state = .homing) →
          exec (.home l (.args (.known n))) s = .next (s.replied l .home (.ok []))) ∧
        (((s.car n).state = .idle ∨ (s.car n).state = .running ∨ (s.car n).state = .docked ∨ (s.car n).state = .transferring
            ∨ (s.car n).state = .halted) →
          ∃ t, exec (.home l (.args (.known n))) s = .next t ∧
            RunsOnly ({ s with carriages := s.carriages.set n { s.car n with rehome := true } }.replied l .home (.ok [])) t))

/-- R114, R93: DECLARE refuses with RANGE, UNKNOWN or STATE, or states the position with the clamped tolerance as its uncertainty and
answers that tolerance; in CONFIGURING the carriage then stands UNHOMED. The carriage is seated there: it stands in each segment of its
uncertain footprint that no other carriage holds, the others there are fenced, and it holds nothing else. Any seating of one carriage does
the same, and leaves one that is UNPLACED or has no position holding nothing. RANGE is every tolerance above 65,535, footprint beyond the
corridor's length, and footprint not wholly south of the carriages of lower ordinal and north of the others. That the position of a name
without an item, or past an absent length, is not judged is log 27; that the pair kept of the previous answer is absent then is log 22; that
the carriages waiting at the segments given up retry only once the seating is whole is log 61. -/
def Obligations.DeclareStatesThePosition : Prop :=
  (∀ (s : State) (n : CarriageName) (p tolerance : Nat), s.declareOk n p tolerance = true ↔
    tolerance ≤ 65535 ∧ ∀ it, s.item n = some it →
      (∀ e, s.layout.length.get n.corridor = some e → p + it.length ≤ e) ∧
      ∀ (m : CarriageName) (jt : CarriageItem) (q : Int), m.corridor = n.corridor → m ≠ n → s.item m = some jt → (s.car m).p = some q →
        if m.ordinal < n.ordinal then q + jt.length < p else (p : Int) + it.length < q) ∧
  (∀ (s : State) (n : CarriageName), OneCarriage s →
    (∀ k, n ∉ ((s.seat n).seg n.corridor k).waiting) ∧
    ((s.car n).state = .unplaced ∨ s.uncertain n = none → ∀ k, ((s.seat n).seg n.corridor k).holds n = false) ∧
    ∀ r, (s.car n).state ≠ .unplaced → s.uncertain n = some r → Seated s (s.seat n) n r) ∧
  ∀ (s : State) (l : LinkId) (p tolerance : Nat), Asks s l .declare → numberOk p = true → numberOk tolerance = true →
    exec (.declare l (.args ⟨.unknown, p, tolerance⟩)) s = .next (s.replied l .declare (.refuse .range)) ∧
    ∀ n,
      (s.declareOk n p tolerance = false →
        exec (.declare l (.args ⟨.known n, p, tolerance⟩)) s = .next (s.replied l .declare (.refuse .range))) ∧
      (s.declareOk n p tolerance = true →
        (s.item n = none →
          exec (.declare l (.args ⟨.known n, p, tolerance⟩)) s = .next (s.replied l .declare (.refuse .unknown))) ∧
        (s.item n ≠ none → (s.car n).state ≠ .unplaced → (s.car n).state ≠ .unhomed →
          exec (.declare l (.args ⟨.known n, p, tolerance⟩)) s = .next (s.replied l .declare (.refuse .state))) ∧
        (s.item n ≠ none → ((s.car n).state = .unplaced ∨ (s.car n).state = .unhomed) →
          ∃ t, exec (.declare l (.args ⟨.known n, p, tolerance⟩)) s = .next t ∧
            Calm ({ s with
              carriages := s.carriages.set n
                { s.car n with
                  p := some (p : Int), offset := none, uBase := max 100 (min 1000 tolerance), sinceCorrection := 0
                  u := max 100 (min 1000 tolerance), prevAnswer := none }
            }.replied l .declare (.ok [.num (max 100 (min 1000 tolerance) : Nat)])) t ∧
            (s.mode = .configuring → (t.car n).state = .unhomed) ∧
            ∀ (it : CarriageItem) (u : Nat), OneCarriage s → s.item n = some it → u = max 100 (min 1000 tolerance) →
              Seated s t n ((p : Int) - u, (p : Int) + it.length + u)))

/-- R107: GATE SERVICE refuses with RANGE or UNKNOWN, or puts the gate in or out of service with its counts cleared; a gate that was in
service and goes out is told to every link by a GATE_OUT notice with cause LINK. -/
def Obligations.GateServiceSetsTheService : Prop :=
  ∀ (s : State) (l : LinkId), Asks s l .gateService →
    (∀ c k w, numberOk k = true → (c = .unknown ∨ 40 < k ∨ w = .unknown) →
      exec (.gateService l (.args ⟨c, k, w⟩)) s = .next (s.replied l .gateService (.refuse .range))) ∧
    ∀ c k, k ≤ 40 →
      (∀ w, s.gateInput c k = none →
        exec (.gateService l (.args ⟨.known c, k, .known w⟩)) s = .next (s.replied l .gateService (.refuse .unknown))) ∧
      (s.gateInput c k ≠ none →
        exec (.gateService l (.args ⟨.known c, k, .known .putIn⟩)) s =
          .next ({ s with
            gates := s.gates.set c ((s.gates.get c).put k
              { s.gate c k with service := .inService, misses := 0, attributed := none, standstill := false })
          }.replied l .gateService (.ok [.word "IN_SERVICE"])) ∧
        ∃ t, exec (.gateService l (.args ⟨.known c, k, .known .takeOut⟩)) s = .next t ∧
          (∀ u : State, u = { s.takeLine l .gateService with
              gates := s.gates.set c ((s.gates.get c).put k
                { s.gate c k with service := .outOfService, misses := 0, attributed := none }) } →
            t = (if (s.gate c k).service = .inService then u.notifyAll (.gateOut c k .link) else u).answer l .gateService
              (.ok [.word "OUT_OF_SERVICE"])) ∧
          RunsOnly ({ s with
            gates := s.gates.set c ((s.gates.get c).put k
              { s.gate c k with service := .outOfService, misses := 0, attributed := none })
          }.replied l .gateService (.ok [.word "OUT_OF_SERVICE"])) t)

/-! ## Fences -/

/-- R88: FENCE refuses with RANGE, UNKNOWN or STATE, or sets an OPERATOR fence of the sending link whatever the lower layers hold. R87: a
fence set where none stood is told by a FENCE event; one that replaces an OPERATOR fence is not. Any setting of a fence leaves one that
stands, and tells of one set where none stood. -/
def Obligations.FenceSetsAnOperatorFence : Prop :=
  (∀ (s : State) (c : Corridor) (k : Nat) (f : Fence),
    ((s.seg c k).fence ≠ none → s.setFence c k f = s) ∧
    ((s.seg c k).fence = none →
      s.setFence c k f =
        ({ s with segments := s.segments.set c ((s.segments.get c).put k { s.seg c k with fence := some f }) } : State).offer
          ⟨.fence c k true f, some c, none, none, none⟩)) ∧
  ∀ (s : State) (l : LinkId) (k : Nat), Asks s l .fence → numberOk k = true →
    exec (.fence l (.args ⟨.unknown, k⟩)) s = .next (s.replied l .fence (.refuse .range)) ∧
    ∀ c,
      (39 < k → exec (.fence l (.args ⟨.known c, k⟩)) s = .next (s.replied l .fence (.refuse .range))) ∧
      (k ≤ 39 →
        (s.segInUse c k = false → exec (.fence l (.args ⟨.known c, k⟩)) s = .next (s.replied l .fence (.refuse .unknown))) ∧
        (s.segInUse c k = true →
          (∀ r, (s.seg c k).fence = some (.auto r) →
            exec (.fence l (.args ⟨.known c, k⟩)) s = .next (s.replied l .fence (.refuse .state))) ∧
          ((∀ r, (s.seg c k).fence ≠ some (.auto r)) →
            ∃ t, exec (.fence l (.args ⟨.known c, k⟩)) s = .next t ∧
              (∀ u : State, u = { s.takeLine l .fence with
                  segments := s.segments.set c ((s.segments.get c).put k { s.seg c k with fence := some (.operator l) }) } →
                t = (if (s.seg c k).fence = none then u.offer ⟨.fence c k true (.operator l), some c, none, none, none⟩ else u).answer l
                  .fence (.ok [])) ∧
              RunsOnly ({ s with
                segments := s.segments.set c ((s.segments.get c).put k { s.seg c k with fence := some (.operator l) })
              }.replied l .fence (.ok [])) t)))

/-- R90, R82: UNFENCE refuses with RANGE, STATE or DENIED, or lifts the fence, with a FENCE event of the lift (R87), after which the
carriages waiting at the segment make their grant requests, of two in either order; where none waits no layer changes but that fence. -/
def Obligations.UnfenceLiftsTheFence : Prop :=
  (∀ (s : State) (l : LinkId) (k : Nat), Asks s l .unfence → numberOk k = true →
    exec (.unfence l (.args ⟨.unknown, k⟩)) s = .next (s.replied l .unfence (.refuse .range)) ∧
    ∀ c,
      (39 < k → exec (.unfence l (.args ⟨.known c, k⟩)) s = .next (s.replied l .unfence (.refuse .range))) ∧
      (k ≤ 39 →
        ((s.seg c k).fence = none → exec (.unfence l (.args ⟨.known c, k⟩)) s = .next (s.replied l .unfence (.refuse .state))) ∧
        ∀ f, (s.seg c k).fence = some f →
          (s.permits l (match f with | .operator _ => .fence | .auto _ => .override) = false →
            exec (.unfence l (.args ⟨.known c, k⟩)) s = .next (s.replied l .unfence (.refuse .denied))) ∧
          (s.permits l (match f with | .operator _ => .fence | .auto _ => .override) = true →
            ∃ t, exec (.unfence l (.args ⟨.known c, k⟩)) s = .next t ∧
              t = ((s.takeLine l .unfence).finish (((s.takeLine l .unfence).liftFence c k).retry c k)).answer l .unfence (.ok []) ∧
              Calm (s.replied l .unfence (.ok [])) t ∧
              ((s.seg c k).waiting = [] →
                RunsOnly ({ s with
                  segments := s.segments.set c ((s.segments.get c).put k { s.seg c k with fence := none })
                }.replied l .unfence (.ok [])) t)))) ∧
  (∀ (s : State) (c : Corridor) (k : Nat) (f : Fence), (s.seg c k).fence = some f →
    s.liftFence c k =
      { s with
        segments := s.segments.set c ((s.segments.get c).put k { s.seg c k with fence := none })
        links := (s.offer ⟨.fence c k false f, some c, none, none, none⟩).links }) ∧
  ∀ (s : State) (c : Corridor) (k : Nat),
    ((s.seg c k).waiting = [] → s.retry c k = s) ∧
    (∀ n, (s.seg c k).waiting = [n] → s.retry c k = s.grantRequest n) ∧
    ∀ n m, (s.seg c k).waiting = [n, m] →
      s.retry c k = (({ s with free := s.free + 1 } : State).grantRequest n).grantRequest m ∨
      s.retry c k = (({ s with free := s.free + 1 } : State).grantRequest m).grantRequest n

/-! ## Notices and watches -/

/-- R167: WATCH refuses with RANGE, or reads, clears or writes the sending link's slot, and answers its fields as they then stand. RANGE is
a slot above 5, and every word not defined for its place and number out of its range (R176); the words are those of R167 and R179. That the
event set and the readiness set, which R167 gives without an order, are kept and answered in one fixed order, that of the
list R167 gives of their words, is the model's choice (log 40). -/
def Obligations.WatchReadsAndWritesASlot : Prop :=
  (∀ (a : SlotArgs) (w : WatchSlot), slotOf a = some w ↔
    w.enabled = a.enabled ∧ a.andPrev = .known w.andPrev ∧ .unknown ∉ a.events ∧
    w.events = [EventKind.arrived, .departed, .ended, .identity, .fence].filter (fun k => decide (.known k ∈ a.events)) ∧
    a.corridor = .known w.corridor ∧
    (match a.lane with
     | .any => w.lane = .any
     | .number n => 1 ≤ n ∧ n ≤ 120 ∧ w.lane = .number n
     | .kind k => w.lane = .kind k
     | .unknown => False) ∧
    a.batchValue ≤ 65535 ∧ w.batchValue = a.batchValue ∧ a.batchMask ≤ 65535 ∧ w.batchMask = a.batchMask ∧ .unknown ∉ a.readiness ∧
    w.readiness = [Readiness.growing, .ready, .held, .empty].filter (fun r => decide (.known r ∈ a.readiness)) ∧
    w.reference = a.reference ∧ ∀ v, a.reference = .equal v → 1 ≤ v ∧ v ≤ 999999) ∧
  (∀ w : WatchSlot, slotFields w =
    [.word (if w.enabled = true then "YES" else "NO"), .word (if w.andPrev = true then "SET" else "CLEAR"),
     .words (w.events.map fun k => match k with
       | .arrived => "ARRIVED" | .departed => "DEPARTED" | .ended => "ENDED" | .identity => "IDENTITY" | .fence => "FENCE"),
     match w.corridor with | some c => .word (Corridor.word c) | none => .word "ANY",
     match w.lane with | .any => .word "ANY" | .number n => .num n | .kind k => .word (LaneKind.word k),
     .num w.batchValue, .num w.batchMask, .words (w.readiness.map Readiness.word)]
    ++ match w.reference with
      | .any => [.word "ANY"] | .present => [.word "PRESENT"] | .absent => [.word "ABSENT"] | .equal v => [.word "EQUAL", .num v]) ∧
  ∀ (s : State) (l : LinkId) (i : Nat), Ready s l → numberOk i = true →
    (∀ op, (WatchArgs.mk i op).form = true → 6 ≤ i →
      exec (.watch l (.args ⟨i, op⟩)) s = .next (s.replied l .watch (.refuse .range))) ∧
    (i < 6 →
      exec (.watch l (.args ⟨i, .read⟩)) s = .next (s.replied l .watch (.ok (slotFields (s.slotAt l i)))) ∧
      exec (.watch l (.args ⟨i, .off⟩)) s =
        .next ((s.writeSlot l i ⟨false, false, [], none, .any, 0, 0, [], .any⟩).replied l .watch
          (.ok (slotFields ⟨false, false, [], none, .any, 0, 0, [], .any⟩))) ∧
      ∀ b, b.form = true →
        (slotOf b = none → exec (.watch l (.args ⟨i, .write b⟩)) s = .next (s.replied l .watch (.refuse .range))) ∧
        ∀ w, slotOf b = some w →
          exec (.watch l (.args ⟨i, .write b⟩)) s = .next ((s.writeSlot l i w).replied l .watch (.ok (slotFields w))))

/-- R169: the fired set of an event holds, rising, the index of each slot that begins a chain all of whose slots match; a disabled slot
never matches; and the event makes one notice or none on a link: its own ENDED notice with the fired set, empty or not, else a watch
notice where the fired set holds an index. R168: a slot matches an event where its seven conditions hold; an event without a lane or a
bench meets those on the lane and the bench only where the slot asks for none. Every link judges an event, and a system notice goes to
every link. -/
def Obligations.ChainsFireTogether : Prop :=
  (∀ (matched : WatchSlot → Bool) (slots : List WatchSlot),
    (firedSet matched slots).Pairwise (· < ·) ∧
    ∀ i, i ∈ firedSet matched slots ↔
      ∃ w, slots[i]? = some w ∧ (i = 0 ∨ w.andPrev = false) ∧
        ∀ j v, i ≤ j → slots[j]? = some v → (∀ k u, i < k → k ≤ j → slots[k]? = some u → u.andPrev = true) → matched v = true) ∧
  (∀ (s : State) (o : Offer) (w : WatchSlot), w.enabled = false → slotMatches s o w = false) ∧
  (∀ (s : State) (o : Offer) (w : WatchSlot) (b : Option Bench), b = (match o.bench with | some n => s.bench? n | none => none) →
    (slotMatches s o w = true ↔
      w.enabled = true ∧
      (match o.event with
       | .arrived _ _ => .arrived | .departed _ _ => .departed | .ended _ _ _ _ => .ended | .identity _ _ => .identity
       | .fence _ _ _ _ => EventKind.fence) ∈ w.events ∧
      (w.corridor = none ∨ w.corridor = o.corridor) ∧
      (match w.lane with
       | .any => True
       | .number n => o.lane = some n
       | .kind k => ∃ n it, o.lane = some n ∧ s.laneItem n = some it ∧ it.kind = k) ∧
      (∀ v, b = some v → v.batch &&& w.batchMask = w.batchValue &&& w.batchMask) ∧ (b = none → w.batchMask = 0) ∧
      (∀ v, b = some v → v.readiness ∈ w.readiness) ∧ (b = none → ∀ r, r ∈ w.readiness) ∧
      (match w.reference with
       | .any => True
       | .present => ∃ v, b = some v ∧ v.reference ≠ none
       | .absent => ∃ v, b = some v ∧ v.reference = none
       | .equal x => ∃ v, b = some v ∧ v.reference = some x))) ∧
  (∀ (s : State) (o : Offer), s.offer o = ((s.offerOn o .l1).offerOn o .l2).offerOn o .l3) ∧
  (∀ (s : State) (b : NoticeBody), s.notifyAll b = ((s.notify .l1 b none).notify .l2 b none).notify .l3 b none) ∧
  ∀ (s : State) (o : Offer) (l : LinkId),
    (o.own = some l →
      s.offerOn o l = s.notify l (.event o.event) (some (firedSet (slotMatches s o) (s.link l).slots))) ∧
    (o.own ≠ some l → firedSet (slotMatches s o) (s.link l).slots ≠ [] →
      s.offerOn o l = s.notify l (.event o.event) (some (firedSet (slotMatches s o) (s.link l).slots))) ∧
    (o.own ≠ some l → firedSet (slotMatches s o) (s.link l).slots = [] → s.offerOn o l = s)

/-- R170: FETCH takes the count clamped to 1 to 16, 16 where none is given; removes that many of the oldest notices, or all; answers how
many it returns and leaves and the lost count, which then is 0; and the notices follow, oldest first. -/
def Obligations.FetchTakesTheOldest : Prop :=
  ∀ (s : State) (l : LinkId) (n : Option Nat), Ready s l → optNumberOk n = true →
    ∃ k, (n = none → k = 16) ∧ (∀ x, n = some x → k = max 1 (min 16 x)) ∧
      exec (.fetch l (.args n)) s =
        .next ({ s with
          links := s.links.set l { s.link l with queue := (s.link l).queue.drop k, lost := 0 }
        }.replied l .fetch
          ⟨.ok, [.num ((s.link l).queue.take k).length, .num ((s.link l).queue.drop k).length, .num (s.link l).lost],
            (s.link l).queue.take k⟩)

/-- R171: ATTENTION sets the enable, or refuses another word with RANGE; the line is asserted while the queue holds a notice and the
enable is ON; a dropped notice does not change it, and notices join the queue whatever the enable. -/
def Obligations.AttentionFollowsQueueAndEnable : Prop :=
  ∀ (s : State) (l : LinkId),
    (Ready s l →
      (∀ on, exec (.attention l (.args (.known on))) s =
        .next ({ s with links := s.links.set l { s.link l with attention := on } }.replied l .attention (.ok []))) ∧
      exec (.attention l (.args .unknown)) s = .next (s.replied l .attention (.refuse .range))) ∧
    (s.attentionLine l = true ↔ (s.link l).queue ≠ [] ∧ (s.link l).attention = true) ∧
    ∀ (m : LinkId) (b : NoticeBody) (f : Option (List Nat)),
      ((s.link m).queue.length < 16 →
        ((s.notify m b f).link m).queue = (s.link m).queue ++ [⟨b, s.seconds, f⟩] ∧ ((s.notify m b f).link m).lost = (s.link m).lost) ∧
      (16 ≤ (s.link m).queue.length →
        ((s.notify m b f).link m).queue = (s.link m).queue ∧ ((s.notify m b f).link m).lost = min 255 ((s.link m).lost + 1) ∧
        (s.notify m b f).attentionLine m = s.attentionLine m)

/-! ## Gates -/

/-- R100, R101, R103, R104, R91: the candidates of a rising edge are the moving carriages whose front, carried forward from the latest
answer, lies within 2·(u + tol) of the gate. An edge with no candidate is an intrusion, which fences the adjoining segments in use (by
rising number, log 62), asks for the broadcast brake where a running layer lies within two segments of the gate, and is told to every link
by an INTRUSION notice; with two or more it is AMBIGUOUS and moves nothing; out of service it is taken for nothing; at a
gate not in use or already present there is none (log 4), and one at a gate without a derived position has no candidate (log 49). -/
def Obligations.RisingEdgeWithoutOneCandidate : Prop :=
  (∀ (s : State) (c : Corridor) (g : Int) (n : CarriageName) (e : Int), (n, e) ∈ s.edgeCandidates c g ↔ Candidate s c g n e) ∧
  (∀ (s u : State) (c : Corridor) (k : Nat),
    s.adjoining c k = (s.segsInUse c).filter (fun i => decide (i + 1 = k ∨ i = k)) ∧
    (s.runningNear c k = true ↔ ∃ i ∈ s.segsInUse c, k ≤ i + 2 ∧ i ≤ k + 1 ∧ (s.seg c i).running ≠ none) ∧
    (u = (s.adjoining c k).foldl (fun t i => t.setFence c i (.auto (.intrusion k)))
        { s with gates := s.gates.set c ((s.gates.get c).put k { s.gate c k with outcome := .intrusion }) } →
      s.intrude c k =
        (if s.runningNear c k = true then { u with lines := u.lines.set c { u.line c with broadcast := true } } else u : State).notifyAll
          (.intrusion c k))) ∧
  ∀ (s : State) (c : Corridor) (k : Nat) (mid : Level), s.powered = true → NothingOwed s →
    ((s.gateInput c k = none ∨ (s.gate c k).level = .present) → exec (.gateRisingEdge c k mid) s = .next s) ∧
    (∀ i, s.gateInput c k = some i → (s.gate c k).level = .clear → (s.gate c k).service = .outOfService →
      exec (.gateRisingEdge c k mid) s = .next (s.filterTo c k i .present mid)) ∧
    (∀ i, s.gateInput c k = some i → (s.gate c k).level = .clear → (s.gate c k).service = .inService →
      (∀ g, s.layout.gatePos c k = some g → s.edgeCandidates c (g : Int) = []) →
      ∃ t, exec (.gateRisingEdge c k mid) s = .next t ∧
        (∀ u, u = s.filterTo c k i .present mid →
          t = ({ u with
            gates := u.gates.set c ((u.gates.get c).put k
              { u.gate c k with rising := some s.millis, standstill := false, attributed := none }) } : State).intrude c k) ∧
        t.still = { s.still with inputs := t.inputs, gates := t.gates, lines := t.lines } ∧
        (t.gate c k).level = .present ∧ (t.gate c k).outcome = .intrusion ∧ (t.gate c k).rising = some s.millis ∧
        (t.gate c k).attributed = none ∧ (t.gate c k).standstill = false ∧ (t.gate c k).misses = (s.gate c k).misses ∧
        (t.line c).broadcast = ((s.line c).broadcast || s.runningNear c k) ∧
        (∀ j ∈ s.segsInUse c, (j + 1 = k ∨ j = k) →
          (t.seg c j).fence = (match (s.seg c j).fence with | some f => some f | none => some (.auto (.intrusion k)))) ∧
        (∀ d j, (t.seg d j).running = (s.seg d j).running ∧ (t.seg d j).standing = (s.seg d j).standing) ∧
        ∀ n, (t.car n).stand = (s.car n).stand) ∧
    (∀ i g, s.gateInput c k = some i → (s.gate c k).level = .clear → (s.gate c k).service = .inService →
      s.layout.gatePos c k = some g → 2 ≤ (s.edgeCandidates c (g : Int)).length →
      exec (.gateRisingEdge c k mid) s =
        .next ((s.filterTo c k i .present mid).modGate c k fun g =>
          { g with rising := some s.millis, standstill := false, attributed := none, outcome := .ambiguous }))

/-- R101, R102, R111, R115: a rising edge with one candidate, the one moving carriage whose carried front lies within 2·(u + tol) of the
gate, is attributed to it: without effect where it is FAULTED or UNPLACED; a homing where it homes toward this gate, which leaves a HOMING
carriage IDLE (its corridor's allocator runs then) and a HALTED one remembering IDLE, its homing fields dropped; a correction where
the deviation is at most u + tol; else it is FAULTED with POSITION_LOST. -/
def Obligations.RisingEdgeWithOneCandidate : Prop :=
  ∀ (s : State) (c : Corridor) (k i g : Nat) (mid : Level) (n : CarriageName) (e : Int), s.powered = true →
    s.gateInput c k = some i → (s.gate c k).level = .clear → (s.gate c k).service = .inService →
    s.layout.gatePos c k = some g → s.edgeCandidates c (g : Int) = [(n, e)] → (s.timing c).tol ≤ 1500 →
    Candidate s c g n e ∧ (∀ m x, Candidate s c g m x → m = n ∧ x = e) ∧
    ∃ t, exec (.gateRisingEdge c k mid) s = .next t ∧ t.layout = s.layout ∧ t.millis = s.millis ∧
      (t.gate c k).level = .present ∧ (t.gate c k).rising = some s.millis ∧ (t.gate c k).attributed = some n ∧
      (∀ m, m ≠ n → (t.car m).p = (s.car m).p ∧ (t.car m).u = (s.car m).u ∧ (t.car m).offset = (s.car m).offset) ∧
      (((s.car n).state = .faulted ∨ (s.car n).state = .unplaced) →
        (t.gate c k).outcome = .attributed ∧ t.benches = s.benches ∧ (t.car n).stand = (s.car n).stand) ∧
      ((s.car n).state ≠ .faulted → (s.car n).state ≠ .unplaced → s.homesToward n k = true →
        (t.gate c k).outcome = .homed ∧ (t.gate c k).misses = 0 ∧ t.benches = s.benches ∧
        (t.car n).stand =
          { (s.car n).stand with
            p := (s.car n).p.map (· + e), offset := (s.car n).offset.map (· + e), u := 10, uBase := 10, sinceCorrection := 0
            sinceHoming := 0, homings := (s.car n).homings + 1, slip := false, rehome := false } ∧
        (∃ u, t = s.finish u ∧ (u.car n).homing = none ∧ ((s.car n).state = .homing → Idled (u.car n))) ∧
        ((s.car n).state = .homing → s.mode = .configuring →
          (t.car n).state = .idle ∧ (t.car n).task = none ∧ (t.car n).leg = none ∧ (t.car n).homing = none) ∧
        ((s.car n).state = .halted → (t.car n).state = .halted ∧ (t.car n).remembered = some .idle)) ∧
      ((s.car n).state ≠ .faulted → (s.car n).state ≠ .unplaced → s.homesToward n k = false →
        (e.natAbs : Int) ≤ ((s.car n).u : Int) + (s.timing c).tol →
        (t.gate c k).outcome = .corrected ∧ (t.gate c k).misses = 0 ∧ t.benches = s.benches ∧
        (t.car n).stand =
          { (s.car n).stand with
            p := (s.car n).p.map (· + e), offset := (s.car n).offset.map (· + e), u := (s.timing c).tol, uBase := (s.timing c).tol
            sinceCorrection := 0 }) ∧
      ((s.car n).state ≠ .faulted → (s.car n).state ≠ .unplaced → s.homesToward n k = false →
        ((s.car n).u : Int) + (s.timing c).tol < (e.natAbs : Int) →
        (t.gate c k).outcome = .rejected ∧ (t.car n).state = .faulted ∧ (t.car n).faultKind = some .positionLost ∧
        (t.car n).p = (s.car n).p ∧ (t.car n).offset = (s.car n).offset ∧ (t.car n).u = (s.car n).u)

/-- R100, R105: a falling edge ends an occupancy: it times it where the gate has an attributed carriage, and sets that carriage's slip and
re-home marks where the gate's speed and the odometer's differ by more than the limit; the check is left out at a duration of 0 or
65,535 ms, after a standstill, and for a FAULTED or UNPLACED carriage. At a gate not in use or already clear there is no falling edge
(the model's choice, log 4). -/
def Obligations.FallingEdgeEndsTheOccupancy : Prop :=
  ∀ (s : State) (c : Corridor) (k : Nat) (mid : Level), s.powered = true → NothingOwed s →
    ((s.gateInput c k = none ∨ (s.gate c k).level = .clear) → exec (.gateFallingEdge c k mid) s = .next s) ∧
    (∀ i, s.gateInput c k = some i → (s.gate c k).level = .present →
      ((s.gate c k).service = .outOfService ∨ (s.gate c k).attributed = none) →
      exec (.gateFallingEdge c k mid) s = .next (s.filterTo c k i .clear mid)) ∧
    (∀ i n r it occupied, s.gateInput c k = some i → (s.gate c k).level = .present → (s.gate c k).service = .inService →
      (s.gate c k).attributed = some n → (s.gate c k).rising = some r → s.item n = some it →
      occupied = min 65535 (s.millis - r) →
      ∃ t, exec (.gateFallingEdge c k mid) s = .next t ∧ t.layout = s.layout ∧ t.millis = s.millis ∧
        (t.gate c k).level = .clear ∧ (t.gate c k).duration = some occupied ∧ (t.gate c k).attributed = none ∧
        (t.gate c k).standstill = false ∧ (∀ m, m ≠ n → (t.car m).stand = (s.car m).stand) ∧
        ((occupied = 0 ∨ occupied = 65535 ∨ (s.gate c k).standstill = true ∨ (s.car n).state = .faulted
            ∨ (s.car n).state = .unplaced ∨
            ((it.length * 1000 / occupied : Nat) : Int) - (s.car n).speed ≤ max 100 ((s.car n).speed / 4 : Nat) ∧
              ((s.car n).speed : Int) - (it.length * 1000 / occupied : Nat) ≤ max 100 ((s.car n).speed / 4 : Nat)) →
          t.benches = s.benches ∧ (t.car n).stand = (s.car n).stand) ∧
        (occupied ≠ 0 → occupied ≠ 65535 → (s.gate c k).standstill = false → (s.car n).state ≠ .faulted →
          (s.car n).state ≠ .unplaced →
          ((max 100 ((s.car n).speed / 4) : Nat) : Int)
            < ((((it.length * 1000 / occupied : Nat) : Int) - ((s.car n).speed : Int)).natAbs : Int) →
          (t.car n).slip = true ∧ (t.car n).rehome = true ∧ (t.car n).p = (s.car n).p))

/-! ## Stop loops -/

/-- R156: an opening asks for the broadcast brake, is told to every link by a STOP_OPEN notice, and halts the carriages of its corridor, by
ordinal (log 53): RUNNING, HOMING and DOCKED ones remember what they did, keep leg, task, assigned order and homing fields, and leave every
waiting set (R81), a DOCKED one its wait for a lane's lock too (R131); a TRANSFERRING one faults with its bench straddling, and one in any
other state stays as it is; where the loop is open already there is no opening (log 4). -/
def Obligations.OpeningHaltsTheCorridor : Prop :=
  (∀ (s : State) (n : CarriageName) (v : Remembered → Carriage), (∀ r, v r = { s.car n with state := .halted, remembered := some r }) →
    ((s.car n).state = .running → s.haltOne n = { s.unwait n with carriages := s.carriages.set n (v .running) }) ∧
    ((s.car n).state = .homing → s.haltOne n = { s.unwait n with carriages := s.carriages.set n (v .homing) }) ∧
    (∀ k, (s.car n).state = .docked → (s.car n).docked = some k →
      s.haltOne n = { s.unwait n with
        carriages := s.carriages.set n (v .docked)
        lanes := if (s.lane k).waiting = some n then s.lanes.put k { s.lane k with waiting := none } else s.lanes }) ∧
    ((s.car n).state = .transferring → s.haltOne n = s.fault n .transferInterrupted none) ∧
    ((s.car n).state ≠ .running → (s.car n).state ≠ .homing → (s.car n).state ≠ .docked → (s.car n).state ≠ .transferring →
      s.haltOne n = s)) ∧
  (∀ (s : State) (n : CarriageName) (c : Corridor) (k : Nat),
    s.unwait n = { s with segments := (s.unwait n).segments } ∧
    (s.unwait n).seg c k =
      if c = n.corridor then { s.seg c k with waiting := (s.seg c k).waiting.filter fun m => decide (m ≠ n) } else s.seg c k) ∧
  ∀ (s : State) (c : Corridor) (mid : LoopState), s.powered = true →
    (NothingOwed s → (s.stop c).loop = .opened → exec (.stopOpen c mid) s = .next s) ∧
    ((s.stop c).loop = .closed →
      ∃ t, exec (.stopOpen c mid) s = .next t ∧
        (∀ u, u = ({ s with
            stops := s.stops.set c ⟨.opened, ⟨.opened, mid, if mid = .opened then .closed else .opened⟩, .opened⟩
            lines := s.lines.set c { s.line c with broadcast := true } } : State).notifyAll (.stopOpen c) →
          t = s.finish ((s.carsOf c).foldl State.haltOne u)) ∧
        (NothingOwed s → (∀ m ∈ s.carsOf c, (s.car m).state ≠ .transferring) →
          t.links = (s.notifyAll (.stopOpen c)).links ∧
          ∀ n ∈ s.carsOf c, ((s.car n).state = .running ∨ (s.car n).state = .homing ∨ (s.car n).state = .docked) →
            (t.car n).leg = (s.car n).leg ∧ (t.car n).task = (s.car n).task ∧ (t.car n).assigned = (s.car n).assigned ∧
            (t.car n).homing = (s.car n).homing ∧ (∀ k, n ∉ (t.seg c k).waiting) ∧
            ∀ k, (s.car n).state = .docked → (s.car n).docked = some k → (t.lane k).waiting ≠ some n) ∧
        t.layout = s.layout ∧ t.millis = s.millis ∧
        (t.stop c).loop = .opened ∧ (t.stop c).input = .opened ∧ (t.line c).broadcast = true ∧ t.stop c.other = s.stop c.other ∧
        ∀ n ∈ s.carsOf c,
          ((s.car n).state = .running → (t.car n).state = .halted ∧ (t.car n).remembered = some .running) ∧
          ((s.car n).state = .homing → (t.car n).state = .halted ∧ (t.car n).remembered = some .homing) ∧
          ((s.car n).state = .docked →
            (t.car n).state = .halted ∧ (t.car n).remembered = some .docked ∧ (t.car n).docked = (s.car n).docked) ∧
          ((s.car n).state = .transferring →
            (t.car n).state = .faulted ∧ (t.car n).faultKind = some .transferInterrupted ∧
            ((s.car n).transfer ≠ none → (t.car n).load = .straddled ∧ (t.car n).transfer = none ∧ (t.car n).mark = none)))

/-- R159: a closing returns the HALTED carriages of its corridor, by ordinal (the model's choice, log 53), to what they remember, and the
allocator then runs; at a closed loop there is no closing (the model's choice, log 4). Where none remembers IDLE, those that remember
RUNNING, HOMING or DOCKED end the event so; one that remembers IDLE in CONFIGURING and alone ends it IDLE. In general one that remembers
IDLE becomes IDLE, and one that becomes IDLE in RUNNING can be shifted at once or start other work in the same event (R73, R82, R84). -/
def Obligations.ClosingReturnsTheHalted : Prop :=
  (∀ (s : State) (c : Corridor) (mid : LoopState), s.powered = true →
    (NothingOwed s → (s.stop c).loop = .closed → exec (.stopClosed c mid) s = .next s) ∧
    ((s.stop c).loop = .opened →
      (∀ u, u = (s.modStop c fun _ => stopRecord .closed mid).notifyAll (.stopClosed c) →
        exec (.stopClosed c mid) s = .next (s.finish (((s.carsOf c).foldl State.resume u).owe c))) ∧
      ∃ t, exec (.stopClosed c mid) s = .next t ∧ t.layout = s.layout ∧ t.millis = s.millis ∧
        (t.stop c).loop = .closed ∧ (t.stop c).input = .closed ∧ t.lines = s.lines ∧ t.stop c.other = s.stop c.other ∧
        ((∀ m ∈ s.carsOf c, (s.car m).state = .halted → (s.car m).remembered ≠ some .idle) →
          ∀ n ∈ s.carsOf c, (s.car n).state = .halted →
            ((s.car n).remembered = some .running → (t.car n).state = .running ∧ (t.car n).remembered = none
              ∧ (t.car n).leg = (s.car n).leg) ∧
            ((s.car n).remembered = some .homing → (t.car n).state = .homing ∧ (t.car n).remembered = none
              ∧ (t.car n).leg = (s.car n).leg) ∧
            ((s.car n).remembered = some .docked →
              ((t.car n).state = .docked ∨ (t.car n).state = .transferring) ∧ (t.car n).remembered = none)) ∧
        (∀ n ∈ s.carsOf c, s.mode = .configuring → (s.car n).state = .halted → (s.car n).remembered = some .idle →
          (s.car n).task = none → (∀ m ∈ s.carsOf c, m ≠ n → (s.car m).state ≠ .halted) →
          (t.car n).state = .idle ∧ (t.car n).remembered = none))) ∧
  ∀ (s : State) (n : CarriageName), (s.car n).state = .halted →
    ((s.car n).remembered = some .idle → Idled ((s.resume n).car n)) ∧
    ((s.car n).remembered = some .running →
      s.resume n = { s with carriages := s.carriages.set n { s.car n with state := .running, remembered := none } }) ∧
    ((s.car n).remembered = some .homing →
      s.resume n = { s with
        carriages := s.carriages.set n
          { s.car n with
            state := .homing, remembered := none, homing := (s.car n).homing.map fun h => { h with start := s.millis } } }) ∧
    ((s.car n).remembered = some .docked →
      s.resume n =
        (({ s with carriages := s.carriages.set n { s.car n with state := .docked, remembered := none } } : State).convert
          n).lockRequest n)

/-! ## Drive lines -/

/-- R144, R145: a polling cycle begins and calls the first drive where no exchange is in flight and no broadcast is pending or being sent.
R150: a pending broadcast is sent as soon as no exchange is in flight; what the row does, at its beginning and at its end 1 ms later, is
log 47; behind it goes a second one asked for meanwhile, else the line's next exchange. Where there is none to send the row does nothing
(log 4). The clock brought to the moment a row names is log 3, the millisecond a telegram takes and the cycle start are log 20, that the
first cycle after a start begins 100 ms after it is log 56, the mark that a cycle clears which leaves no drive uncalled is log 16, and the
moment of the seconds stamp in the figures kept is log 82. -/
def Obligations.LinesCallAndBroadcast : Prop :=
  (∀ (s u : State) (c : Corridor), s.powered = true →
       u = { s with millis := max s.millis ((s.line c).cycleStart + 100) } →
       (∀ address n rest, (s.line c).inFlight = none → (s.line c).broadcast = false →
         (∀ e, (s.line c).broadcastEnds = some e → e ≤ u.millis) → s.drives c = (address, n) :: rest →
         exec (.pollingCycle c) s =
           .next { u with
             carriages := s.carriages.set n { s.car n with figures := some (u.figuresOf n) }
             lines := s.lines.set c
               { s.line c with
                 cycleStart := u.millis, inFlight := some ⟨address, some n, u.setMode n, u.millis + 1, false⟩, toCall := rest
                 sent := some (u.telegramTo n address), broadcastEnds := none } }) ∧
       (((s.line c).inFlight ≠ none ∨
           (((s.line c).broadcast = true ∨ ∃ e, (s.line c).broadcastEnds = some e ∧ u.millis < e) ∧ s.drives c ≠ [])) →
         exec (.pollingCycle c) s =
           .next { u with lines := s.lines.set c { s.line c with cycleStart := u.millis, toCall := s.drives c } }) ∧
       ((s.line c).inFlight = none → s.drives c = [] →
         ∃ t, exec (.pollingCycle c) s = .next t ∧
           RunsOnly { u with
             lines := s.lines.set c { s.line c with cycleStart := u.millis, toCall := [] }, starting := s.starting.set c false } t)) ∧
  (∀ (s : State) (c : Corridor),
       ((s.line c).inFlight = none → (s.line c).toCall = [] → s.starting.get c = true →
         (∀ n ∈ s.carsOf c, (s.car n).figures ≠ none) →
         s.cycleDone c = ({ s with starting := s.starting.set c false, owed := s.owed.set c true } : State).settle) ∧
       (((s.line c).inFlight ≠ none ∨ (s.line c).toCall ≠ [] ∨ s.starting.get c = false ∨
           ∃ n ∈ s.carsOf c, (s.car n).figures = none) → s.cycleDone c = s)) ∧
  (∀ (s : State) (c : Corridor), s.powered = true → (s.line c).broadcastEnds = none →
       (((s.line c).broadcast = false ∨ (s.line c).inFlight ≠ none) → exec (.broadcastBrake c) s = .next s) ∧
       ((s.line c).broadcast = true → (s.line c).inFlight = none →
         exec (.broadcastBrake c) s =
           .next { s with
             lines := s.lines.set c
               { s.line c with
                 broadcast := false, sent := some ⟨0, .brake, 0, 0, none⟩, broadcastEnds := some (s.millis + 1) } })) ∧
  (∀ (s u : State) (c : Corridor) (e : Nat), s.powered = true → (s.line c).broadcastEnds = some e →
       u = { s with millis := max s.millis e } →
       ((s.line c).inFlight ≠ none →
         exec (.broadcastBrake c) s = .next { u with lines := s.lines.set c { s.line c with broadcastEnds := none } }) ∧
       ((s.line c).inFlight = none → (s.line c).broadcast = true →
         exec (.broadcastBrake c) s =
           .next { u with
             lines := s.lines.set c
               { s.line c with
                 broadcast := false, sent := some ⟨0, .brake, 0, 0, none⟩, broadcastEnds := some (u.millis + 1) } }) ∧
       ((s.line c).inFlight = none → (s.line c).broadcast = false →
         (∀ address n rest, (s.line c).toCall = (address, n) :: rest →
           exec (.broadcastBrake c) s =
             .next { u with
               carriages := s.carriages.set n { s.car n with figures := some (u.figuresOf n) }
               lines := s.lines.set c
                 { s.line c with
                   inFlight := some ⟨address, some n, u.setMode n, u.millis + 1, false⟩, toCall := rest
                   sent := some (u.telegramTo n address), broadcastEnds := none } }) ∧
         ((s.line c).toCall = [] →
           ∃ t, exec (.broadcastBrake c) s = .next t ∧
             RunsOnly { u with
               lines := s.lines.set c { s.line c with broadcastEnds := none }
               starting := if ∀ n ∈ s.carsOf c, (s.car n).figures ≠ none then s.starting.set c false else s.starting } t)))

/-- R145 to R147: an answer outside a window, or after one that failed, is discarded; one that fails its tests spoils the exchange; a valid
one is taken in the five steps of R147, the exchange ends and the line goes on; the drive's record and the carriage then hold what it
reported (R152 for the load). That an answer at exactly 20 ms is still in the window is log 38; that an answer from an address the drive
has no longer leaves a LOST drive LOST is log 48. What the steps do: a tag reading fills the slot, marks its overrun or is stray (R141); a
gate passed clear is missed, and out of service at the third time (R106); the segments behind are released from the near end (R83); and a
run is converted at standstill, its waiting carriages retried before the new segments are seated (R82, R84). The answer is judged so: a
DRIVE_FAULT faults the carriage with its code (R148); a transfer has its outcome by TRANSFER_DONE and TRANSFER_FAILED in answers to its own
telegrams (R133); AT_TARGET ends a shift, the carriage becoming IDLE (R63, R73); speed 0 makes a withdrawn carriage IDLE (R75); AT_TARGET
at the dock point of the order's next transfer docks it (R128), and it asks for the lane's lock (R129): at a free or no BAY lane its
transfer starts (R132), at another it waits. A carriage that becomes IDLE has its run converted, and the end of its shift takes it out of
the waiting-for set of the work it ran for, which starts once the set is empty. The model's choices here: the pair kept of the previous
answer (log 22), the field of its load (log 65), that a segment without derived boundaries is not behind (log 13), that the segments
released in one event are all released before the first retry (log 70), that a conversion treats a held segment not in use as R84 says (log
71), and the order in which a waiting-for set is kept (log 40). -/
def Obligations.StatusAnswersAreTaken : Prop :=
  (∀ (s : State) (n : CarriageName) (mode : SetMode) (a : StatusAnswer),
    (a.state = .driveFault → s.judgeAnswer n mode a = s.fault n .driveFault (some a.faultCode)) ∧
    (a.state ≠ .driveFault →
      (∀ tr telegram, (s.car n).state = .transferring → (s.car n).transfer = some tr →
        telegram = (match tr.kind with | .pull => SetMode.pull | .push => SetMode.push) →
        (mode = telegram → a.state = .transferDone → s.judgeAnswer n mode a = s.transferOutcome n tr false a.loaded) ∧
        (mode = telegram → a.state = .transferFailed → s.judgeAnswer n mode a = s.transferOutcome n tr true a.loaded) ∧
        ((mode ≠ telegram ∨ (a.state ≠ .transferDone ∧ a.state ≠ .transferFailed)) → s.judgeAnswer n mode a = s)) ∧
      ((s.car n).state = .transferring → (s.car n).transfer = none → s.judgeAnswer n mode a = s) ∧
      ((s.car n).state ≠ .transferring → (s.car n).state ≠ .running → s.judgeAnswer n mode a = s) ∧
      ((s.car n).state = .running →
        ((s.car n).onShift = true → a.state = .atTarget → s.judgeAnswer n mode a = s.becomeIdle n) ∧
        ((s.car n).onShift = false → (s.car n).assigned = none → a.speed = 0 → s.judgeAnswer n mode a = s.becomeIdle n) ∧
        (∀ id o leg k m, (s.car n).onShift = false → (s.car n).assigned = some id → s.order? id = some o → (s.car n).leg = some leg →
          ((o.phase = .fetching ∧ o.srcLane = some k) ∨ (o.phase = .carrying ∧ o.dest = k)) → s.mouth k o.corridor = some m →
          (a.state = .atTarget → leg.target = m.dock → s.judgeAnswer n mode a = s.dockAt n k) ∧
          (leg.target ≠ m.dock → s.judgeAnswer n mode a = s)) ∧
        (a.state ≠ .atTarget → ((s.car n).onShift = true ∨ (s.car n).assigned ≠ none ∨ a.speed ≠ 0) → s.judgeAnswer n mode a = s)))) ∧
  (∀ (s : State) (n : CarriageName) (k : Nat),
    s.dockAt n k =
      (({ s with carriages := s.carriages.set n { s.car n with state := .docked, leg := none, docked := some k } } : State).convert
        n).lockRequest n ∧
    ((s.car n).docked = some k →
      (s.isBay k = false → s.lockRequest n = s.startTransfer n) ∧
      (s.isBay k = true → (s.lane k).lock = none →
        s.lockRequest n = ({ s with lanes := s.lanes.put k { s.lane k with lock := some n.corridor } } : State).startTransfer n) ∧
      (s.isBay k = true → (s.lane k).lock ≠ none →
        s.lockRequest n = { s with lanes := s.lanes.put k { s.lane k with waiting := some n } }))) ∧
  (∀ (s : State) (n : CarriageName) (k id b : Nat) (o : Order) (m : MouthItem), (s.car n).docked = some k → (s.car n).assigned = some id →
    s.order? id = some o → (if o.phase = .carrying then (s.car n).load = .bench b else s.endMost k n.corridor = some b) →
    s.mouth k n.corridor = some m →
      s.startTransfer n = { s with
        carriages := s.carriages.set n
          { s.car n with
            slot := none, slotOverrun := false, docked := none, state := .transferring, mark := some ⟨k, n.corridor, b⟩
            transfer := some ⟨if o.phase = .carrying then .push else .pull, k, m.side, id, b, decide (o.phase = .carrying), s.millis⟩ }
        book := s.book.map fun q => if q.id = id then { q with phase := if o.phase = .carrying then .pushing else .pulling } else q }) ∧
  (∀ (s u : State) (n : CarriageName),
    u = (({ s with
      carriages := s.carriages.set n
        { s.car n with state := .idle, remembered := none, task := none, leg := none, docked := none } } : State).convert n).owe
      n.corridor →
    s.becomeIdle n = if (s.car n).onShift = true then u.endShift n else u) ∧
  (∀ (s : State) (n : CarriageName),
    ((∀ w ∈ s.carsOf n.corridor, ∀ k, (s.car w).task = some k → n ∉ k.waitingFor) → s.endShift n = s.owe n.corridor) ∧
    ∀ w k rest u, w ∈ s.carsOf n.corridor → (s.car w).task = some k → n ∈ k.waitingFor →
      (∀ m ∈ s.carsOf n.corridor, m ≠ w → ∀ j, (s.car m).task = some j → n ∉ j.waitingFor) →
      rest = k.waitingFor.filter (fun m => decide (m ≠ n)) →
      u = { s.owe n.corridor with carriages := s.carriages.set w { s.car w with task := some { k with waitingFor := rest } } } →
      s.endShift n = if rest = [] then u.startWork w else u) ∧
  (∀ (s : State) (w : CarriageName) (k : Task), (s.car w).task = some k →
    (k.kind = .homing → s.startWork w = s.enterHoming w) ∧
    ∀ id o j m p, k.kind = .order → (s.car w).assigned = some id → s.order? id = some o → (s.car w).p = some p →
      (match o.source with | .aboard _ => o.dest = j | _ => o.srcLane = some j) → s.mouth j o.corridor = some m →
      s.startWork w = { s with
        carriages := s.carriages.set w
          { s.car w with state := .running, leg := some ⟨m.dock, if p ≤ (m.dock : Int) then .south else .north⟩ }
        book := s.book.map fun q =>
          if q.id = id then { q with phase := match q.source with | .aboard _ => .carrying | _ => .fetching } else q }) ∧
  (∀ (s : State) (c : Corridor) (a : StatusAnswer), s.powered = true →
    ((s.line c).inFlight = none → exec (.statusAnswer c a) s = .next s) ∧
    ∀ ex, (s.line c).inFlight = some ex →
      ((s.millis < ex.sentAt ∨ ex.sentAt + 20 < s.millis ∨ ex.failed = true) → exec (.statusAnswer c a) s = .next s) ∧
      (ex.sentAt ≤ s.millis → s.millis ≤ ex.sentAt + 20 → ex.failed = false →
        ((a.form = false ∨ a.address ≠ ex.address) →
          exec (.statusAnswer c a) s =
            .next { s with lines := s.lines.set c { s.line c with inFlight := some { ex with failed := true } } }) ∧
        (a.form = true → a.address = ex.address →
          (ex.carriage = none → exec (.statusAnswer c a) s = .next (s.endExchange c)) ∧
          ∀ n, ex.carriage = some n →
            ((s.car n).link = .lost → (s.item n).map (·.address) ≠ some ex.address →
              exec (.statusAnswer c a) s = .next (s.endExchange c)) ∧
            ((s.car n).link = .up ∨ (s.item n).map (·.address) = some ex.address →
              ∃ t, exec (.statusAnswer c a) s = .next t ∧
                t = (s.finish
                  (((((((s.noteAnswer n a).takeBytes n a.bytes).track n a.odometer).judgeAnswer n ex.mode a).releaseBehind
                    n).convertStanding n a.speed).grantRequest n)).endExchange c ∧
                t.layout = s.layout ∧ t.millis = s.millis ∧ (t.car n).misses = 0 ∧ (t.car n).link = .up ∧
                (t.car n).lastAnswer = some s.millis ∧ (t.car n).driveState = some a.state ∧ (t.car n).speed = a.speed ∧
                (t.car n).lastLoad = some a.loaded ∧
                (t.car n).lastOdometer = some a.odometer ∧ (t.car n).returned = false)))) ∧
  (∀ (s : State) (n : CarriageName) (number : Nat),
    ((s.car n).state = .transferring → (s.car n).slot = none →
      s.takeReading n number = { s with carriages := s.carriages.set n { s.car n with slot := some number } }) ∧
    ((s.car n).state = .transferring → (s.car n).slot ≠ none →
      s.takeReading n number = { s with carriages := s.carriages.set n { s.car n with slotOverrun := true } }) ∧
    ((s.car n).state ≠ .transferring → s.takeReading n number = s.notifyAll (.strayRead n number))) ∧
  (∀ (s : State) (n : CarriageName) (prev : Option (Int × Nat)) (k : Nat), k ∈ s.missedGates n prev ↔
    ∃ dir p it p0 u0 g, s.moving n = true ∧ (s.car n).dir = some dir ∧ (s.car n).p = some p ∧ s.item n = some it ∧
      prev = some (p0, u0) ∧ s.gateInput n.corridor k ≠ none ∧ (s.gate n.corridor k).service = .inService ∧
      (s.gate n.corridor k).level = .clear ∧ s.layout.gatePos n.corridor k = some g ∧
      ((s.car n).u : Int) + (s.timing n.corridor).tol < frontPast dir p it.length g ∧
      frontPast dir p0 it.length g ≤ (u0 : Int) + (s.timing n.corridor).tol) ∧
  (∀ (s : State) (c : Corridor) (k : Nat),
    ((s.gate c k).misses < 2 →
      State.missGate c s k =
        { s with gates := s.gates.set c ((s.gates.get c).put k { s.gate c k with misses := (s.gate c k).misses + 1 }) }) ∧
    (2 ≤ (s.gate c k).misses →
      State.missGate c s k =
        ({ s with gates := s.gates.set c ((s.gates.get c).put k { s.gate c k with misses := 3, service := .outOfService }) } :
          State).notifyAll (.gateOut c k .missed))) ∧
  (∀ (s : State) (n : CarriageName),
    ((s.car n).dir = none → s.releaseBehind n = s) ∧
    ∀ dir r gone, (s.car n).dir = some dir → s.uncertain n = some r →
      gone = (match dir with | .south => s.heldRun n | .north => (s.heldRun n).reverse).takeWhile (fun k =>
        (s.layout.segSpan n.corridor k).any fun x : Int × Int =>
          match dir with | .south => decide (x.2 < r.1) | .north => decide (r.2 < x.1)) →
      ∃ u, s.releaseBehind n = State.retryAll n.corridor gone u ∧ u = { s with segments := u.segments } ∧
        ∀ c k, u.seg c k =
          if c = n.corridor ∧ k ∈ gone then
            { s.seg c k with
              running := if (s.seg c k).running.map (·.1) = some n then none else (s.seg c k).running
              standing := if (s.seg c k).standing = some n then none else (s.seg c k).standing }
          else s.seg c k) ∧
  ∀ (s : State) (n : CarriageName), OneCarriage s →
    (s.uncertain n = none → ∀ k, (s.seg n.corridor k).holds n = true →
      ((s.convert n).seg n.corridor k).standing = some n ∧ ((s.convert n).seg n.corridor k).running = none) ∧
    ∀ r, s.uncertain n = some r → ∀ k,
      n ∉ ((s.convert n).seg n.corridor k).waiting ∧
      ((s.seg n.corridor k).holds n = true → s.layout.segMeets n.corridor k r = true →
        ((s.convert n).seg n.corridor k).standing = some n ∧ ((s.convert n).seg n.corridor k).running = none) ∧
      ((s.seg n.corridor k).holds n = true → s.layout.segMeets n.corridor k r = false →
        ((s.convert n).seg n.corridor k).holds n = false) ∧
      ((s.seg n.corridor k).holds n = false → s.layout.segMeets n.corridor k r = true → s.segInUse n.corridor k = true →
        ((s.convert n).seg n.corridor k).standing = some n ∨
        (((s.convert n).seg n.corridor k).fence ≠ none ∧ ((s.convert n).seg n.corridor k).namesOther n = true))

/-- R145, R149: a window that closes without a valid answer: the recognizer returns to HUNT, a drive that is UP counts a miss, and at the
third its link is LOST and its carriage FAULTED, LINK_LOST or a kind of higher rank, with every segment it holds fenced and the speed
last reported kept (the model's field, log 42). The clock has then come to the window's close (log 3); without an exchange in flight the row
does nothing (the model's choice, log 4). -/
def Obligations.MissedExchangesLoseTheLink : Prop :=
  ∀ (s : State) (c : Corridor), s.powered = true →
    ((s.line c).inFlight = none → exec (.missedExchange c) s = .next s) ∧
    ∀ ex, (s.line c).inFlight = some ex →
      (ex.carriage = none →
        exec (.missedExchange c) s = .next (({ s with millis := max s.millis (ex.sentAt + 20) } : State).endExchange c)) ∧
      ∀ n, ex.carriage = some n →
        ∃ t, exec (.missedExchange c) s = .next t ∧ t.millis = max s.millis (ex.sentAt + 20) ∧ t.layout = s.layout ∧
          (t.car n).recognizer = .hunt 0 ∧ (t.car n).p = (s.car n).p ∧ (t.car n).speed = (s.car n).speed ∧
          ((s.car n).link = .lost → (t.car n).link = .lost ∧ (t.car n).misses = (s.car n).misses) ∧
          ((s.car n).link = .up → (s.car n).misses < 2 → (t.car n).link = .up ∧ (t.car n).misses = (s.car n).misses + 1) ∧
          ((s.car n).link = .up → 2 ≤ (s.car n).misses →
            (t.car n).link = .lost ∧ (t.car n).misses = 3 ∧ (t.car n).lostSpeed = (s.car n).speed ∧ (t.car n).state = .faulted ∧
            ((s.car n).state ≠ .faulted → (t.car n).faultKind = some .linkLost) ∧
            (∃ k, (t.car n).faultKind = some k ∧ FaultKind.rank .linkLost ≤ k.rank) ∧
            ∀ k ∈ s.heldRun n, (t.seg n.corridor k).fence ≠ none)

/-! ## Transfers and timeouts -/

/-- R135: a pull that brought the bench aboard: the bench has left the list and is ABOARD, the load is the bench, the order is CARRYING;
R137: a push that left the load EMPTY: the bench has joined the list at the mouth end, the load is EMPTY, the order has left the book.
An outcome that moved nothing ends the order FAILED with NOTHING_PULLED (the bench then DOUBTFUL), NOT_RELEASED or TRANSFER_FAILED, and
leaves list, place and load as they are and the carriage IDLE at the mouth. R136: where the bench that a LANE END pull brings aboard is
claimed by another live order, that order ends CANCELLED first, a carriage it holds on the other corridor being withdrawn (R75), and the
pull has its outcome after it, with the bench's claim. R130: a released lock passes to the waiting carriage, whose
transfer starts. R134: the identity that a reading gives the moved bench; DEPARTED of a pull and ARRIVED of a push are offered after the
IDENTITY event, where the bench is not VERIFIED (log 19). -/
def Obligations.TransfersMoveTheBench : Prop :=
  (∀ (slot : Option Nat) (b : Nat) (failed : Bool),
    State.readIdentity slot b failed =
      match slot with
      | none => .unread
      | some r => if r ≠ b then .doubtful (some r) else if failed = true then .unread else .verified) ∧
  (∀ (s u : State) (n : CarriageName) (tr : Transfer) (o : Order) (v : Bench) (failed : Bool) (ident : Identity),
    tr.kind = .pull → s.order? tr.order = some o → s.bench? tr.bench = some v → (v.claim = none ∨ v.claim = some tr.order) →
    (s.lane tr.lane).waiting = none → ident = State.readIdentity (s.car n).slot tr.bench failed →
    u = (if ident = .verified then s
      else s.offer ⟨.identity tr.bench ident, some n.corridor, some tr.lane, some tr.bench, none⟩) →
      (s.transferOutcome n tr failed true).links =
        (u.offer ⟨.departed tr.lane tr.bench, some n.corridor, some tr.lane, some tr.bench, none⟩).links) ∧
  (∀ (s w u : State) (n : CarriageName) (tr : Transfer) (v : Bench) (failed : Bool) (ident : Identity),
    tr.kind = .push → s.bench? tr.bench = some v → ident = State.readIdentity (s.car n).slot tr.bench failed →
    w = { s with
      lanes := s.lanes.put tr.lane
        { s.lane tr.lane with
          benches := if s.isBay tr.lane = true ∧ n.corridor = .t then (s.lane tr.lane).benches ++ [tr.bench]
            else tr.bench :: (s.lane tr.lane).benches
          incoming := (s.lane tr.lane).incoming - 1 }
      benches := s.benches.put tr.bench { v with place := .inLane tr.lane, identity := ident, lastMoved := s.seconds }
      carriages := s.carriages.set n { s.car n with load := .empty } } →
    u = (if ident = .verified then w
      else w.offer ⟨.identity tr.bench ident, some n.corridor, some tr.lane, some tr.bench, none⟩).offer
        ⟨.arrived tr.lane tr.bench, some n.corridor, some tr.lane, some tr.bench, none⟩ →
      s.transferOutcome n tr failed false =
        (((({ u with carriages := u.carriages.set n { u.car n with transfer := none, mark := none } } : State).endOrder tr.order .done
          none).becomeIdle n).releaseLock tr.lane).oweAt n.corridor tr.lane ∧
      ((s.transferOutcome n tr failed false).bench? tr.bench).map Bench.identity = some ident) ∧
  (∀ (s : State) (n : CarriageName) (tr : Transfer) (o : Order) (v : Bench) (failed : Bool),
    s.order? tr.order = some o → s.bench? tr.bench = some v → (v.claim = none ∨ v.claim = some tr.order) →
    (s.lane tr.lane).waiting = none →
    (tr.kind = .pull →
      ((s.transferOutcome n tr failed true).lane tr.lane).benches = (s.lane tr.lane).benches.erase tr.bench ∧
      ((s.transferOutcome n tr failed true).lane tr.lane).outgoing = (s.lane tr.lane).outgoing - 1 ∧
      ((s.transferOutcome n tr failed true).bench? tr.bench).map Bench.place = some (.aboard n) ∧
      ((s.transferOutcome n tr failed true).bench? tr.bench).map Bench.identity =
        some (State.readIdentity (s.car n).slot tr.bench failed) ∧
      ((s.transferOutcome n tr failed true).car n).load = .bench tr.bench ∧
      ((s.transferOutcome n tr failed true).car n).state = .running ∧
      ((s.transferOutcome n tr failed true).order? tr.order).map Order.phase = some .carrying) ∧
    (tr.kind = .push →
      ((s.transferOutcome n tr failed false).lane tr.lane).benches =
        (if s.isBay tr.lane = true ∧ n.corridor = .t then (s.lane tr.lane).benches ++ [tr.bench]
         else tr.bench :: (s.lane tr.lane).benches) ∧
      ((s.transferOutcome n tr failed false).lane tr.lane).incoming = (s.lane tr.lane).incoming - 1 ∧
      ((s.transferOutcome n tr failed false).bench? tr.bench).map Bench.place = some (.inLane tr.lane) ∧
      ((s.transferOutcome n tr failed false).car n).load = .empty ∧
      (s.transferOutcome n tr failed false).order? tr.order = none)) ∧
  (∀ (s s0 s1 t : State) (n : CarriageName) (tr : Transfer) (o q : Order) (v : Bench) (id k : Nat) (failed : Bool),
    tr.kind = .pull → s.order? tr.order = some o → o.source = .laneEnd k → s.bench? tr.bench = some v → v.claim = some id →
    id ≠ tr.order → s.order? id = some q →
    (∀ w, (s.lane tr.lane).waiting = some w → w ≠ n ∧ (s.car w).assigned ≠ some tr.order) →
    s1 = s.endOrder id .cancelled none →
    s0 = (match s.holder q with
      | some m => if m.corridor = n.corridor then s1 else s1.withdraw m
      | none => s1) →
    t = s.transferOutcome n tr failed true →
      t = s0.transferOutcome n tr failed true ∧ (∀ x ∈ t.book, x.id ≠ id) ∧
      (t.lane tr.lane).benches = (s.lane tr.lane).benches.erase tr.bench ∧
      t.bench? tr.bench = some { v with
        place := .aboard n, identity := State.readIdentity (s.car n).slot tr.bench failed, claim := some tr.order
        lastMoved := s.seconds } ∧
      (t.car n).load = .bench tr.bench ∧ (t.car n).state = .running ∧ (t.car n).transfer = none ∧
      (t.order? tr.order).map Order.phase = some .carrying ∧ (t.order? tr.order).map Order.bench = some (some tr.bench)) ∧
  (∀ (s t u : State) (n : CarriageName) (tr : Transfer) (v : Bench) (failed loaded : Bool) (reason : EndReason),
    s.bench? tr.bench = some v → (s.lane tr.lane).waiting = none →
    ((tr.kind = .pull ∧ loaded = false ∧ failed = false ∧ reason = .nothingPulled) ∨
      (tr.kind = .pull ∧ loaded = false ∧ failed = true ∧ reason = .transferFailed) ∨
      (tr.kind = .push ∧ loaded = true ∧ failed = false ∧ reason = .notReleased) ∨
      (tr.kind = .push ∧ loaded = true ∧ failed = true ∧ reason = .transferFailed)) →
    t = s.transferOutcome n tr failed loaded →
    u = (if reason = .nothingPulled then
          (s.setIdentity tr.bench (.doubtful none)).offer
            ⟨.identity tr.bench (.doubtful none), some n.corridor, some tr.lane, some tr.bench, none⟩
         else s) →
      t = ((((({ u with carriages := u.carriages.set n { u.car n with transfer := none, mark := none } } : State).endOrder
        tr.order .failed (some reason)).becomeIdle n).releaseLock tr.lane).oweAt n.corridor tr.lane) ∧
      (∀ q ∈ t.book, q.id ≠ tr.order) ∧ Idled (t.car n) ∧ (t.car n).load = (s.car n).load ∧ (t.car n).transfer = none ∧
      (t.car n).mark = none ∧ (t.lane tr.lane).benches = (s.lane tr.lane).benches ∧
      (t.bench? tr.bench).map Bench.place = some v.place ∧
      (t.bench? tr.bench).map Bench.identity = some (if reason = .nothingPulled then .doubtful none else v.identity)) ∧
  ∀ (s : State) (l : Nat),
    (s.isBay l = false → s.releaseLock l = s) ∧
    (s.isBay l = true → (s.lane l).waiting = none →
      s.releaseLock l = { s with lanes := s.lanes.put l { s.lane l with lock := none } }) ∧
    ∀ w, s.isBay l = true → (s.lane l).waiting = some w →
      ((s.releaseLock l).lane l).lock = some w.corridor ∧ ((s.releaseLock l).lane l).waiting = none ∧
      ∀ k id o b m, (s.car w).docked = some k → (s.car w).assigned = some id → s.order? id = some o →
        (if o.phase = .carrying then (s.car w).load = .bench b else s.endMost k w.corridor = some b) →
        s.mouth k w.corridor = some m →
        (s.releaseLock l).car w =
          { s.car w with
            slot := none, slotOverrun := false, docked := none, state := .transferring, mark := some ⟨k, w.corridor, b⟩
            transfer := some ⟨if o.phase = .carrying then .push else .pull, k, m.side, id, b, decide (o.phase = .carrying), s.millis⟩ }

/-- R112, R138: a homing timeout faults the carriage with HOMING_FAILED, a transfer timeout interrupts the transfer; where neither runs
the row does nothing (log 4); the clock has then come at least to the moment the row names (log 3). -/
def Obligations.TimeoutsFaultTheCarriage : Prop :=
  ∀ (s : State) (n : CarriageName), s.powered = true →
    (NothingOwed s → ((s.car n).state ≠ .homing ∨ s.hold n.corridor = true ∨ (s.car n).homing = none) →
      exec (.homingTimeout n) s = .next s) ∧
    (∀ h, (s.car n).state = .homing → s.hold n.corridor = false → (s.car n).homing = some h →
      ∃ t, exec (.homingTimeout n) s = .next t ∧
        t.millis = max s.millis (h.start + (if (s.car n).homings = 0 then 180000 else 90000)) ∧
        (t.car n).state = .faulted ∧ (t.car n).faultKind = some .homingFailed ∧ (t.car n).p = (s.car n).p ∧
        (t.car n).u = (s.car n).u ∧ t.layout = s.layout) ∧
    (NothingOwed s → ((s.car n).state ≠ .transferring ∨ (s.car n).transfer = none) → exec (.transferTimeout n) s = .next s) ∧
    (∀ tr, (s.car n).state = .transferring → (s.car n).transfer = some tr →
      ∃ t, exec (.transferTimeout n) s = .next t ∧ t.millis = max s.millis (tr.start + 60000) ∧
        (t.car n).state = .faulted ∧ (t.car n).faultKind = some .transferInterrupted ∧ (t.car n).load = .straddled ∧
        (t.car n).transfer = none ∧ (t.car n).mark = none ∧ t.layout = s.layout ∧ (∀ q ∈ t.book, q.id ≠ tr.order) ∧
        ∀ v, s.bench? tr.bench = some v → (t.bench? tr.bench).map Bench.place = some (.straddling n tr.lane n.corridor))
end

