-- ==== Sys2Proof/Laws/State.lean ====
section
/-! SUPPORT. One lemma for each field of State under each update of Machine/Ops.lean: what the update writes, and that it writes nothing
else; and the laws of the small containers. -/

namespace Sys2Proof

@[simp] theorem Two.get_set {α : Type} (x : Two α) (c d : Corridor) (v : α) :
    (x.set c v).get d = if d = c then v else x.get d := by cases c <;> cases d <;> rfl

@[simp] theorem Three.get_set {α : Type} (x : Three α) (c d : LinkId) (v : α) :
    (x.set c v).get d = if d = c then v else x.get d := by cases c <;> cases d <;> rfl

@[simp] theorem Six.get_set {α : Type} (x : Six α) (c d : CarriageName) (v : α) :
    (x.set c v).get d = if d = c then v else x.get d := by cases c <;> cases d <;> rfl

namespace Machine.State

@[simp] theorem setLane_powered (s : State) (k : Nat) (v : Lane) : (s.setLane k v).powered = s.powered := rfl
@[simp] theorem setLane_mode (s : State) (k : Nat) (v : Lane) : (s.setLane k v).mode = s.mode := rfl
@[simp] theorem setLane_layout (s : State) (k : Nat) (v : Lane) : (s.setLane k v).layout = s.layout := rfl
@[simp] theorem setLane_saved (s : State) (k : Nat) (v : Lane) : (s.setLane k v).saved = s.saved := rfl
@[simp] theorem setLane_storeBusy (s : State) (k : Nat) (v : Lane) : (s.setLane k v).storeBusy = s.storeBusy := rfl
@[simp] theorem setLane_retainedAgrees (s : State) (k : Nat) (v : Lane) : (s.setLane k v).retainedAgrees = s.retainedAgrees := rfl
@[simp] theorem setLane_millis (s : State) (k : Nat) (v : Lane) : (s.setLane k v).millis = s.millis := rfl
@[simp] theorem setLane_inputs (s : State) (k : Nat) (v : Lane) : (s.setLane k v).inputs = s.inputs := rfl
@[simp] theorem setLane_lanes (s : State) (k : Nat) (v : Lane) : (s.setLane k v).lanes = s.lanes.put k v := rfl
@[simp] theorem setLane_benches (s : State) (k : Nat) (v : Lane) : (s.setLane k v).benches = s.benches := rfl
@[simp] theorem setLane_book (s : State) (k : Nat) (v : Lane) : (s.setLane k v).book = s.book := rfl
@[simp] theorem setLane_nextId (s : State) (k : Nat) (v : Lane) : (s.setLane k v).nextId = s.nextId := rfl
@[simp] theorem setLane_carriages (s : State) (k : Nat) (v : Lane) : (s.setLane k v).carriages = s.carriages := rfl
@[simp] theorem setLane_segments (s : State) (k : Nat) (v : Lane) : (s.setLane k v).segments = s.segments := rfl
@[simp] theorem setLane_gates (s : State) (k : Nat) (v : Lane) : (s.setLane k v).gates = s.gates := rfl
@[simp] theorem setLane_lines (s : State) (k : Nat) (v : Lane) : (s.setLane k v).lines = s.lines := rfl
@[simp] theorem setLane_stops (s : State) (k : Nat) (v : Lane) : (s.setLane k v).stops = s.stops := rfl
@[simp] theorem setLane_links (s : State) (k : Nat) (v : Lane) : (s.setLane k v).links = s.links := rfl
@[simp] theorem setLane_owed (s : State) (k : Nat) (v : Lane) : (s.setLane k v).owed = s.owed := rfl
@[simp] theorem setLane_starting (s : State) (k : Nat) (v : Lane) : (s.setLane k v).starting = s.starting := rfl
@[simp] theorem setLane_free (s : State) (k : Nat) (v : Lane) : (s.setLane k v).free = s.free := rfl
@[simp] theorem setLane_pending (s : State) (k : Nat) (v : Lane) : (s.setLane k v).pending = s.pending := rfl

@[simp] theorem setBench_powered (s : State) (k : Nat) (v : Bench) : (s.setBench k v).powered = s.powered := rfl
@[simp] theorem setBench_mode (s : State) (k : Nat) (v : Bench) : (s.setBench k v).mode = s.mode := rfl
@[simp] theorem setBench_layout (s : State) (k : Nat) (v : Bench) : (s.setBench k v).layout = s.layout := rfl
@[simp] theorem setBench_saved (s : State) (k : Nat) (v : Bench) : (s.setBench k v).saved = s.saved := rfl
@[simp] theorem setBench_storeBusy (s : State) (k : Nat) (v : Bench) : (s.setBench k v).storeBusy = s.storeBusy := rfl
@[simp] theorem setBench_retainedAgrees (s : State) (k : Nat) (v : Bench) : (s.setBench k v).retainedAgrees = s.retainedAgrees := rfl
@[simp] theorem setBench_millis (s : State) (k : Nat) (v : Bench) : (s.setBench k v).millis = s.millis := rfl
@[simp] theorem setBench_inputs (s : State) (k : Nat) (v : Bench) : (s.setBench k v).inputs = s.inputs := rfl
@[simp] theorem setBench_lanes (s : State) (k : Nat) (v : Bench) : (s.setBench k v).lanes = s.lanes := rfl
@[simp] theorem setBench_benches (s : State) (k : Nat) (v : Bench) : (s.setBench k v).benches = s.benches.put k v := rfl
@[simp] theorem setBench_book (s : State) (k : Nat) (v : Bench) : (s.setBench k v).book = s.book := rfl
@[simp] theorem setBench_nextId (s : State) (k : Nat) (v : Bench) : (s.setBench k v).nextId = s.nextId := rfl
@[simp] theorem setBench_carriages (s : State) (k : Nat) (v : Bench) : (s.setBench k v).carriages = s.carriages := rfl
@[simp] theorem setBench_segments (s : State) (k : Nat) (v : Bench) : (s.setBench k v).segments = s.segments := rfl
@[simp] theorem setBench_gates (s : State) (k : Nat) (v : Bench) : (s.setBench k v).gates = s.gates := rfl
@[simp] theorem setBench_lines (s : State) (k : Nat) (v : Bench) : (s.setBench k v).lines = s.lines := rfl
@[simp] theorem setBench_stops (s : State) (k : Nat) (v : Bench) : (s.setBench k v).stops = s.stops := rfl
@[simp] theorem setBench_links (s : State) (k : Nat) (v : Bench) : (s.setBench k v).links = s.links := rfl
@[simp] theorem setBench_owed (s : State) (k : Nat) (v : Bench) : (s.setBench k v).owed = s.owed := rfl
@[simp] theorem setBench_starting (s : State) (k : Nat) (v : Bench) : (s.setBench k v).starting = s.starting := rfl
@[simp] theorem setBench_free (s : State) (k : Nat) (v : Bench) : (s.setBench k v).free = s.free := rfl
@[simp] theorem setBench_pending (s : State) (k : Nat) (v : Bench) : (s.setBench k v).pending = s.pending := rfl

@[simp] theorem modOrder_powered (s : State) (k : Nat) (g : Order → Order) : (s.modOrder k g).powered = s.powered := rfl
@[simp] theorem modOrder_mode (s : State) (k : Nat) (g : Order → Order) : (s.modOrder k g).mode = s.mode := rfl
@[simp] theorem modOrder_layout (s : State) (k : Nat) (g : Order → Order) : (s.modOrder k g).layout = s.layout := rfl
@[simp] theorem modOrder_saved (s : State) (k : Nat) (g : Order → Order) : (s.modOrder k g).saved = s.saved := rfl
@[simp] theorem modOrder_storeBusy (s : State) (k : Nat) (g : Order → Order) : (s.modOrder k g).storeBusy = s.storeBusy := rfl
@[simp] theorem modOrder_retainedAgrees (s : State) (k : Nat) (g : Order → Order) : (s.modOrder k g).retainedAgrees = s.retainedAgrees := rfl
@[simp] theorem modOrder_millis (s : State) (k : Nat) (g : Order → Order) : (s.modOrder k g).millis = s.millis := rfl
@[simp] theorem modOrder_inputs (s : State) (k : Nat) (g : Order → Order) : (s.modOrder k g).inputs = s.inputs := rfl
@[simp] theorem modOrder_lanes (s : State) (k : Nat) (g : Order → Order) : (s.modOrder k g).lanes = s.lanes := rfl
@[simp] theorem modOrder_benches (s : State) (k : Nat) (g : Order → Order) : (s.modOrder k g).benches = s.benches := rfl
@[simp] theorem modOrder_book (s : State) (k : Nat) (g : Order → Order) : (s.modOrder k g).book = s.book.map fun o => if o.id = k then g o else o := rfl
@[simp] theorem modOrder_nextId (s : State) (k : Nat) (g : Order → Order) : (s.modOrder k g).nextId = s.nextId := rfl
@[simp] theorem modOrder_carriages (s : State) (k : Nat) (g : Order → Order) : (s.modOrder k g).carriages = s.carriages := rfl
@[simp] theorem modOrder_segments (s : State) (k : Nat) (g : Order → Order) : (s.modOrder k g).segments = s.segments := rfl
@[simp] theorem modOrder_gates (s : State) (k : Nat) (g : Order → Order) : (s.modOrder k g).gates = s.gates := rfl
@[simp] theorem modOrder_lines (s : State) (k : Nat) (g : Order → Order) : (s.modOrder k g).lines = s.lines := rfl
@[simp] theorem modOrder_stops (s : State) (k : Nat) (g : Order → Order) : (s.modOrder k g).stops = s.stops := rfl
@[simp] theorem modOrder_links (s : State) (k : Nat) (g : Order → Order) : (s.modOrder k g).links = s.links := rfl
@[simp] theorem modOrder_owed (s : State) (k : Nat) (g : Order → Order) : (s.modOrder k g).owed = s.owed := rfl
@[simp] theorem modOrder_starting (s : State) (k : Nat) (g : Order → Order) : (s.modOrder k g).starting = s.starting := rfl
@[simp] theorem modOrder_free (s : State) (k : Nat) (g : Order → Order) : (s.modOrder k g).free = s.free := rfl
@[simp] theorem modOrder_pending (s : State) (k : Nat) (g : Order → Order) : (s.modOrder k g).pending = s.pending := rfl

@[simp] theorem setCar_powered (s : State) (n : CarriageName) (v : Carriage) : (s.setCar n v).powered = s.powered := rfl
@[simp] theorem setCar_mode (s : State) (n : CarriageName) (v : Carriage) : (s.setCar n v).mode = s.mode := rfl
@[simp] theorem setCar_layout (s : State) (n : CarriageName) (v : Carriage) : (s.setCar n v).layout = s.layout := rfl
@[simp] theorem setCar_saved (s : State) (n : CarriageName) (v : Carriage) : (s.setCar n v).saved = s.saved := rfl
@[simp] theorem setCar_storeBusy (s : State) (n : CarriageName) (v : Carriage) : (s.setCar n v).storeBusy = s.storeBusy := rfl
@[simp] theorem setCar_retainedAgrees (s : State) (n : CarriageName) (v : Carriage) : (s.setCar n v).retainedAgrees = s.retainedAgrees := rfl
@[simp] theorem setCar_millis (s : State) (n : CarriageName) (v : Carriage) : (s.setCar n v).millis = s.millis := rfl
@[simp] theorem setCar_inputs (s : State) (n : CarriageName) (v : Carriage) : (s.setCar n v).inputs = s.inputs := rfl
@[simp] theorem setCar_lanes (s : State) (n : CarriageName) (v : Carriage) : (s.setCar n v).lanes = s.lanes := rfl
@[simp] theorem setCar_benches (s : State) (n : CarriageName) (v : Carriage) : (s.setCar n v).benches = s.benches := rfl
@[simp] theorem setCar_book (s : State) (n : CarriageName) (v : Carriage) : (s.setCar n v).book = s.book := rfl
@[simp] theorem setCar_nextId (s : State) (n : CarriageName) (v : Carriage) : (s.setCar n v).nextId = s.nextId := rfl
@[simp] theorem setCar_carriages (s : State) (n : CarriageName) (v : Carriage) : (s.setCar n v).carriages = s.carriages.set n v := rfl
@[simp] theorem setCar_segments (s : State) (n : CarriageName) (v : Carriage) : (s.setCar n v).segments = s.segments := rfl
@[simp] theorem setCar_gates (s : State) (n : CarriageName) (v : Carriage) : (s.setCar n v).gates = s.gates := rfl
@[simp] theorem setCar_lines (s : State) (n : CarriageName) (v : Carriage) : (s.setCar n v).lines = s.lines := rfl
@[simp] theorem setCar_stops (s : State) (n : CarriageName) (v : Carriage) : (s.setCar n v).stops = s.stops := rfl
@[simp] theorem setCar_links (s : State) (n : CarriageName) (v : Carriage) : (s.setCar n v).links = s.links := rfl
@[simp] theorem setCar_owed (s : State) (n : CarriageName) (v : Carriage) : (s.setCar n v).owed = s.owed := rfl
@[simp] theorem setCar_starting (s : State) (n : CarriageName) (v : Carriage) : (s.setCar n v).starting = s.starting := rfl
@[simp] theorem setCar_free (s : State) (n : CarriageName) (v : Carriage) : (s.setCar n v).free = s.free := rfl
@[simp] theorem setCar_pending (s : State) (n : CarriageName) (v : Carriage) : (s.setCar n v).pending = s.pending := rfl

@[simp] theorem setSeg_powered (s : State) (c : Corridor) (k : Nat) (v : Segment) : (s.setSeg c k v).powered = s.powered := rfl
@[simp] theorem setSeg_mode (s : State) (c : Corridor) (k : Nat) (v : Segment) : (s.setSeg c k v).mode = s.mode := rfl
@[simp] theorem setSeg_layout (s : State) (c : Corridor) (k : Nat) (v : Segment) : (s.setSeg c k v).layout = s.layout := rfl
@[simp] theorem setSeg_saved (s : State) (c : Corridor) (k : Nat) (v : Segment) : (s.setSeg c k v).saved = s.saved := rfl
@[simp] theorem setSeg_storeBusy (s : State) (c : Corridor) (k : Nat) (v : Segment) : (s.setSeg c k v).storeBusy = s.storeBusy := rfl
@[simp] theorem setSeg_retainedAgrees (s : State) (c : Corridor) (k : Nat) (v : Segment) : (s.setSeg c k v).retainedAgrees = s.retainedAgrees := rfl
@[simp] theorem setSeg_millis (s : State) (c : Corridor) (k : Nat) (v : Segment) : (s.setSeg c k v).millis = s.millis := rfl
@[simp] theorem setSeg_inputs (s : State) (c : Corridor) (k : Nat) (v : Segment) : (s.setSeg c k v).inputs = s.inputs := rfl
@[simp] theorem setSeg_lanes (s : State) (c : Corridor) (k : Nat) (v : Segment) : (s.setSeg c k v).lanes = s.lanes := rfl
@[simp] theorem setSeg_benches (s : State) (c : Corridor) (k : Nat) (v : Segment) : (s.setSeg c k v).benches = s.benches := rfl
@[simp] theorem setSeg_book (s : State) (c : Corridor) (k : Nat) (v : Segment) : (s.setSeg c k v).book = s.book := rfl
@[simp] theorem setSeg_nextId (s : State) (c : Corridor) (k : Nat) (v : Segment) : (s.setSeg c k v).nextId = s.nextId := rfl
@[simp] theorem setSeg_carriages (s : State) (c : Corridor) (k : Nat) (v : Segment) : (s.setSeg c k v).carriages = s.carriages := rfl
@[simp] theorem setSeg_segments (s : State) (c : Corridor) (k : Nat) (v : Segment) : (s.setSeg c k v).segments = s.segments.set c ((s.segments.get c).put k v) := rfl
@[simp] theorem setSeg_gates (s : State) (c : Corridor) (k : Nat) (v : Segment) : (s.setSeg c k v).gates = s.gates := rfl
@[simp] theorem setSeg_lines (s : State) (c : Corridor) (k : Nat) (v : Segment) : (s.setSeg c k v).lines = s.lines := rfl
@[simp] theorem setSeg_stops (s : State) (c : Corridor) (k : Nat) (v : Segment) : (s.setSeg c k v).stops = s.stops := rfl
@[simp] theorem setSeg_links (s : State) (c : Corridor) (k : Nat) (v : Segment) : (s.setSeg c k v).links = s.links := rfl
@[simp] theorem setSeg_owed (s : State) (c : Corridor) (k : Nat) (v : Segment) : (s.setSeg c k v).owed = s.owed := rfl
@[simp] theorem setSeg_starting (s : State) (c : Corridor) (k : Nat) (v : Segment) : (s.setSeg c k v).starting = s.starting := rfl
@[simp] theorem setSeg_free (s : State) (c : Corridor) (k : Nat) (v : Segment) : (s.setSeg c k v).free = s.free := rfl
@[simp] theorem setSeg_pending (s : State) (c : Corridor) (k : Nat) (v : Segment) : (s.setSeg c k v).pending = s.pending := rfl

@[simp] theorem setGate_powered (s : State) (c : Corridor) (k : Nat) (v : Gate) : (s.setGate c k v).powered = s.powered := rfl
@[simp] theorem setGate_mode (s : State) (c : Corridor) (k : Nat) (v : Gate) : (s.setGate c k v).mode = s.mode := rfl
@[simp] theorem setGate_layout (s : State) (c : Corridor) (k : Nat) (v : Gate) : (s.setGate c k v).layout = s.layout := rfl
@[simp] theorem setGate_saved (s : State) (c : Corridor) (k : Nat) (v : Gate) : (s.setGate c k v).saved = s.saved := rfl
@[simp] theorem setGate_storeBusy (s : State) (c : Corridor) (k : Nat) (v : Gate) : (s.setGate c k v).storeBusy = s.storeBusy := rfl
@[simp] theorem setGate_retainedAgrees (s : State) (c : Corridor) (k : Nat) (v : Gate) : (s.setGate c k v).retainedAgrees = s.retainedAgrees := rfl
@[simp] theorem setGate_millis (s : State) (c : Corridor) (k : Nat) (v : Gate) : (s.setGate c k v).millis = s.millis := rfl
@[simp] theorem setGate_inputs (s : State) (c : Corridor) (k : Nat) (v : Gate) : (s.setGate c k v).inputs = s.inputs := rfl
@[simp] theorem setGate_lanes (s : State) (c : Corridor) (k : Nat) (v : Gate) : (s.setGate c k v).lanes = s.lanes := rfl
@[simp] theorem setGate_benches (s : State) (c : Corridor) (k : Nat) (v : Gate) : (s.setGate c k v).benches = s.benches := rfl
@[simp] theorem setGate_book (s : State) (c : Corridor) (k : Nat) (v : Gate) : (s.setGate c k v).book = s.book := rfl
@[simp] theorem setGate_nextId (s : State) (c : Corridor) (k : Nat) (v : Gate) : (s.setGate c k v).nextId = s.nextId := rfl
@[simp] theorem setGate_carriages (s : State) (c : Corridor) (k : Nat) (v : Gate) : (s.setGate c k v).carriages = s.carriages := rfl
@[simp] theorem setGate_segments (s : State) (c : Corridor) (k : Nat) (v : Gate) : (s.setGate c k v).segments = s.segments := rfl
@[simp] theorem setGate_gates (s : State) (c : Corridor) (k : Nat) (v : Gate) : (s.setGate c k v).gates = s.gates.set c ((s.gates.get c).put k v) := rfl
@[simp] theorem setGate_lines (s : State) (c : Corridor) (k : Nat) (v : Gate) : (s.setGate c k v).lines = s.lines := rfl
@[simp] theorem setGate_stops (s : State) (c : Corridor) (k : Nat) (v : Gate) : (s.setGate c k v).stops = s.stops := rfl
@[simp] theorem setGate_links (s : State) (c : Corridor) (k : Nat) (v : Gate) : (s.setGate c k v).links = s.links := rfl
@[simp] theorem setGate_owed (s : State) (c : Corridor) (k : Nat) (v : Gate) : (s.setGate c k v).owed = s.owed := rfl
@[simp] theorem setGate_starting (s : State) (c : Corridor) (k : Nat) (v : Gate) : (s.setGate c k v).starting = s.starting := rfl
@[simp] theorem setGate_free (s : State) (c : Corridor) (k : Nat) (v : Gate) : (s.setGate c k v).free = s.free := rfl
@[simp] theorem setGate_pending (s : State) (c : Corridor) (k : Nat) (v : Gate) : (s.setGate c k v).pending = s.pending := rfl

@[simp] theorem modLine_powered (s : State) (c : Corridor) (g : Line → Line) : (s.modLine c g).powered = s.powered := rfl
@[simp] theorem modLine_mode (s : State) (c : Corridor) (g : Line → Line) : (s.modLine c g).mode = s.mode := rfl
@[simp] theorem modLine_layout (s : State) (c : Corridor) (g : Line → Line) : (s.modLine c g).layout = s.layout := rfl
@[simp] theorem modLine_saved (s : State) (c : Corridor) (g : Line → Line) : (s.modLine c g).saved = s.saved := rfl
@[simp] theorem modLine_storeBusy (s : State) (c : Corridor) (g : Line → Line) : (s.modLine c g).storeBusy = s.storeBusy := rfl
@[simp] theorem modLine_retainedAgrees (s : State) (c : Corridor) (g : Line → Line) : (s.modLine c g).retainedAgrees = s.retainedAgrees := rfl
@[simp] theorem modLine_millis (s : State) (c : Corridor) (g : Line → Line) : (s.modLine c g).millis = s.millis := rfl
@[simp] theorem modLine_inputs (s : State) (c : Corridor) (g : Line → Line) : (s.modLine c g).inputs = s.inputs := rfl
@[simp] theorem modLine_lanes (s : State) (c : Corridor) (g : Line → Line) : (s.modLine c g).lanes = s.lanes := rfl
@[simp] theorem modLine_benches (s : State) (c : Corridor) (g : Line → Line) : (s.modLine c g).benches = s.benches := rfl
@[simp] theorem modLine_book (s : State) (c : Corridor) (g : Line → Line) : (s.modLine c g).book = s.book := rfl
@[simp] theorem modLine_nextId (s : State) (c : Corridor) (g : Line → Line) : (s.modLine c g).nextId = s.nextId := rfl
@[simp] theorem modLine_carriages (s : State) (c : Corridor) (g : Line → Line) : (s.modLine c g).carriages = s.carriages := rfl
@[simp] theorem modLine_segments (s : State) (c : Corridor) (g : Line → Line) : (s.modLine c g).segments = s.segments := rfl
@[simp] theorem modLine_gates (s : State) (c : Corridor) (g : Line → Line) : (s.modLine c g).gates = s.gates := rfl
@[simp] theorem modLine_lines (s : State) (c : Corridor) (g : Line → Line) : (s.modLine c g).lines = s.lines.set c (g (s.lines.get c)) := rfl
@[simp] theorem modLine_stops (s : State) (c : Corridor) (g : Line → Line) : (s.modLine c g).stops = s.stops := rfl
@[simp] theorem modLine_links (s : State) (c : Corridor) (g : Line → Line) : (s.modLine c g).links = s.links := rfl
@[simp] theorem modLine_owed (s : State) (c : Corridor) (g : Line → Line) : (s.modLine c g).owed = s.owed := rfl
@[simp] theorem modLine_starting (s : State) (c : Corridor) (g : Line → Line) : (s.modLine c g).starting = s.starting := rfl
@[simp] theorem modLine_free (s : State) (c : Corridor) (g : Line → Line) : (s.modLine c g).free = s.free := rfl
@[simp] theorem modLine_pending (s : State) (c : Corridor) (g : Line → Line) : (s.modLine c g).pending = s.pending := rfl

@[simp] theorem modStop_powered (s : State) (c : Corridor) (g : Stop → Stop) : (s.modStop c g).powered = s.powered := rfl
@[simp] theorem modStop_mode (s : State) (c : Corridor) (g : Stop → Stop) : (s.modStop c g).mode = s.mode := rfl
@[simp] theorem modStop_layout (s : State) (c : Corridor) (g : Stop → Stop) : (s.modStop c g).layout = s.layout := rfl
@[simp] theorem modStop_saved (s : State) (c : Corridor) (g : Stop → Stop) : (s.modStop c g).saved = s.saved := rfl
@[simp] theorem modStop_storeBusy (s : State) (c : Corridor) (g : Stop → Stop) : (s.modStop c g).storeBusy = s.storeBusy := rfl
@[simp] theorem modStop_retainedAgrees (s : State) (c : Corridor) (g : Stop → Stop) : (s.modStop c g).retainedAgrees = s.retainedAgrees := rfl
@[simp] theorem modStop_millis (s : State) (c : Corridor) (g : Stop → Stop) : (s.modStop c g).millis = s.millis := rfl
@[simp] theorem modStop_inputs (s : State) (c : Corridor) (g : Stop → Stop) : (s.modStop c g).inputs = s.inputs := rfl
@[simp] theorem modStop_lanes (s : State) (c : Corridor) (g : Stop → Stop) : (s.modStop c g).lanes = s.lanes := rfl
@[simp] theorem modStop_benches (s : State) (c : Corridor) (g : Stop → Stop) : (s.modStop c g).benches = s.benches := rfl
@[simp] theorem modStop_book (s : State) (c : Corridor) (g : Stop → Stop) : (s.modStop c g).book = s.book := rfl
@[simp] theorem modStop_nextId (s : State) (c : Corridor) (g : Stop → Stop) : (s.modStop c g).nextId = s.nextId := rfl
@[simp] theorem modStop_carriages (s : State) (c : Corridor) (g : Stop → Stop) : (s.modStop c g).carriages = s.carriages := rfl
@[simp] theorem modStop_segments (s : State) (c : Corridor) (g : Stop → Stop) : (s.modStop c g).segments = s.segments := rfl
@[simp] theorem modStop_gates (s : State) (c : Corridor) (g : Stop → Stop) : (s.modStop c g).gates = s.gates := rfl
@[simp] theorem modStop_lines (s : State) (c : Corridor) (g : Stop → Stop) : (s.modStop c g).lines = s.lines := rfl
@[simp] theorem modStop_stops (s : State) (c : Corridor) (g : Stop → Stop) : (s.modStop c g).stops = s.stops.set c (g (s.stops.get c)) := rfl
@[simp] theorem modStop_links (s : State) (c : Corridor) (g : Stop → Stop) : (s.modStop c g).links = s.links := rfl
@[simp] theorem modStop_owed (s : State) (c : Corridor) (g : Stop → Stop) : (s.modStop c g).owed = s.owed := rfl
@[simp] theorem modStop_starting (s : State) (c : Corridor) (g : Stop → Stop) : (s.modStop c g).starting = s.starting := rfl
@[simp] theorem modStop_free (s : State) (c : Corridor) (g : Stop → Stop) : (s.modStop c g).free = s.free := rfl
@[simp] theorem modStop_pending (s : State) (c : Corridor) (g : Stop → Stop) : (s.modStop c g).pending = s.pending := rfl

@[simp] theorem modLink_powered (s : State) (l : LinkId) (g : Link → Link) : (s.modLink l g).powered = s.powered := rfl
@[simp] theorem modLink_mode (s : State) (l : LinkId) (g : Link → Link) : (s.modLink l g).mode = s.mode := rfl
@[simp] theorem modLink_layout (s : State) (l : LinkId) (g : Link → Link) : (s.modLink l g).layout = s.layout := rfl
@[simp] theorem modLink_saved (s : State) (l : LinkId) (g : Link → Link) : (s.modLink l g).saved = s.saved := rfl
@[simp] theorem modLink_storeBusy (s : State) (l : LinkId) (g : Link → Link) : (s.modLink l g).storeBusy = s.storeBusy := rfl
@[simp] theorem modLink_retainedAgrees (s : State) (l : LinkId) (g : Link → Link) : (s.modLink l g).retainedAgrees = s.retainedAgrees := rfl
@[simp] theorem modLink_millis (s : State) (l : LinkId) (g : Link → Link) : (s.modLink l g).millis = s.millis := rfl
@[simp] theorem modLink_inputs (s : State) (l : LinkId) (g : Link → Link) : (s.modLink l g).inputs = s.inputs := rfl
@[simp] theorem modLink_lanes (s : State) (l : LinkId) (g : Link → Link) : (s.modLink l g).lanes = s.lanes := rfl
@[simp] theorem modLink_benches (s : State) (l : LinkId) (g : Link → Link) : (s.modLink l g).benches = s.benches := rfl
@[simp] theorem modLink_book (s : State) (l : LinkId) (g : Link → Link) : (s.modLink l g).book = s.book := rfl
@[simp] theorem modLink_nextId (s : State) (l : LinkId) (g : Link → Link) : (s.modLink l g).nextId = s.nextId := rfl
@[simp] theorem modLink_carriages (s : State) (l : LinkId) (g : Link → Link) : (s.modLink l g).carriages = s.carriages := rfl
@[simp] theorem modLink_segments (s : State) (l : LinkId) (g : Link → Link) : (s.modLink l g).segments = s.segments := rfl
@[simp] theorem modLink_gates (s : State) (l : LinkId) (g : Link → Link) : (s.modLink l g).gates = s.gates := rfl
@[simp] theorem modLink_lines (s : State) (l : LinkId) (g : Link → Link) : (s.modLink l g).lines = s.lines := rfl
@[simp] theorem modLink_stops (s : State) (l : LinkId) (g : Link → Link) : (s.modLink l g).stops = s.stops := rfl
@[simp] theorem modLink_links (s : State) (l : LinkId) (g : Link → Link) : (s.modLink l g).links = s.links.set l (g (s.links.get l)) := rfl
@[simp] theorem modLink_owed (s : State) (l : LinkId) (g : Link → Link) : (s.modLink l g).owed = s.owed := rfl
@[simp] theorem modLink_starting (s : State) (l : LinkId) (g : Link → Link) : (s.modLink l g).starting = s.starting := rfl
@[simp] theorem modLink_free (s : State) (l : LinkId) (g : Link → Link) : (s.modLink l g).free = s.free := rfl
@[simp] theorem modLink_pending (s : State) (l : LinkId) (g : Link → Link) : (s.modLink l g).pending = s.pending := rfl

@[simp] theorem owe_powered (s : State) (c : Corridor) : (s.owe c).powered = s.powered := rfl
@[simp] theorem owe_mode (s : State) (c : Corridor) : (s.owe c).mode = s.mode := rfl
@[simp] theorem owe_layout (s : State) (c : Corridor) : (s.owe c).layout = s.layout := rfl
@[simp] theorem owe_saved (s : State) (c : Corridor) : (s.owe c).saved = s.saved := rfl
@[simp] theorem owe_storeBusy (s : State) (c : Corridor) : (s.owe c).storeBusy = s.storeBusy := rfl
@[simp] theorem owe_retainedAgrees (s : State) (c : Corridor) : (s.owe c).retainedAgrees = s.retainedAgrees := rfl
@[simp] theorem owe_millis (s : State) (c : Corridor) : (s.owe c).millis = s.millis := rfl
@[simp] theorem owe_inputs (s : State) (c : Corridor) : (s.owe c).inputs = s.inputs := rfl
@[simp] theorem owe_lanes (s : State) (c : Corridor) : (s.owe c).lanes = s.lanes := rfl
@[simp] theorem owe_benches (s : State) (c : Corridor) : (s.owe c).benches = s.benches := rfl
@[simp] theorem owe_book (s : State) (c : Corridor) : (s.owe c).book = s.book := rfl
@[simp] theorem owe_nextId (s : State) (c : Corridor) : (s.owe c).nextId = s.nextId := rfl
@[simp] theorem owe_carriages (s : State) (c : Corridor) : (s.owe c).carriages = s.carriages := rfl
@[simp] theorem owe_segments (s : State) (c : Corridor) : (s.owe c).segments = s.segments := rfl
@[simp] theorem owe_gates (s : State) (c : Corridor) : (s.owe c).gates = s.gates := rfl
@[simp] theorem owe_lines (s : State) (c : Corridor) : (s.owe c).lines = s.lines := rfl
@[simp] theorem owe_stops (s : State) (c : Corridor) : (s.owe c).stops = s.stops := rfl
@[simp] theorem owe_links (s : State) (c : Corridor) : (s.owe c).links = s.links := rfl
@[simp] theorem owe_owed (s : State) (c : Corridor) : (s.owe c).owed = s.owed.set c true := rfl
@[simp] theorem owe_starting (s : State) (c : Corridor) : (s.owe c).starting = s.starting := rfl
@[simp] theorem owe_free (s : State) (c : Corridor) : (s.owe c).free = s.free := rfl
@[simp] theorem owe_pending (s : State) (c : Corridor) : (s.owe c).pending = s.pending := rfl

@[simp] theorem atLeast_powered (s : State) (m : Nat) : (s.atLeast m).powered = s.powered := rfl
@[simp] theorem atLeast_mode (s : State) (m : Nat) : (s.atLeast m).mode = s.mode := rfl
@[simp] theorem atLeast_layout (s : State) (m : Nat) : (s.atLeast m).layout = s.layout := rfl
@[simp] theorem atLeast_saved (s : State) (m : Nat) : (s.atLeast m).saved = s.saved := rfl
@[simp] theorem atLeast_storeBusy (s : State) (m : Nat) : (s.atLeast m).storeBusy = s.storeBusy := rfl
@[simp] theorem atLeast_retainedAgrees (s : State) (m : Nat) : (s.atLeast m).retainedAgrees = s.retainedAgrees := rfl
@[simp] theorem atLeast_millis (s : State) (m : Nat) : (s.atLeast m).millis = max s.millis m := rfl
@[simp] theorem atLeast_inputs (s : State) (m : Nat) : (s.atLeast m).inputs = s.inputs := rfl
@[simp] theorem atLeast_lanes (s : State) (m : Nat) : (s.atLeast m).lanes = s.lanes := rfl
@[simp] theorem atLeast_benches (s : State) (m : Nat) : (s.atLeast m).benches = s.benches := rfl
@[simp] theorem atLeast_book (s : State) (m : Nat) : (s.atLeast m).book = s.book := rfl
@[simp] theorem atLeast_nextId (s : State) (m : Nat) : (s.atLeast m).nextId = s.nextId := rfl
@[simp] theorem atLeast_carriages (s : State) (m : Nat) : (s.atLeast m).carriages = s.carriages := rfl
@[simp] theorem atLeast_segments (s : State) (m : Nat) : (s.atLeast m).segments = s.segments := rfl
@[simp] theorem atLeast_gates (s : State) (m : Nat) : (s.atLeast m).gates = s.gates := rfl
@[simp] theorem atLeast_lines (s : State) (m : Nat) : (s.atLeast m).lines = s.lines := rfl
@[simp] theorem atLeast_stops (s : State) (m : Nat) : (s.atLeast m).stops = s.stops := rfl
@[simp] theorem atLeast_links (s : State) (m : Nat) : (s.atLeast m).links = s.links := rfl
@[simp] theorem atLeast_owed (s : State) (m : Nat) : (s.atLeast m).owed = s.owed := rfl
@[simp] theorem atLeast_starting (s : State) (m : Nat) : (s.atLeast m).starting = s.starting := rfl
@[simp] theorem atLeast_free (s : State) (m : Nat) : (s.atLeast m).free = s.free := rfl
@[simp] theorem atLeast_pending (s : State) (m : Nat) : (s.atLeast m).pending = s.pending := rfl

end Machine.State

end Sys2Proof
end

