-- ==== Sys2Proof/Laws/Table.lean ====
section
/-! SUPPORT. The laws of Table: reading after putting, deleting and mapping, and the canonical form every operation keeps. -/

namespace Sys2Proof.Table

theorem getL_putL {α : Type} (l : List (Nat × α)) (n m : Nat) (v : α) :
    getL (putL l n v) m = if m = n then some v else getL l m := by
  induction l with
  | nil => simp [putL, getL]
  | cons e rest ih =>
    obtain ⟨k, w⟩ := e
    simp only [putL]
    split
    · simp [getL]
    · split
      · rename_i h1 h2; subst h2; simp only [getL]; split <;> simp_all
      · simp only [getL, ih]; split
        · rename_i h1 h2 h3; subst h3; simp [Ne.symm h2]
        · rfl

@[simp] theorem get?_put {α : Type} (t : Table α) (n m : Nat) (v : α) :
    (t.put n v).get? m = if m = n then some v else t.get? m := getL_putL t.entries n m v

theorem getL_delL {α : Type} (l : List (Nat × α)) (n m : Nat) :
    getL (delL l n) m = if m = n then none else getL l m := by
  induction l with
  | nil => simp [delL, getL]
  | cons e rest ih =>
    obtain ⟨k, w⟩ := e
    simp only [delL]
    split
    · rename_i h; subst h; rw [ih]; simp only [getL]; split <;> simp_all
    · simp only [getL, ih]; split
      · rename_i h1 h2; subst h2; simp [Ne.symm h1]
      · rfl

@[simp] theorem get?_del {α : Type} (t : Table α) (n m : Nat) :
    (t.del n).get? m = if m = n then none else t.get? m := getL_delL t.entries n m

theorem getL_map {α : Type} (g : Nat → α → α) (l : List (Nat × α)) (m : Nat) :
    getL (l.map fun e => (e.1, g e.1 e.2)) m = (getL l m).map (g m) := by
  induction l with
  | nil => rfl
  | cons e rest ih =>
    obtain ⟨k, w⟩ := e
    simp only [List.map_cons, getL, ih]; split
    · rename_i h; subst h; rfl
    · rfl

@[simp] theorem get?_mapValues {α : Type} (g : Nat → α → α) (t : Table α) (m : Nat) :
    (t.mapValues g).get? m = (t.get? m).map (g m) := getL_map g t.entries m

theorem risingFrom_mono {α : Type} (l : List (Nat × α)) (a b : Nat) (h : a ≤ b) (hb : risingFrom b l = true) :
    risingFrom a l = true := by
  cases l with
  | nil => rfl
  | cons e rest =>
    obtain ⟨k, w⟩ := e
    simp only [risingFrom, Bool.and_eq_true, decide_eq_true_eq] at *
    exact ⟨Nat.le_trans h hb.1, hb.2⟩

theorem risingFrom_putL {α : Type} (l : List (Nat × α)) (b n : Nat) (v : α) (hn : b ≤ n) (h : risingFrom b l = true) :
    risingFrom b (putL l n v) = true := by
  induction l generalizing b with
  | nil => simp [putL, risingFrom, hn]
  | cons e rest ih =>
    obtain ⟨k, w⟩ := e
    simp only [risingFrom, Bool.and_eq_true, decide_eq_true_eq] at h
    simp only [putL]
    split
    · simp only [risingFrom, Bool.and_eq_true, decide_eq_true_eq]; exact ⟨hn, by omega, h.2⟩
    · split
      · rename_i h1 h2; subst h2; simp only [risingFrom, Bool.and_eq_true, decide_eq_true_eq]; exact ⟨hn, h.2⟩
      · simp only [risingFrom, Bool.and_eq_true, decide_eq_true_eq]; exact ⟨h.1, ih (k + 1) (by omega) h.2⟩

theorem wf_put {α : Type} (t : Table α) (n : Nat) (v : α) (h : t.wf = true) : (t.put n v).wf = true :=
  risingFrom_putL t.entries 0 n v (Nat.zero_le n) h

theorem risingFrom_delL {α : Type} (l : List (Nat × α)) (b n : Nat) (h : risingFrom b l = true) :
    risingFrom b (delL l n) = true := by
  induction l generalizing b with
  | nil => rfl
  | cons e rest ih =>
    obtain ⟨k, w⟩ := e
    simp only [risingFrom, Bool.and_eq_true, decide_eq_true_eq] at h
    simp only [delL]
    split
    · exact risingFrom_mono _ b (k + 1) (by omega) (ih (k + 1) h.2)
    · simp only [risingFrom, Bool.and_eq_true, decide_eq_true_eq]; exact ⟨h.1, ih (k + 1) h.2⟩

theorem wf_del {α : Type} (t : Table α) (n : Nat) (h : t.wf = true) : (t.del n).wf = true :=
  risingFrom_delL t.entries 0 n h

theorem risingFrom_map {α : Type} (g : Nat → α → α) (l : List (Nat × α)) (b : Nat) :
    risingFrom b (l.map fun e => (e.1, g e.1 e.2)) = risingFrom b l := by
  induction l generalizing b with
  | nil => rfl
  | cons e rest ih => obtain ⟨k, w⟩ := e; simp only [List.map_cons, risingFrom, ih]

theorem wf_mapValues {α : Type} (g : Nat → α → α) (t : Table α) : (t.mapValues g).wf = t.wf :=
  risingFrom_map g t.entries 0

end Sys2Proof.Table
end

