-- ==== Sys2Proof/Laws/Frames.lean ====
section
/-! SUPPORT. What an allocator run, and so the end of every event, leaves alone: the relation Calm, and one lemma for each operation a
run is made of. -/

namespace Sys2Proof.Machine

namespace Calm

theorem refl (s : State) : Calm s s := ⟨rfl, fun _ => rfl, fun _ => rfl, fun _ => rfl, rfl⟩

theorem trans {s t u : State} (h : Calm s t) (k : Calm t u) : Calm s u :=
  ⟨k.still.trans h.still, fun n => (k.lanes n).trans (h.lanes n), fun l => (k.ports l).trans (h.ports l),
    fun n => (k.cars n).trans (h.cars n), k.orders.trans h.orders⟩

theorem foldl {α : Type} (f : State → α → State) (hf : ∀ t a, Calm t (f t a)) (l : List α) (s : State) : Calm s (l.foldl f s) := by
  induction l generalizing s with
  | nil => exact refl s
  | cons a rest ih => exact (hf s a).trans (ih (f s a))

theorem modCar (s : State) (n : CarriageName) (g : Carriage → Carriage) (hg : ∀ v, (g v).stand = v.stand) : Calm s (s.modCar n g) := by
  refine ⟨rfl, fun _ => rfl, fun _ => rfl, fun m => ?_, rfl⟩
  simp only [State.car, State.modCar, State.setCar, Six.get_set]
  split
  · rename_i h; subst h; exact hg _
  · rfl

theorem modOrder (s : State) (id : Nat) (g : Order → Order) (hg : ∀ o, (g o).stand = o.stand) : Calm s (s.modOrder id g) := by
  refine ⟨rfl, fun _ => rfl, fun _ => rfl, fun _ => rfl, ?_⟩
  simp only [State.modOrder, List.map_map]
  apply List.map_congr_left
  intro o _
  simp only [Function.comp]
  split
  · exact hg o
  · rfl

theorem owe (s : State) (c : Corridor) : Calm s (s.owe c) := ⟨rfl, fun _ => rfl, fun _ => rfl, fun _ => rfl, rfl⟩

theorem unwait (s : State) (n : CarriageName) : Calm s (s.unwait n) := ⟨rfl, fun _ => rfl, fun _ => rfl, fun _ => rfl, rfl⟩

theorem unwaitAll (s : State) (c : Corridor) : Calm s (s.unwaitAll c) := ⟨rfl, fun _ => rfl, fun _ => rfl, fun _ => rfl, rfl⟩

theorem owed (s : State) (x : Two Bool) : Calm s { s with owed := x } := ⟨rfl, fun _ => rfl, fun _ => rfl, fun _ => rfl, rfl⟩

/-- A lane whose waiting carriage alone changes. -/
theorem lane_waiting (s : State) (k : Nat) (w : Option CarriageName) : Calm s (s.modLane k fun v => { v with waiting := w }) := by
  refine ⟨rfl, fun n => ?_, fun _ => rfl, fun _ => rfl, rfl⟩
  simp only [State.laneStand, State.lane, State.modLane, State.setLane, Table.get?_put]
  split
  · rename_i h; subst h; rfl
  · rfl

theorem notify (s : State) (l : LinkId) (b : NoticeBody) (f : Option (List Nat)) : Calm s (s.notify l b f) := by
  refine ⟨rfl, fun _ => rfl, fun m => ?_, fun _ => rfl, rfl⟩
  simp only [State.portStand, State.link, State.notify, State.modLink, Three.get_set]
  split
  · rename_i h; subst h; simp only [Link.enqueue]; split <;> rfl
  · rfl

theorem notifyAll (s : State) (b : NoticeBody) : Calm s (s.notifyAll b) :=
  ((notify s .l1 b none).trans (notify _ .l2 b none)).trans (notify _ .l3 b none)

theorem offerOn (s : State) (o : Offer) (l : LinkId) : Calm s (s.offerOn o l) := by
  simp only [State.offerOn]; split
  · exact notify ..
  · split
    · exact refl s
    · exact notify ..

theorem offer (s : State) (o : Offer) : Calm s (s.offer o) :=
  ((offerOn s o .l1).trans (offerOn _ o .l2)).trans (offerOn _ o .l3)

theorem beginLeg (s : State) (n : CarriageName) (t : Int) : Calm s (s.beginLeg n t) := modCar _ _ _ (by intro _; rfl)

theorem giveShift (w : Option Work) (s : State) (h : Shift) : Calm s (giveShift w s h) := (modCar s _ _ (by intro _; rfl)).trans (beginLeg ..)

theorem giveShifts (w : Option Work) (l : List Shift) (s : State) : Calm s (giveShifts w l s) := foldl _ (giveShift w) l s

theorem withdrawWait (s : State) (n : CarriageName) : Calm s (s.withdrawWait n) := by
  simp only [State.withdrawWait]; split
  · split
    · exact lane_waiting ..
    · exact refl s
  · exact refl s

theorem shiftFailed (s : State) (n : CarriageName) : Calm s (s.shiftFailed n) := by
  simp only [State.shiftFailed]; split
  · exact owe ..
  · refine Calm.trans ?_ ((modCar _ _ _ (by intro _; rfl)).trans (owe ..))
    split
    · exact modOrder _ _ _ (by intro _; rfl)
    · exact refl s

theorem enterFaulted (s : State) (n : CarriageName) (k : FaultKind) (code : Option Nat) : Calm s (s.enterFaulted n k code) := by
  simp only [State.enterFaulted]
  refine Calm.trans ?_ (owe ..)
  have h : Calm s (((s.withdrawWait n).unwait n).modCar n fun v =>
    { v with
      state := .faulted, faultKind := some k, faultCode := code, remembered := none, task := none, leg := none
      homing := none, docked := none }) := ((withdrawWait s n).trans (unwait ..)).trans (modCar _ _ _ (by intro _; rfl))
  split
  · exact h.trans (shiftFailed ..)
  · exact h

theorem enterHoming (s : State) (n : CarriageName) : Calm s (s.enterHoming n) := by
  simp only [State.enterHoming]; split
  · exact modCar _ _ _ (by intro _; rfl)
  · exact (enterFaulted ..).trans (notifyAll ..)

theorem startOrder (s : State) (n : CarriageName) : Calm s (s.startOrder n) := by
  simp only [State.startOrder]
  split
  · exact refl s
  · split
    · exact ((modOrder s _ _ (by intro _; rfl)).trans (modCar _ _ _ (by intro _; rfl))).trans (beginLeg ..)
    · exact (modOrder s _ _ (by intro _; rfl)).trans (modCar _ _ _ (by intro _; rfl))

theorem tryHoming (s : State) (n : CarriageName) : Calm s (s.tryHoming n) := by
  simp only [State.tryHoming]; split
  · split
    · exact refl s
    · split
      · exact refl s
      · split
        · exact refl s
        · split
          · exact (modCar s _ _ (by intro _; rfl)).trans (enterHoming ..)
          · exact (modCar s _ _ (by intro _; rfl)).trans (giveShifts ..)
  · exact refl s

theorem tryOrder (s : State) (id : Nat) : Calm s (s.tryOrder id) := by
  simp only [State.tryOrder]; split
  · exact refl s
  · split
    · split
      · exact refl s
      · split
        · exact refl s
        · split
          · exact refl s
          · split
            · exact ((modCar s _ _ (by intro _; rfl)).trans (modOrder _ _ _ (by intro _; rfl))).trans (startOrder ..)
            · exact ((modCar s _ _ (by intro _; rfl)).trans (modOrder _ _ _ (by intro _; rfl))).trans (giveShifts ..)
    · exact refl s

theorem allocate (s : State) (c : Corridor) : Calm s (s.allocate c) := by
  simp only [State.allocate]; split
  · exact refl s
  · exact (foldl _ tryHoming _ s).trans (foldl _ tryOrder _ _)

theorem settleRounds (k : Nat) (s : State) : Calm s (State.settleRounds k s) := by
  induction k generalizing s with
  | zero => exact owed ..
  | succ k ih =>
    simp only [State.settleRounds]; split
    · refine Calm.trans ?_ (ih _)
      have h0 := owed s ⟨false, false⟩
      have h1 : Calm s (if s.owed.f then ({ s with owed := ⟨false, false⟩ } : State).allocate .f else { s with owed := ⟨false, false⟩ }) := by
        split
        · exact h0.trans (allocate ..)
        · exact h0
      split
      · exact h1.trans (allocate ..)
      · exact h1
    · exact refl s

theorem settle (s : State) : Calm s s.settle := settleRounds 8 s

theorem holdEnded (b s : State) (c : Corridor) : Calm s (b.holdEnded s c) := by
  simp only [State.holdEnded]; split
  · exact (foldl _ (fun t n => modCar t n _ (by intro v; split <;> rfl)) _ s).trans (owe ..)
  · exact refl s

theorem holdBegan (b s : State) (c : Corridor) : Calm s (b.holdBegan s c) := by
  simp only [State.holdBegan]; split
  · exact unwaitAll ..
  · exact refl s

/-- What the end of an event leaves alone. -/
theorem finish (b s : State) : Calm s (b.finish s) :=
  ((((holdEnded b s .f).trans (holdEnded ..)).trans (settle ..)).trans (holdBegan ..)).trans (holdBegan ..)

/-! The track. -/

theorem setSeg (s : State) (c : Corridor) (k : Nat) (v : Segment) : Calm s (s.setSeg c k v) :=
  ⟨rfl, fun _ => rfl, fun _ => rfl, fun _ => rfl, rfl⟩

theorem modSeg (s : State) (c : Corridor) (k : Nat) (g : Segment → Segment) : Calm s (s.modSeg c k g) := setSeg ..

theorem offerFence (s : State) (c : Corridor) (k : Nat) (b : Bool) (f : Fence) : Calm s (s.offerFence c k b f) := offer ..

theorem setFence (s : State) (c : Corridor) (k : Nat) (f : Fence) : Calm s (s.setFence c k f) := by
  simp only [State.setFence]; split
  · exact (modSeg ..).trans (offerFence ..)
  · exact refl s

theorem liftFence (s : State) (c : Corridor) (k : Nat) : Calm s (s.liftFence c k) := by
  simp only [State.liftFence]; split
  · exact (modSeg ..).trans (offerFence ..)
  · exact refl s

theorem waitAt (s : State) (n : CarriageName) (k : Nat) : Calm s (s.waitAt n k) := (unwait ..).trans (modSeg ..)

theorem judge (n : CarriageName) (dir : Dir) (l : List Nat) (s : State) : Calm s (State.judge n dir l s).1 := by
  induction l generalizing s with
  | nil => exact refl s
  | cons k rest ih =>
    simp only [State.judge]; split
    · exact (modSeg s ..).trans (ih _)
    · split
      · split
        · exact (modSeg s ..).trans (ih _)
        · split
          · exact (setFence ..).trans (ih _)
          · exact ih _
      · exact refl s

theorem askShift (s : State) (n : CarriageName) (k : Nat) : Calm s (s.askShift n k) := by
  simp only [State.askShift]; split
  · split
    · split
      · exact giveShifts ..
      · exact refl s
    · exact refl s
  · exact refl s

theorem grantRequest (s : State) (n : CarriageName) : Calm s (s.grantRequest n) := by
  simp only [State.grantRequest]
  split
  · split
    · exact unwait ..
    · split
      · rename_i it p leg _ _ _
        have h1 : Calm s (s.modCar n fun w =>
            { w with
              horizon := some (s.requestStretch n leg p it).1
              requestList := s.requestList n leg.dir (s.requestStretch n leg p it).2 }) := modCar _ _ _ (by intro _; rfl)
        have h2 := judge n leg.dir (s.requestList n leg.dir (s.requestStretch n leg p it).2) (s.modCar n fun w =>
            { w with
              horizon := some (s.requestStretch n leg p it).1
              requestList := s.requestList n leg.dir (s.requestStretch n leg p it).2 })
        split
        · rename_i s2 heq; rw [heq] at h2; exact (h1.trans h2).trans (unwait ..)
        · rename_i s2 k heq; rw [heq] at h2; exact ((h1.trans h2).trans (waitAt ..)).trans (askShift ..)
      · exact unwait ..
  · exact refl s

theorem free (s : State) (k : Nat) : Calm s { s with free := k } := ⟨rfl, fun _ => rfl, fun _ => rfl, fun _ => rfl, rfl⟩

theorem retry (s : State) (c : Corridor) (k : Nat) : Calm s (s.retry c k) := by
  simp only [State.retry]; split
  · exact refl s
  · exact grantRequest ..
  · split
    · exact ((free s _).trans (grantRequest ..)).trans (grantRequest ..)
    · exact ((free s _).trans (grantRequest ..)).trans (grantRequest ..)

theorem retryAll (c : Corridor) (l : List Nat) (s : State) : Calm s (State.retryAll c l s) := foldl _ (fun t k => retry t c k) l s

theorem clearLayers (s : State) (n : CarriageName) (l : List Nat) : Calm s (s.clearLayers n l) :=
  foldl _ (fun t k => modSeg t n.corridor k _) l s

theorem releaseBehind (s : State) (n : CarriageName) : Calm s (s.releaseBehind n) := by
  simp only [State.releaseBehind]; split
  · exact (clearLayers ..).trans (retryAll ..)
  · exact refl s

theorem seatOne (n : CarriageName) (s : State) (k : Nat) : Calm s (State.seatOne n s k) := by
  simp only [State.seatOne]; split
  · exact setFence ..
  · exact modSeg ..

theorem toStanding (n : CarriageName) (s : State) (k : Nat) : Calm s (State.toStanding n s k) := modSeg ..

theorem convert (s : State) (n : CarriageName) : Calm s (s.convert n) := by
  simp only [State.convert]; split
  · exact ((foldl _ (toStanding n) _ s).trans (unwait ..)).trans (retryAll ..)
  · exact ((((clearLayers ..).trans (foldl _ (toStanding n) _ _)).trans (unwait ..)).trans (retryAll ..)).trans
      (foldl _ (seatOne n) _ _)

theorem seat (s : State) (n : CarriageName) : Calm s (s.seat n) := by
  simp only [State.seat]; split
  · exact ((clearLayers ..).trans (unwait ..)).trans (retryAll ..)
  · split
    · exact ((clearLayers ..).trans (unwait ..)).trans (retryAll ..)
    · exact (((clearLayers ..).trans (unwait ..)).trans (foldl _ (seatOne n) _ _)).trans (retryAll ..)

theorem startWork (s : State) (n : CarriageName) : Calm s (s.startWork n) := by
  simp only [State.startWork]; split
  · split
    · exact startOrder ..
    · exact enterHoming ..
    · exact refl s
  · exact refl s

theorem endShift (s : State) (n : CarriageName) : Calm s (s.endShift n) := by
  simp only [State.endShift]; split
  · exact owe ..
  · rename_i w _
    have h : Calm s ((s.owe n.corridor).modCar w fun v =>
        { v with task := v.task.map fun k => { k with waitingFor := k.waitingFor.filter fun m => decide (m ≠ n) } }) :=
      (owe s n.corridor).trans (modCar _ _ _ (by intro _; rfl))
    split
    · split
      · exact h.trans (startWork ..)
      · exact h
    · exact h

theorem becomeIdle (s : State) (n : CarriageName) : Calm s (s.becomeIdle n) := by
  simp only [State.becomeIdle]
  have h : Calm s (((s.modCar n fun v =>
    { v with state := .idle, remembered := none, task := none, leg := none, docked := none }).convert n).owe n.corridor) :=
    ((modCar _ _ _ (by intro _; rfl)).trans (convert ..)).trans (owe ..)
  split
  · exact h.trans (endShift ..)
  · exact h

theorem withdraw (s : State) (n : CarriageName) : Calm s (s.withdraw n) := by
  simp only [State.withdraw]; split
  · exact modCar _ _ _ (by intro _; rfl)
  · exact (withdrawWait ..).trans (becomeIdle ..)
  · exact modCar _ _ _ (by intro _; rfl)
  · exact refl s

theorem fenceHeld (s : State) (n : CarriageName) : Calm s (s.fenceHeld n) :=
  foldl _ (fun t k => setFence t n.corridor k _) _ s

/-! Reading a calm change. -/

variable {s t : State} (h : Calm s t)
include h

theorem powered : t.powered = s.powered := congrArg Still.powered h.still
theorem mode : t.mode = s.mode := congrArg Still.mode h.still
theorem layout : t.layout = s.layout := congrArg Still.layout h.still
theorem saved : t.saved = s.saved := congrArg Still.saved h.still
theorem storeBusy : t.storeBusy = s.storeBusy := congrArg Still.storeBusy h.still
theorem retainedAgrees : t.retainedAgrees = s.retainedAgrees := congrArg Still.retainedAgrees h.still
theorem millis : t.millis = s.millis := congrArg Still.millis h.still
theorem benches : t.benches = s.benches := congrArg Still.benches h.still
theorem gates : t.gates = s.gates := congrArg Still.gates h.still
theorem lines : t.lines = s.lines := congrArg Still.lines h.still
theorem stops : t.stops = s.stops := congrArg Still.stops h.still
theorem nextId : t.nextId = s.nextId := congrArg Still.nextId h.still
theorem pending : t.pending = s.pending := congrArg Still.pending h.still
theorem seconds : t.seconds = s.seconds := by simp only [State.seconds, h.millis]
theorem answer (l : LinkId) : (t.link l).answer = (s.link l).answer :=
  congrArg (fun x => x.2.2.2.2.1) (h.ports l)
theorem outstanding (l : LinkId) : (t.link l).outstanding = (s.link l).outstanding :=
  congrArg (fun x => x.2.1) (h.ports l)
theorem overrun (l : LinkId) : (t.link l).overrun = (s.link l).overrun :=
  congrArg (fun x => x.2.2.1) (h.ports l)
theorem badLines (l : LinkId) : (t.link l).badLines = (s.link l).badLines :=
  congrArg (fun x => x.2.2.2.1) (h.ports l)
theorem noticesFollow (l : LinkId) : (t.link l).noticesFollow = (s.link l).noticesFollow :=
  congrArg (fun x => x.2.2.2.2.2.1) (h.ports l)
theorem load (n : CarriageName) : (t.car n).load = (s.car n).load :=
  show (t.car n).stand.load = (s.car n).stand.load from congrArg Carriage.load (h.cars n)
theorem p (n : CarriageName) : (t.car n).p = (s.car n).p :=
  show (t.car n).stand.p = (s.car n).stand.p from congrArg Carriage.p (h.cars n)
theorem u (n : CarriageName) : (t.car n).u = (s.car n).u :=
  show (t.car n).stand.u = (s.car n).stand.u from congrArg Carriage.u (h.cars n)
theorem list (n : Nat) : (t.lane n).benches = (s.lane n).benches := congrArg (fun x => x.1) (h.lanes n)
theorem incoming (n : Nat) : (t.lane n).incoming = (s.lane n).incoming := congrArg (fun x => x.2.1) (h.lanes n)
theorem outgoing (n : Nat) : (t.lane n).outgoing = (s.lane n).outgoing := congrArg (fun x => x.2.2.1) (h.lanes n)
theorem lock (n : Nat) : (t.lane n).lock = (s.lane n).lock := congrArg (fun x => x.2.2.2) (h.lanes n)

end Calm

end Sys2Proof.Machine
end

