-- ==== Sys2Proof/Laws/Events.lean ====
section
/-! SUPPORT. The end of an event: it leaves no run owed, and it changes nothing where no run is owed and no hold has begun or ended. -/

namespace Sys2Proof.Machine.State

theorem settleRounds_of_nothingOwed (k : Nat) (s : State) (h : NothingOwed s) : settleRounds k s = s := by
  cases k with
  | zero => cases s; simp only [NothingOwed] at h; subst h; rfl
  | succ k => simp only [settleRounds]; rw [h]; simp

theorem settleRounds_nothingOwed (k : Nat) (s : State) : NothingOwed (settleRounds k s) := by
  induction k generalizing s with
  | zero => rfl
  | succ k ih =>
    simp only [settleRounds]; split
    · exact ih _
    · rename_i h
      simp only [Bool.or_eq_true, not_or, Bool.not_eq_true] at h
      simp only [NothingOwed]; obtain ⟨h1, h2⟩ := h
      cases hs : s.owed; rw [hs] at h1 h2; simp_all

/-- Runs that are not owed change nothing. -/
theorem settle_of_nothingOwed (s : State) (h : NothingOwed s) : s.settle = s := settleRounds_of_nothingOwed 8 s h

theorem settle_nothingOwed (s : State) : NothingOwed s.settle := settleRounds_nothingOwed 8 s

theorem holdEnded_of_same (b s : State) (c : Corridor) (h : b.hold c = s.hold c) : b.holdEnded s c = s := by
  simp only [holdEnded, h, Bool.and_not_self, Bool.false_eq_true, if_false]

theorem holdBegan_of_same (b s : State) (c : Corridor) (h : b.hold c = s.hold c) : b.holdBegan s c = s := by
  simp only [holdBegan, h, Bool.not_and_self, Bool.false_eq_true, if_false]

/-- An event that owes no run and begins or ends no hold ends as it stands. -/
theorem finish_of_same (b s : State) (ho : NothingOwed s) (hh : ∀ c, b.hold c = s.hold c) : b.finish s = s := by
  simp only [finish]
  rw [holdEnded_of_same b s .f (hh .f), holdEnded_of_same b s .t (hh .t), settle_of_nothingOwed s ho,
    holdBegan_of_same b s .f (hh .f), holdBegan_of_same b s .t (hh .t)]

theorem holdBegan_owed (b s : State) (c : Corridor) : (b.holdBegan s c).owed = s.owed := by
  simp only [holdBegan]; split <;> rfl

/-- Every event ends with no run owed. -/
theorem finish_nothingOwed (b s : State) : NothingOwed (b.finish s) := by
  simp only [NothingOwed, finish, holdBegan_owed]; exact settle_nothingOwed _

end Sys2Proof.Machine.State
end

