-- ==== Sys2Proof/Laws/Allocator.lean ====
section
/-! SUPPORT. An allocator run leaves a carriage that is neither IDLE nor UNHOMED to what it is doing, and the layers of every segment as
they are. -/

namespace Sys2Proof.Machine

namespace Steady

theorem refl (s : State) : Steady s s := fun _ _ _ => rfl

theorem trans {s t u : State} (h : Steady s t) (k : Steady t u) : Steady s u := by
  intro n h1 h2
  have e := h n h1 h2
  have es : (t.car n).state = (s.car n).state := congrArg (fun x => x.1) e
  exact (k n (by rw [es]; exact h1) (by rw [es]; exact h2)).trans e

theorem of_cars {s t : State} (h : t.carriages = s.carriages) : Steady s t := by
  intro n _ _; simp only [State.car, h]

/-- A change of a carriage's record that leaves what it is doing. -/
theorem modCar_same (s : State) (n : CarriageName) (g : Carriage → Carriage) (hg : ∀ v, (g v).doing = v.doing) :
    Steady s (s.modCar n g) := by
  intro m _ _
  simp only [State.car, State.modCar, State.setCar, Six.get_set]
  split
  · rename_i h; subst h; exact hg _
  · rfl

/-- A change of the record of a carriage that is IDLE or UNHOMED. -/
theorem modCar_free (s : State) (n : CarriageName) (g : Carriage → Carriage)
    (hn : (s.car n).state = .idle ∨ (s.car n).state = .unhomed) : Steady s (s.modCar n g) := by
  intro m h1 h2
  simp only [State.car, State.modCar, State.setCar, Six.get_set]
  split
  · rename_i h; subst h; cases hn with
    | inl h => exact absurd h h1
    | inr h => exact absurd h h2
  · rfl

theorem foldl {α : Type} (f : State → α → State) (hf : ∀ t a, Steady t (f t a)) (l : List α) (s : State) : Steady s (l.foldl f s) := by
  induction l generalizing s with
  | nil => exact refl s
  | cons a rest ih => exact (hf s a).trans (ih (f s a))

end Steady

/-- The shifts of one side are given to free carriages, each once, out of the list they are placed from. -/
theorem planSide_spec (s : State) (w : CarriageName) (side : Dir) (r : Int × Int) (forced : Option CarriageName)
    (prev : Option (Int × Int)) (l : List CarriageName) (out : List Shift) (h : planSide s w side r forced prev l = some out) :
    (out.map Shift.carriage).Sublist l ∧ ∀ x ∈ out, s.isFree x.carriage = true := by
  induction l generalizing prev out with
  | nil => simp only [planSide, Option.some.injEq] at h; subst h; simp
  | cons n rest ih =>
    simp only [planSide] at h
    split at h
    · split at h
      · rename_i hc
        simp only [Bool.and_eq_true] at hc
        split at h
        · split at h
          · rename_i more hm
            simp only [Option.some.injEq] at h
            subst h
            obtain ⟨h1, h2⟩ := ih _ _ hm
            refine ⟨by simpa using h1, ?_⟩
            intro x hx
            rcases List.mem_cons.mp hx with rfl | hx
            · exact hc.1
            · exact h2 x hx
          · exact absurd h (by simp)
        · exact absurd h (by simp)
      · obtain ⟨h1, h2⟩ := ih _ _ h
        exact ⟨h1.trans (List.sublist_cons_self ..), h2⟩
    · obtain ⟨h1, h2⟩ := ih _ _ h
      exact ⟨h1.trans (List.sublist_cons_self ..), h2⟩

theorem carriages_nodup (c : Corridor) : c.carriages.Nodup := by cases c <;> decide

theorem carsOf_nodup (s : State) (c : Corridor) : (s.carsOf c).Nodup := (carriages_nodup c).filter _

/-- The shifts of one piece of work are given to free carriages, each once. -/
theorem planShifts_spec (s : State) (w : CarriageName) (r : Int × Int) (forced : Option CarriageName) (out : List Shift)
    (h : planShifts s w r forced = some out) :
    (out.map Shift.carriage).Nodup ∧ (∀ x ∈ out, s.isFree x.carriage = true) := by
  simp only [planShifts] at h
  split at h
  · rename_i a b ha hb
    simp only [Option.some.injEq] at h
    subst h
    obtain ⟨a1, a2⟩ := planSide_spec _ _ _ _ _ _ _ _ ha
    obtain ⟨b1, b2⟩ := planSide_spec _ _ _ _ _ _ _ _ hb
    refine ⟨?_, fun x hx => (List.mem_append.mp hx).elim (a2 x) (b2 x)⟩
    rw [List.map_append, List.nodup_append]
    refine ⟨a1.nodup ?_, b1.nodup ?_, ?_⟩
    · exact List.pairwise_reverse.mpr (((carsOf_nodup s w.corridor).filter _).imp fun h => h.symm)
    · exact (carsOf_nodup s w.corridor).filter _
    · intro x hx y hy e
      subst e
      have h1 := a1.subset hx
      have h2 := b1.subset hy
      simp only [List.mem_reverse, List.mem_filter, decide_eq_true_eq] at h1 h2
      omega
  · exact absurd h (by simp)

theorem isFree_idle {s : State} {n : CarriageName} (h : s.isFree n = true) : (s.car n).state = .idle := by
  simp only [State.isFree, Bool.and_eq_true, decide_eq_true_eq] at h; exact h.1.2

theorem car_modCar (s : State) (n m : CarriageName) (g : Carriage → Carriage) :
    (s.modCar n g).car m = if m = n then g (s.car n) else s.car m := by
  simp only [State.car, State.modCar, State.setCar, Six.get_set]

theorem car_modOrder (s : State) (id : Nat) (g : Order → Order) (n : CarriageName) : (s.modOrder id g).car n = s.car n := rfl

namespace Steady

theorem beginLeg_free (s : State) (n : CarriageName) (t : Int) (hn : (s.car n).state = .idle ∨ (s.car n).state = .unhomed) :
    Steady s (s.beginLeg n t) := modCar_free s n _ hn

/-- A shift given to an IDLE carriage. -/
theorem giveShift (w : Option Work) (s : State) (h : Shift) (hn : (s.car h.carriage).state = .idle) :
    Steady s (Machine.giveShift w s h) := by
  intro m h1 h2
  have hm : m ≠ h.carriage := fun e => h1 (by rw [e]; exact hn)
  simp only [Machine.giveShift, State.beginLeg, car_modCar, if_neg hm]

theorem giveShift_other (w : Option Work) (s : State) (h : Shift) (m : CarriageName) (hm : m ≠ h.carriage) :
    (Machine.giveShift w s h).car m = s.car m := by
  simp only [Machine.giveShift, State.beginLeg, car_modCar, if_neg hm]

theorem giveShifts (w : Option Work) (l : List Shift) (s : State) (hd : (l.map Shift.carriage).Nodup)
    (hn : ∀ x ∈ l, (s.car x.carriage).state = .idle) : Steady s (Machine.giveShifts w l s) := by
  induction l generalizing s with
  | nil => exact refl s
  | cons a rest ih =>
    simp only [List.map_cons, List.nodup_cons] at hd
    refine (giveShift w s a (hn a (by simp))).trans (ih _ hd.2 ?_)
    intro x hx
    have hne : x.carriage ≠ a.carriage := fun e => hd.1 (by rw [← e]; exact List.mem_map_of_mem hx)
    rw [giveShift_other w s a _ hne]
    exact hn x (by simp [hx])

theorem owe_end (s : State) (w : CarriageName) (c : Corridor) :
    Steady s ((s.modCar w fun v => { v with task := none, assigned := none }).owe c) :=
  (modCar_same s w (fun v => { v with task := none, assigned := none }) fun _ => rfl).trans (of_cars (by rfl))

theorem shiftFailed (s : State) (n : CarriageName) : Steady s (s.shiftFailed n) := by
  simp only [State.shiftFailed]; split
  · exact of_cars (by rfl)
  · rename_i w _
    refine Steady.trans ?_ (owe_end _ w n.corridor)
    split
    · exact of_cars (by rfl)
    · exact refl s

theorem withdrawWait (s : State) (n : CarriageName) : Steady s (s.withdrawWait n) := by
  simp only [State.withdrawWait]; split
  · split
    · exact of_cars (by rfl)
    · exact refl s
  · exact refl s

theorem withdrawWait_car (s : State) (n m : CarriageName) : (s.withdrawWait n).car m = s.car m := by
  simp only [State.withdrawWait]; split
  · split <;> rfl
  · rfl

theorem enterFaulted (s : State) (n : CarriageName) (k : FaultKind) (code : Option Nat)
    (hn : (s.car n).state = .idle ∨ (s.car n).state = .unhomed) : Steady s (s.enterFaulted n k code) := by
  simp only [State.enterFaulted]
  refine Steady.trans ?_ (of_cars (by rfl))
  have h : Steady s (((s.withdrawWait n).unwait n).modCar n fun v =>
    { v with
      state := .faulted, faultKind := some k, faultCode := code, remembered := none, task := none, leg := none
      homing := none, docked := none }) := by
    refine ((withdrawWait s n).trans (of_cars (by rfl) : Steady _ ((s.withdrawWait n).unwait n))).trans (modCar_free _ _ _ ?_)
    have e : ((s.withdrawWait n).unwait n).car n = s.car n := withdrawWait_car s n n
    rw [e]; exact hn
  split
  · exact h.trans (shiftFailed _ _)
  · exact h

theorem notify (s : State) (l : LinkId) (b : NoticeBody) (f : Option (List Nat)) : Steady s (s.notify l b f) := of_cars (by rfl)

theorem notifyAll (s : State) (b : NoticeBody) : Steady s (s.notifyAll b) := of_cars (by rfl)

theorem enterHoming (s : State) (n : CarriageName) (hn : (s.car n).state = .idle ∨ (s.car n).state = .unhomed) :
    Steady s (s.enterHoming n) := by
  simp only [State.enterHoming]; split
  · exact modCar_free _ _ _ hn
  · exact (enterFaulted s n _ _ hn).trans (notifyAll _ _)

theorem startOrder (s : State) (n : CarriageName) (hn : (s.car n).state = .idle) : Steady s (s.startOrder n) := by
  intro m h1 h2
  have hm : m ≠ n := fun e => h1 (by rw [e]; exact hn)
  simp only [State.startOrder]; split
  · rfl
  · split
    · simp only [State.beginLeg, car_modCar, if_neg hm]; rfl
    · simp only [car_modCar, if_neg hm]; rfl

theorem tryHoming (s : State) (n : CarriageName) : Steady s (s.tryHoming n) := by
  simp only [State.tryHoming]; split
  · rename_i hneeds
    have hn : (s.car n).state = .idle ∨ (s.car n).state = .unhomed := by
      simp only [State.needsHoming, Bool.and_eq_true, Bool.or_eq_true, decide_eq_true_eq] at hneeds
      rcases hneeds.1.1.1.2 with h | h
      · exact Or.inr h
      · exact Or.inl (isFree_idle h.1)
    split
    · exact refl s
    · split
      · exact refl s
      · split
        · exact refl s
        · rename_i l hl
          have ht : ∀ tk : Option Task, Steady s (s.modCar n fun v => { v with task := tk }) :=
            fun tk => modCar_same _ _ _ (by intro _; rfl)
          split
          · refine (ht _).trans (enterHoming _ _ ?_)
            rw [car_modCar, if_pos rfl]; exact hn
          · obtain ⟨hd, hf⟩ := planShifts_spec _ _ _ _ _ hl
            refine (ht _).trans (giveShifts _ _ _ hd ?_)
            intro x hx
            rw [car_modCar]
            split
            · rename_i e; rw [← e]; exact isFree_idle (hf x hx)
            · exact isFree_idle (hf x hx)
  · exact refl s

theorem nearest_mem (s : State) (o : Order) (l : List CarriageName) (n : CarriageName) (h : s.nearest o l = some n) : n ∈ l := by
  induction l generalizing n with
  | nil => simp [State.nearest] at h
  | cons a rest ih =>
    simp only [State.nearest] at h
    split at h
    · simp only [Option.some.injEq] at h; subst h; simp
    · rename_i m hm
      split at h <;> (simp only [Option.some.injEq] at h; subst h)
      · simp
      · exact List.mem_cons_of_mem _ (ih _ hm)

theorem tryOrder (s : State) (id : Nat) : Steady s (s.tryOrder id) := by
  simp only [State.tryOrder]; split
  · exact refl s
  · rename_i o _
    split
    · split
      · exact refl s
      · rename_i n hnear
        have hmem := nearest_mem _ _ _ _ hnear
        have hn : (s.car n).state = .idle := by
          simp only [List.mem_filter, State.eligible, State.suitable, Bool.and_eq_true] at hmem
          exact isFree_idle hmem.2.1.1.1
        split
        · exact refl s
        · split
          · exact refl s
          · rename_i l hl
            have ht : ∀ (tk : Option Task) (a : Option Nat),
                Steady s (s.modCar n fun v => { v with task := tk, assigned := a }) :=
              fun tk a => modCar_same _ _ _ (by intro _; rfl)
            split
            · refine ((ht _ _).trans (of_cars (by rfl))).trans (startOrder _ _ ?_)
              rw [car_modOrder, car_modCar, if_pos rfl]; exact hn
            · obtain ⟨hd, hf⟩ := planShifts_spec _ _ _ _ _ hl
              refine ((ht _ _).trans (of_cars (by rfl))).trans (giveShifts _ _ _ hd ?_)
              intro x hx
              rw [car_modOrder, car_modCar]
              split
              · exact hn
              · exact isFree_idle (hf x hx)
    · exact refl s

theorem allocate (s : State) (c : Corridor) : Steady s (s.allocate c) := by
  simp only [State.allocate]; split
  · exact refl s
  · exact (foldl _ tryHoming _ s).trans (foldl _ tryOrder _ _)

theorem settleRounds (k : Nat) (s : State) : Steady s (State.settleRounds k s) := by
  induction k generalizing s with
  | zero => exact of_cars (by rfl)
  | succ k ih =>
    simp only [State.settleRounds]; split
    · refine Steady.trans ?_ (ih _)
      have h0 : Steady s { s with owed := ⟨false, false⟩ } := of_cars (by rfl)
      have h1 : Steady s (if s.owed.f then ({ s with owed := ⟨false, false⟩ } : State).allocate .f else { s with owed := ⟨false, false⟩ }) := by
        split
        · exact h0.trans (allocate _ _)
        · exact h0
      split
      · exact h1.trans (allocate _ _)
      · exact h1
    · exact refl s

theorem modCar_homing (t : State) (n : CarriageName) :
    Steady t (t.modCar n fun v =>
      if v.state = .homing then { v with homing := v.homing.map fun h => { h with start := t.millis } } else v) :=
  modCar_same t n _ fun v => by split <;> rfl

theorem holdEnded (b s : State) (c : Corridor) : Steady s (b.holdEnded s c) := by
  simp only [State.holdEnded]; split
  · exact (foldl _ (fun t n => modCar_homing t n) _ s).trans (of_cars (by rfl))
  · exact refl s

theorem holdBegan (b s : State) (c : Corridor) : Steady s (b.holdBegan s c) := by
  simp only [State.holdBegan]; split
  · exact of_cars (by rfl)
  · exact refl s

/-- What the end of an event leaves every carriage at work with. -/
theorem finish (b s : State) : Steady s (b.finish s) :=
  ((((holdEnded b s .f).trans (holdEnded _ _ _)).trans (settleRounds _ _)).trans (holdBegan _ _ _)).trans (holdBegan _ _ _)

end Steady

end Sys2Proof.Machine
end

