-- ==== Sys2Proof/Laws/PerInstr.lean ====
section
/-! SUPPORT. Facts about every command as it is written, one lemma a constructor. Family Form: a request line of a well-formed
command has the form its request calls for, so its port does not answer that it is malformed (R176). -/

namespace Sys2Proof.Laws.Form

open Sys2Proof.Machine

/-- What Safety.asked reads of a well-formed command as its form is true. -/
def Statement (i : Instr) : Prop :=
  ∀ l w ok, asked i = some (l, w, ok) → i.wellFormed = true → ok = true

theorem powerOn (pins : Pins) : Statement (.powerOn pins) := by
  intro l w ok h
  cases h

theorem status (l : LinkId) (q : Req Unit) : Statement (.status l q) := by
  intro l w ok h hw
  cases h
  exact hw

theorem layoutGet (l : LinkId) (q : Req ItemKey) : Statement (.layoutGet l q) := by
  intro l w ok h hw
  cases h
  exact hw

theorem layoutSet (l : LinkId) (q : Req LayoutEdit) : Statement (.layoutSet l q) := by
  intro l w ok h hw
  cases h
  exact hw

theorem modeConfigure (l : LinkId) (q : Req Unit) : Statement (.modeConfigure l q) := by
  intro l w ok h hw
  cases h
  exact hw

theorem modeRun (l : LinkId) (q : Req Unit) : Statement (.modeRun l q) := by
  intro l w ok h hw
  cases h
  exact hw

theorem save (l : LinkId) (q : Req Unit) : Statement (.save l q) := by
  intro l w ok h hw
  cases h
  exact hw

theorem saveComplete (same : Bool) : Statement (.saveComplete same) := by
  intro l w ok h
  cases h

theorem restart (l : LinkId) (q : Req Unit) (pins : Pins) : Statement (.restart l q pins) := by
  intro l w ok h hw
  cases h
  exact (Bool.and_eq_true_iff.mp hw).1

theorem laneGet (l : LinkId) (q : Req Nat) : Statement (.laneGet l q) := by
  intro l w ok h hw
  cases h
  exact hw

theorem benchGet (l : LinkId) (q : Req Nat) : Statement (.benchGet l q) := by
  intro l w ok h hw
  cases h
  exact hw

theorem arrive (l : LinkId) (q : Req ArriveArgs) : Statement (.arrive l q) := by
  intro l w ok h hw
  cases h
  exact hw

theorem handoff (l : LinkId) (q : Req Nat) : Statement (.handoff l q) := by
  intro l w ok h hw
  cases h
  exact hw

theorem laneSet (l : LinkId) (q : Req LaneSetArgs) : Statement (.laneSet l q) := by
  intro l w ok h hw
  cases h
  exact hw

theorem benchSet (l : LinkId) (q : Req BenchSetArgs) : Statement (.benchSet l q) := by
  intro l w ok h hw
  cases h
  exact hw

theorem benchDelete (l : LinkId) (q : Req Nat) : Statement (.benchDelete l q) := by
  intro l w ok h hw
  cases h
  exact hw

theorem benchIdent (l : LinkId) (q : Req Nat) : Statement (.benchIdent l q) := by
  intro l w ok h hw
  cases h
  exact hw

theorem benchSwap (l : LinkId) (q : Req BenchSwapArgs) : Statement (.benchSwap l q) := by
  intro l w ok h hw
  cases h
  exact hw

theorem benchSettle (l : LinkId) (q : Req BenchSettleArgs) : Statement (.benchSettle l q) := by
  intro l w ok h hw
  cases h
  exact hw

theorem move (l : LinkId) (q : Req MoveArgs) : Statement (.move l q) := by
  intro l w ok h hw
  cases h
  exact hw

theorem cancel (l : LinkId) (q : Req Nat) : Statement (.cancel l q) := by
  intro l w ok h hw
  cases h
  exact hw

theorem abort (l : LinkId) (q : Req Nat) : Statement (.abort l q) := by
  intro l w ok h hw
  cases h
  exact hw

theorem orderGet (l : LinkId) (q : Req Nat) : Statement (.orderGet l q) := by
  intro l w ok h hw
  cases h
  exact hw

theorem orderList (l : LinkId) (q : Req (Option Nat)) : Statement (.orderList l q) := by
  intro l w ok h hw
  cases h
  exact hw

theorem clear (l : LinkId) (q : Req (Named CarriageName)) : Statement (.clear l q) := by
  intro l w ok h hw
  cases h
  exact hw

theorem carriageGet (l : LinkId) (q : Req (Named CarriageName)) : Statement (.carriageGet l q) := by
  intro l w ok h hw
  cases h
  exact hw

theorem carriageList (l : LinkId) (q : Req (Named Corridor)) : Statement (.carriageList l q) := by
  intro l w ok h hw
  cases h
  exact hw

theorem fence (l : LinkId) (q : Req TrackArgs) : Statement (.fence l q) := by
  intro l w ok h hw
  cases h
  exact hw

theorem unfence (l : LinkId) (q : Req TrackArgs) : Statement (.unfence l q) := by
  intro l w ok h hw
  cases h
  exact hw

theorem segmentGet (l : LinkId) (q : Req TrackArgs) : Statement (.segmentGet l q) := by
  intro l w ok h hw
  cases h
  exact hw

theorem segmentList (l : LinkId) (q : Req (Named Corridor)) : Statement (.segmentList l q) := by
  intro l w ok h hw
  cases h
  exact hw

theorem home (l : LinkId) (q : Req (Named CarriageName)) : Statement (.home l q) := by
  intro l w ok h hw
  cases h
  exact hw

theorem declare (l : LinkId) (q : Req DeclareArgs) : Statement (.declare l q) := by
  intro l w ok h hw
  cases h
  exact hw

theorem gateService (l : LinkId) (q : Req GateServiceArgs) : Statement (.gateService l q) := by
  intro l w ok h hw
  cases h
  exact hw

theorem gateGet (l : LinkId) (q : Req TrackArgs) : Statement (.gateGet l q) := by
  intro l w ok h hw
  cases h
  exact hw

theorem authorityGet (l : LinkId) (q : Req (Named CarriageName)) : Statement (.authorityGet l q) := by
  intro l w ok h hw
  cases h
  exact hw

theorem lineGet (l : LinkId) (q : Req (Named Corridor)) : Statement (.lineGet l q) := by
  intro l w ok h hw
  cases h
  exact hw

theorem watch (l : LinkId) (q : Req WatchArgs) : Statement (.watch l q) := by
  intro l w ok h hw
  cases h
  exact hw

theorem fetch (l : LinkId) (q : Req (Option Nat)) : Statement (.fetch l q) := by
  intro l w ok h hw
  cases h
  exact hw

theorem attention (l : LinkId) (q : Req (Named Bool)) : Statement (.attention l q) := by
  intro l w ok h hw
  cases h
  exact hw

theorem badLine (l : LinkId) (cause : BadLineCause) : Statement (.badLine l cause) := by
  intro l w ok h
  cases h

theorem overrun (l : LinkId) : Statement (.overrun l) := by
  intro l w ok h
  cases h

theorem answerSent (l : LinkId) : Statement (.answerSent l) := by
  intro l w ok h
  cases h

theorem orderAging (id : Nat) : Statement (.orderAging id) := by
  intro l w ok h
  cases h

theorem gateRisingEdge (c : Corridor) (k : Nat) (mid : Level) : Statement (.gateRisingEdge c k mid) := by
  intro l w ok h
  cases h

theorem gateFallingEdge (c : Corridor) (k : Nat) (mid : Level) : Statement (.gateFallingEdge c k mid) := by
  intro l w ok h
  cases h

theorem stopOpen (c : Corridor) (mid : LoopState) : Statement (.stopOpen c mid) := by
  intro l w ok h
  cases h

theorem stopClosed (c : Corridor) (mid : LoopState) : Statement (.stopClosed c mid) := by
  intro l w ok h
  cases h

theorem pollingCycle (c : Corridor) : Statement (.pollingCycle c) := by
  intro l w ok h
  cases h

theorem statusAnswer (c : Corridor) (a : StatusAnswer) : Statement (.statusAnswer c a) := by
  intro l w ok h
  cases h

theorem missedExchange (c : Corridor) : Statement (.missedExchange c) := by
  intro l w ok h
  cases h

theorem broadcastBrake (c : Corridor) : Statement (.broadcastBrake c) := by
  intro l w ok h
  cases h

theorem transferTimeout (n : CarriageName) : Statement (.transferTimeout n) := by
  intro l w ok h
  cases h

theorem homingTimeout (n : CarriageName) : Statement (.homingTimeout n) := by
  intro l w ok h
  cases h

theorem powerLoss (cutRetained : Bool) : Statement (.powerLoss cutRetained) := by
  intro l w ok h
  cases h

end Sys2Proof.Laws.Form
end

