-- ==== Sys2Proof/Laws/Ports.lean ====
section
/-! SUPPORT. What a request line can do at a port, case by case: the meanings of the requests are each one of these. -/

namespace Sys2Proof.Machine

variable {α : Type} (s : State) (l : LinkId) (w : ReqWord) (form : α → Bool) (serve : State → α → Served)

theorem request_unpowered (q : Req α) (h : s.powered = false) : request s l w form q serve = s := by
  simp [request, h]

theorem request_overrun (q : Req α) (hp : s.powered = true) (h : (s.link l).outstanding ≠ none) :
    request s l w form q serve = s.overrunLine l := by
  cases ho : (s.link l).outstanding with
  | none => exact absurd ho h
  | some x => simp [request, hp, ho]

theorem request_refused (q : Req α) (st : Status) (h : Ready s l) (hj : portJudges (s.takeLine l w) l w form q = .inl st) :
    request s l w form q serve = (s.takeLine l (answeredAs w q)).answer l (answeredAs w q) (.refuse st) := by
  simp [request, h.1, h.2.1, hj]

theorem request_served (q : Req α) (a : α) (h : Ready s l) (hj : portJudges (s.takeLine l w) l w form q = .inr a) :
    request s l w form q serve = served (s.takeLine l w) l w serve a := by
  simp [request, h.1, h.2.1, hj]

/-- The port hands on fields of the right form where the link may make the request in this mode. -/
theorem portJudges_ok (a : α) (hf : form a = true) (hm : s.mayAsk l w = true) (hr : w = .move → s.mode = .running) :
    portJudges s l w form (.args a) = .inr a := by
  have hn : s.portRefusal l w = none := by
    unfold State.portRefusal
    split
    · rename_i h; exact absurd (hr h.1) (by rw [h.2]; decide)
    · simp
  simp [portJudges, Req.fields, hf, hn]

theorem portJudges_malformed : portJudges s l w form (.malformed : Req α) = .inl .badForm := rfl

theorem portJudges_unlisted (words : List (List Char)) : portJudges s l w form (.unlisted words : Req α) = .inl .badForm := rfl

@[simp] theorem answeredAs_args (a : α) : answeredAs w (.args a) = w := rfl

@[simp] theorem answeredAs_malformed : answeredAs w (.malformed : Req α) = w := rfl

@[simp] theorem answeredAs_unlisted (words : List (List Char)) : answeredAs w (.unlisted words : Req α) = .other words := rfl

/-- A line that the port judges to have fields of the right form is answered with its row's word. -/
theorem answeredAs_of_fields (q : Req α) (a : α) (h : q.fields form = some a) : answeredAs w q = w := by
  cases q <;> first | rfl | simp [Req.fields] at h

@[simp] theorem takeLine_hold (c : Corridor) : (s.takeLine l w).hold c = s.hold c := rfl

@[simp] theorem takeLine_mayAsk (m : LinkId) (x : ReqWord) : (s.takeLine l w).mayAsk m x = s.mayAsk m x := rfl

/-- A request whose block answers at once and whose event owes nothing and touches no hold. -/
theorem served_of_same (a : α) (u : State) (r : Reply) (hs : serve s a = ⟨u, some r⟩) (ho : NothingOwed u)
    (hh : ∀ c, s.hold c = u.hold c) : served s l w serve a = u.answer l w r := by
  simp [served, hs, State.finish_of_same s u ho hh]

/-- A request whose event owes nothing and touches no hold: what its block wrote, with the answer on the line. -/
theorem request_exact (a : α) (u : State) (r : Reply) (h : Asks s l w) (hf : form a = true) (hr : w = .move → s.mode = .running)
    (hs : serve (s.takeLine l w) a = ⟨u, some r⟩) (ho : NothingOwed u) (hh : ∀ c, s.hold c = u.hold c) :
    request s l w form (.args a) serve = u.answer l w r := by
  rw [request_served s l w form serve _ a h.1 (portJudges_ok (s.takeLine l w) l w form a hf h.2 hr)]
  exact served_of_same _ l w serve a u r hs ho hh

/-- A request that its block refuses, or answers without changing a table. -/
theorem request_replied (a : α) (r : Reply) (h : Asks s l w) (hf : form a = true) (hr : w = .move → s.mode = .running)
    (hs : serve (s.takeLine l w) a = ⟨s.takeLine l w, some r⟩) : request s l w form (.args a) serve = s.replied l w r :=
  request_exact s l w form serve a _ r h hf hr hs h.1.2.2 fun _ => rfl

/-- A request that its block answers without changing a table. -/
theorem request_read (a : α) (r : Reply) (h : Ready s l) (hf : form a = true) (hm : s.mayAsk l w = true)
    (hr : w = .move → s.mode = .running) (hs : serve (s.takeLine l w) a = ⟨s.takeLine l w, some r⟩) :
    request s l w form (.args a) serve = (s.takeLine l w).answer l w r := by
  rw [request_served s l w form serve _ a h (portJudges_ok (s.takeLine l w) l w form a hf hm hr)]
  exact served_of_same _ l w serve a _ r hs h.2.2 fun _ => rfl

end Sys2Proof.Machine
end

