-- ==== Sys2Proof/Laws/Ranges.lean ====
section
/-! SUPPORT. The ranges of the operands as inequalities. -/

namespace Sys2Proof.Machine

theorem inRange_iff (lo hi n : Nat) : inRange lo hi n = true ↔ lo ≤ n ∧ n ≤ hi := by simp [inRange]

theorem inRange_false (lo hi n : Nat) : inRange lo hi n = false ↔ n < lo ∨ hi < n := by
  rw [← Bool.not_eq_true, inRange_iff]; omega

theorem benchNo_iff (n : Nat) : benchNo n = true ↔ 1 ≤ n ∧ n ≤ 4000 := inRange_iff ..
theorem benchNo_false (n : Nat) : benchNo n = false ↔ n < 1 ∨ 4000 < n := inRange_false ..
theorem laneNo_iff (n : Nat) : laneNo n = true ↔ 1 ≤ n ∧ n ≤ 120 := inRange_iff ..
theorem laneNo_false (n : Nat) : laneNo n = false ↔ n < 1 ∨ 120 < n := inRange_false ..
theorem orderNo_iff (n : Nat) : orderNo n = true ↔ 1 ≤ n ∧ n ≤ 65535 := inRange_iff ..
theorem orderNo_false (n : Nat) : orderNo n = false ↔ n < 1 ∨ 65535 < n := inRange_false ..
theorem segmentNo_iff (n : Nat) : segmentNo n = true ↔ n ≤ 39 := by simp [segmentNo, inRange]
theorem segmentNo_false (n : Nat) : segmentNo n = false ↔ 39 < n := by simp [segmentNo, inRange]
theorem gateNo_iff (n : Nat) : gateNo n = true ↔ n ≤ 40 := by simp [gateNo, inRange]
theorem gateNo_false (n : Nat) : gateNo n = false ↔ 40 < n := by simp [gateNo, inRange]
theorem word16_iff (n : Nat) : word16 n = true ↔ n ≤ 65535 := by simp [word16, inRange]
theorem referenceNo_iff (n : Nat) : referenceNo n = true ↔ 1 ≤ n ∧ n ≤ 999999 := inRange_iff ..

end Sys2Proof.Machine
end

