-- ==== Sys2Proof/Laws/Runs.lean ====
section
/-! SUPPORT. What the end of an event does (`RunsOnly`), and the same after notices, owed runs and answers: the lemmas from which the
effect of a request or an event follows from what its block writes. -/

namespace Sys2Proof.Machine

namespace RunsOnly

theorem refl (s : State) : RunsOnly s s := ⟨Calm.refl s, Steady.refl s, fun _ _ => rfl⟩

theorem trans {s t u : State} (h : RunsOnly s t) (k : RunsOnly t u) : RunsOnly s u :=
  ⟨h.calm.trans k.calm, h.steady.trans k.steady, fun c i => (k.layers c i).trans (h.layers c i)⟩

end RunsOnly

/-! Layers: what an allocator run and the end of an event do to no segment. -/

/-- No layer of a segment but its waiting set changes. -/
def SameLayers (s t : State) : Prop := ∀ c k, t.layers c k = s.layers c k

namespace SameLayers

theorem refl (s : State) : SameLayers s s := fun _ _ => rfl

theorem trans {s t u : State} (h : SameLayers s t) (k : SameLayers t u) : SameLayers s u := fun c i => (k c i).trans (h c i)

theorem of_segments {s t : State} (h : t.segments = s.segments) : SameLayers s t := by
  intro c k; simp only [State.layers, State.seg, h]

theorem foldl {α : Type} (f : State → α → State) (hf : ∀ t a, SameLayers t (f t a)) (l : List α) (s : State) :
    SameLayers s (l.foldl f s) := by
  induction l generalizing s with
  | nil => exact refl s
  | cons a rest ih => exact (hf s a).trans (ih (f s a))

/-- A change of waiting sets alone. -/
theorem of_waiting (s : State) (c : Corridor) (g : Segment → List CarriageName) :
    SameLayers s { s with segments := s.segments.set c ((s.segments.get c).mapValues fun _ v => { v with waiting := g v }) } := by
  intro d k
  simp only [State.layers, State.seg, Two.get_set]
  split
  · rename_i h; subst h
    rw [Table.get?_mapValues]
    cases (s.segments.get d).get? k <;> rfl
  · rfl

theorem unwait (s : State) (n : CarriageName) : SameLayers s (s.unwait n) := of_waiting s n.corridor _

theorem unwaitAll (s : State) (c : Corridor) : SameLayers s (s.unwaitAll c) := of_waiting s c _

theorem withdrawWait (s : State) (n : CarriageName) : SameLayers s (s.withdrawWait n) := by
  simp only [State.withdrawWait]; split
  · split
    · exact of_segments (by rfl)
    · exact refl s
  · exact refl s

theorem giveShifts (w : Option Work) (l : List Shift) (s : State) : SameLayers s (Machine.giveShifts w l s) :=
  foldl _ (fun t h => of_segments (by rfl)) l s

theorem shiftFailed (s : State) (n : CarriageName) : SameLayers s (s.shiftFailed n) := by
  simp only [State.shiftFailed]; split
  · exact of_segments (by rfl)
  · rename_i w _
    refine of_segments ?_
    cases (s.car w).assigned <;> rfl

theorem enterFaulted (s : State) (n : CarriageName) (k : FaultKind) (code : Option Nat) : SameLayers s (s.enterFaulted n k code) := by
  simp only [State.enterFaulted]
  refine trans ?_ (of_segments (by rfl))
  have h : SameLayers s (((s.withdrawWait n).unwait n).modCar n fun v =>
    { v with
      state := .faulted, faultKind := some k, faultCode := code, remembered := none, task := none, leg := none
      homing := none, docked := none }) := ((withdrawWait s n).trans (unwait _ n)).trans (of_segments (by rfl))
  split
  · exact h.trans (shiftFailed _ n)
  · exact h

theorem notifyAll (s : State) (b : NoticeBody) : SameLayers s (s.notifyAll b) := of_segments rfl

theorem enterHoming (s : State) (n : CarriageName) : SameLayers s (s.enterHoming n) := by
  simp only [State.enterHoming]; split
  · exact of_segments (by rfl)
  · exact (enterFaulted s n _ _).trans (notifyAll _ _)

theorem startOrder (s : State) (n : CarriageName) : SameLayers s (s.startOrder n) := by
  refine of_segments ?_
  simp only [State.startOrder]; split
  · rfl
  · split <;> rfl

theorem tryHoming (s : State) (n : CarriageName) : SameLayers s (s.tryHoming n) := by
  simp only [State.tryHoming]; split
  · split
    · exact refl s
    · split
      · exact refl s
      · split
        · exact refl s
        · split
          · exact trans (of_segments (by rfl)) (enterHoming _ n)
          · exact trans (of_segments (by rfl)) (giveShifts _ _ _)
  · exact refl s

theorem tryOrder (s : State) (id : Nat) : SameLayers s (s.tryOrder id) := by
  simp only [State.tryOrder]; split
  · exact refl s
  · split
    · split
      · exact refl s
      · rename_i n _
        split
        · exact refl s
        · split
          · exact refl s
          · split
            · exact trans (of_segments (by rfl)) (startOrder _ n)
            · exact trans (of_segments (by rfl)) (giveShifts _ _ _)
    · exact refl s

theorem allocate (s : State) (c : Corridor) : SameLayers s (s.allocate c) := by
  simp only [State.allocate]; split
  · exact refl s
  · exact (foldl _ tryHoming _ s).trans (foldl _ tryOrder _ _)

theorem settleRounds (k : Nat) (s : State) : SameLayers s (State.settleRounds k s) := by
  induction k generalizing s with
  | zero => exact of_segments (by rfl)
  | succ k ih =>
    simp only [State.settleRounds]; split
    · refine trans ?_ (ih _)
      have h0 : SameLayers s { s with owed := ⟨false, false⟩ } := of_segments (by rfl)
      have h1 : SameLayers s (if s.owed.f then ({ s with owed := ⟨false, false⟩ } : State).allocate .f else { s with owed := ⟨false, false⟩ }) := by
        split
        · exact h0.trans (allocate _ _)
        · exact h0
      split
      · exact h1.trans (allocate _ _)
      · exact h1
    · exact refl s

theorem holdEnded (b s : State) (c : Corridor) : SameLayers s (b.holdEnded s c) := by
  simp only [State.holdEnded]; split
  · exact trans (foldl (fun t n => t.modCar n fun v =>
      if v.state = .homing then { v with homing := v.homing.map fun h => { h with start := t.millis } } else v)
      (fun t n => of_segments (by rfl)) _ s) (of_segments (by rfl))
  · exact refl s

theorem holdBegan (b s : State) (c : Corridor) : SameLayers s (b.holdBegan s c) := by
  simp only [State.holdBegan]; split
  · exact unwaitAll s c
  · exact refl s

theorem finish (b s : State) : SameLayers s (b.finish s) :=
  ((((holdEnded b s .f).trans (holdEnded _ _ _)).trans (settleRounds _ _)).trans (holdBegan _ _ _)).trans (holdBegan _ _ _)

end SameLayers

namespace RunsOnly

/-- The end of an event. -/
theorem finish (b s : State) : RunsOnly s (b.finish s) := ⟨Calm.finish b s, Steady.finish b s, SameLayers.finish b s⟩

theorem notify (s : State) (l : LinkId) (b : NoticeBody) (f : Option (List Nat)) : RunsOnly s (s.notify l b f) :=
  ⟨Calm.notify s l b f, Steady.notify s l b f, fun _ _ => rfl⟩

theorem notifyAll (s : State) (b : NoticeBody) : RunsOnly s (s.notifyAll b) :=
  ⟨Calm.notifyAll s b, Steady.notifyAll s b, fun _ _ => rfl⟩

theorem offerOn (s : State) (o : Offer) (l : LinkId) : RunsOnly s (s.offerOn o l) := by
  simp only [State.offerOn]; split
  · exact notify ..
  · split
    · exact refl s
    · exact notify ..

theorem offer (s : State) (o : Offer) : RunsOnly s (s.offer o) :=
  ((offerOn s o .l1).trans (offerOn _ o .l2)).trans (offerOn _ o .l3)

theorem owe (s : State) (c : Corridor) : RunsOnly s (s.owe c) := ⟨Calm.owe s c, Steady.of_cars rfl, fun _ _ => rfl⟩

theorem oweMouths (s : State) (l : Nat) : RunsOnly s (s.oweMouths l) := by
  simp only [State.oweMouths]
  split <;> split
  · exact (owe ..).trans (owe ..)
  · exact owe ..
  · exact owe ..
  · exact refl s

theorem unwaitAll (s : State) (c : Corridor) : RunsOnly s (s.unwaitAll c) :=
  ⟨Calm.unwaitAll s c, Steady.of_cars rfl, SameLayers.unwaitAll s c⟩

/-- An answer composed on both sides. -/
theorem answer {s t : State} (h : RunsOnly s t) (l : LinkId) (w : ReqWord) (r : Reply) : RunsOnly (s.answer l w r) (t.answer l w r) := by
  refine ⟨⟨h.calm.still, h.calm.lanes, fun m => ?_, h.calm.cars, h.calm.orders⟩, h.steady, h.layers⟩
  have ho := h.calm.overrun l
  have hm := h.calm.ports m
  simp only [State.portStand, State.link, State.answer, State.modLink, Three.get_set] at ho hm ⊢
  split
  · rename_i e; subst e
    simp only [Prod.mk.injEq] at hm ⊢
    exact ⟨hm.1, hm.2.1, hm.2.2.1, hm.2.2.2.1, by rw [ho], hm.2.2.2.2.2⟩
  · exact hm

end RunsOnly

/-- A request that its block serves: what stands after it is what the block wrote, but for the end of its event. -/
theorem request_runs {α : Type} (s : State) (l : LinkId) (w : ReqWord) (form : α → Bool) (serve : State → α → Served) (a : α)
    (h : Asks s l w) (hf : form a = true) (hr : w = .move → s.mode = .running) (u : State) (r : Reply)
    (hs : serve (s.takeLine l w) a = ⟨u, some r⟩) :
    RunsOnly (u.answer l w r) (request s l w form (.args a) serve) := by
  rw [request_served s l w form serve _ a h.1 (portJudges_ok (s.takeLine l w) l w form a hf h.2 hr)]
  simp only [served, hs]
  exact (RunsOnly.finish _ _).answer l w r

end Sys2Proof.Machine
end

