-- ==== Sys2Proof/Tests/Slice0.lean ====
section
/-! SUPPORT. Tests on small states: ill-formed commands the form check refuses, and for each statement states and operands that meet its
hypotheses, one for each of its clauses, with what the command then does. -/

namespace Sys2Proof.Tests

open Sys2Proof.Machine

/-! ## The form of commands -/

theorem test_ill_formed_numbers :
    (Instr.laneGet .l1 (.args 10000000000)).wellFormed = false ∧ (Instr.benchGet .l1 .malformed).wellFormed = false ∧
    (Instr.status .l1 (.unlisted ["FOO".toList])).wellFormed = false ∧
    (Instr.orderList .l1 (.args (some 10000000000))).wellFormed = false ∧
    (Instr.fetch .l1 (.args (some 10000000000))).wellFormed = false ∧
    (Instr.benchSwap .l1 (.args ⟨1, 10000000000⟩)).wellFormed = false ∧
    (Instr.benchSettle .l1 (.args ⟨10000000000, .unknown⟩)).wellFormed = false ∧
    (Instr.fence .l1 (.args ⟨.known .f, 10000000000⟩)).wellFormed = false ∧
    (Instr.gateService .l1 (.args ⟨.known .f, 10000000000, .unknown⟩)).wellFormed = false ∧
    (Instr.declare .l1 (.args ⟨.known .f1, 0, 10000000000⟩)).wellFormed = false ∧
    (Instr.laneGet .l1 (.args 9999999999)).wellFormed = true := by decide

theorem test_ill_formed_layout :
    (Instr.layoutGet .l1 (.args (.lane 10000000000))).wellFormed = false ∧
    (Instr.layoutSet .l1 (.args (.remove (.link 10000000000)))).wellFormed = false ∧
    (Instr.layoutSet .l1 (.args (.corridor .unknown 10000000000))).wellFormed = false ∧
    (Instr.layoutSet .l1 (.args (.segment .unknown 0 10000000000))).wellFormed = false ∧
    (Instr.layoutSet .l1 (.args (.gate .unknown 0 10000000000 .clear))).wellFormed = false ∧
    (Instr.layoutSet .l1 (.args (.lane 1 .bay none 10000000000))).wellFormed = false ∧
    (Instr.layoutSet .l1 (.args (.mouth 1 .unknown .unknown 10000000000))).wellFormed = false ∧
    (Instr.layoutSet .l1 (.args (.carriage .unknown 1 (.known (some 10000000000)) .unknown 1))).wellFormed = false ∧
    (Instr.layoutSet .l1 (.args (.link 10000000000 []))).wellFormed = false ∧
    (Instr.layoutSet .l1 (.args (.timing .f 0 0 0 0 0 10000000000))).wellFormed = false ∧
    (Instr.layoutSet .l1 (.args (.timingUnit 0 0 10000000000))).wellFormed = false := by decide

theorem test_ill_formed_inventory :
    (Instr.arrive .l1 (.args ⟨1, 1, 1, .unknown, some 10000000000⟩)).wellFormed = false ∧
    (Instr.laneSet .l1 (.args ⟨1, [10000000000]⟩)).wellFormed = false ∧
    (Instr.laneSet .l1 (.args ⟨1, List.replicate 33 1⟩)).wellFormed = false ∧
    (Instr.laneSet .l1 (.args ⟨1, List.replicate 32 1⟩)).wellFormed = true ∧
    (Instr.benchSet .l1 (.args ⟨1, none, none, none⟩)).wellFormed = false ∧
    (Instr.benchSet .l1 (.args ⟨1, none, none, some (.known (some 10000000000))⟩)).wellFormed = false ∧
    (Instr.move .l1 (.args ⟨.laneEnd 10000000000 .unknown, 1, none, .unknown⟩)).wellFormed = false ∧
    (Instr.move .l1 (.args ⟨.bench 1, 10000000000, none, .unknown⟩)).wellFormed = false ∧
    (Instr.watch .l1 (.args ⟨10000000000, .read⟩)).wellFormed = false ∧
    (Instr.watch .l1 (.args ⟨0, .write ⟨true, .known false, [], .unknown, .number 10000000000, 0, 0, [], .any⟩⟩)).wellFormed = false ∧
    (Instr.watch .l1 (.args ⟨0, .write ⟨true, .known false, [], .unknown, .any, 0, 0, [], .equal 10000000000⟩⟩)).wellFormed = false := by
  decide

theorem test_ill_formed_wires :
    (Instr.powerOn ⟨[97], .closed, .closed⟩).wellFormed = false ∧ (Instr.powerOn ⟨[0], .closed, .closed⟩).wellFormed = false ∧
    (Instr.powerOn ⟨[1, 96], .closed, .closed⟩).wellFormed = true ∧
    (Instr.restart .l1 (.args ()) ⟨[97], .closed, .closed⟩).wellFormed = false ∧
    (Instr.gateRisingEdge .f 41 .clear).wellFormed = false ∧ (Instr.gateFallingEdge .f 41 .clear).wellFormed = false ∧
    (Instr.statusAnswer .f ⟨256, .standing, false, 0, 0, 0, []⟩).wellFormed = false ∧
    (Instr.statusAnswer .f ⟨0, .standing, false, 0, 65536, 0, []⟩).wellFormed = false ∧
    (Instr.statusAnswer .f ⟨0, .standing, false, 0, 0, 256, []⟩).wellFormed = false ∧
    (Instr.statusAnswer .f ⟨0, .standing, false, 0, 0, 0, List.replicate 13 0⟩).wellFormed = false ∧
    (Instr.statusAnswer .f ⟨0, .standing, false, 0, 0, 0, [256]⟩).wellFormed = false := by decide

/-! ## A small layout -/

/-- The state a command leaves. -/
def after (c : Instr) (s : State) : State :=
  match exec c s with
  | .next t => t
  | _ => s

/-- The status word on a link. -/
def said (s : State) (l : LinkId) : Option Status := (s.link l).answer.map (·.status)

/-- Two corridors of three segments, a bay lane, a source, a buffer and a sink, one carriage on each corridor. -/
def lay : Layout where
  length := ⟨some 24000, some 24000⟩
  segments := ⟨⟨[(0, 8000), (1, 8000), (2, 8000)]⟩, ⟨[(0, 8000), (1, 8000), (2, 8000)]⟩⟩
  gates := ⟨⟨[(0, 1), (1, 2), (2, 3), (3, 4)]⟩, ⟨[(0, 11), (1, 12), (2, 13), (3, 14)]⟩⟩
  lanes :=
    ⟨[(1, ⟨.bay, none, 5⟩), (2, ⟨.station, some .source, 4⟩), (3, ⟨.buffer, none, 4⟩), (4, ⟨.station, some .sink, 4⟩)]⟩
  mouths :=
    ⟨⟨[(1, ⟨.left, 10000⟩), (2, ⟨.left, 2000⟩), (3, ⟨.left, 15000⟩), (4, ⟨.left, 18000⟩)]⟩, ⟨[(1, ⟨.right, 10000⟩)]⟩⟩
  carriages := ⟨some ⟨3000, 400, .south, 1⟩, none, none, some ⟨3000, 400, .south, 1⟩, none, none⟩
  perms := ⟨some allPermissions, some [], none⟩
  timing := ⟨Timing.default, Timing.default⟩
  unit := ⟨120, 1000, 2000⟩

/-- A carriage IDLE at a position. -/
def idleAt (p : Int) : Carriage :=
  { Carriage.blank with state := .idle, p := some p, offset := some 0, lastOdometer := some 0, u := 100, uBase := 100 }

/-- A bench record in a place. -/
def lying (pl : Place) : Bench := ⟨1, .ready, none, pl, .verified, none, 0⟩

/-- The unit in RUNNING, both carriages IDLE, one bench in each of lanes 2, 3 and 4 and one outside. -/
def yard : State :=
  { State.reset with
    mode := .running, layout := lay
    lanes := ⟨[(2, ⟨[7], 0, 0, none, none⟩), (3, ⟨[10], 0, 0, none, none⟩), (4, ⟨[8], 0, 0, none, none⟩)]⟩
    benches := ⟨[(7, lying (.inLane 2)), (8, lying (.inLane 4)), (9, lying .outside), (10, lying (.inLane 3))]⟩
    carriages := ⟨idleAt 5000, Carriage.blank, Carriage.blank, idleAt 5000, Carriage.blank, Carriage.blank⟩
    segments := ⟨⟨[(0, ⟨none, none, some .f1, []⟩)]⟩, ⟨[(0, ⟨none, none, some .t1, []⟩)]⟩⟩
    links := ⟨Link.start [], Link.start [], Link.start []⟩, starting := ⟨false, false⟩ }

/-- The same in CONFIGURING. -/
def shop : State := { yard with mode := .configuring }

/-- An order of link 1 from lane 2 to lane 3. -/
def job (phase : Phase) (n : Option CarriageName) : Order :=
  ⟨5, .l1, .normal, .normal, .bench 7, some 2, .f, 3, some 7, n, phase, 0, 0⟩

/-- F1 at work for the order. -/
def atWork (st : CarState) (phase : Phase) : State :=
  { yard with
    book := [job phase (some .f1)]
    lanes := ⟨[(2, ⟨[7], 0, 1, none, none⟩), (3, ⟨[10], 1, 0, none, none⟩), (4, ⟨[8], 0, 0, none, none⟩)]⟩
    benches :=
      ⟨[(7, { lying (.inLane 2) with claim := some 5 }), (8, lying (.inLane 4)), (9, lying .outside), (10, lying (.inLane 3))]⟩
  }.modCar .f1 fun v =>
    { v with state := st, assigned := some 5, task := some ⟨.order, 2000, 18100, [], none, none⟩, leg := some ⟨15000, .south⟩ }

/-- F1 pulling bench 7 out of lane 2. -/
def pulling : State :=
  (atWork .transferring .pulling).modCar .f1 fun v =>
    { v with leg := none, transfer := some ⟨.pull, 2, .left, 5, 7, false, 0⟩, mark := some ⟨2, .f, 7⟩ }

/-- F1 pushing bench 7 into lane 3. -/
def pushing : State :=
  { atWork .transferring .pushing with
    lanes := ⟨[(3, ⟨[10], 1, 0, none, none⟩), (4, ⟨[8], 0, 0, none, none⟩)]⟩
    benches := ⟨[(7, { lying (.aboard .f1) with claim := some 5 }), (8, lying (.inLane 4)), (10, lying (.inLane 3))]⟩
  }.modCar .f1 fun v =>
    { v with
      leg := none, load := .bench 7, transfer := some ⟨.push, 3, .left, 5, 7, true, 0⟩, mark := some ⟨3, .f, 7⟩ }

/-- F1 FAULTED of a kind. -/
def faulted (k : FaultKind) : State :=
  yard.modCar .f1 fun v => { v with state := .faulted, faultKind := some k }

/-- F1 HOMING toward gate 2 since the millisecond 0. -/
def homing : State :=
  yard.modCar .f1 fun v =>
    { v with
      state := .homing, homing := some ⟨2, 13050, 0⟩, leg := some ⟨13050, .south⟩
      task := some ⟨.homing, 4900, 16150, [], none, none⟩ }

/-- F1 RUNNING south past 8,000 with its front at a gate. -/
def passing : State :=
  (atWork .running .fetching).modCar .f1 fun v => { v with dir := some .south, speed := 400 }

/-- An exchange with F1's drive in flight. -/
def calling (s : State) (mode : SetMode) : State :=
  s.modLine .f fun w => { w with inFlight := some ⟨1, some .f1, mode, 0, false⟩ }

/-- A link with a request outstanding. -/
def waiting (s : State) (l : LinkId) : State := s.modLink l fun k => { k with outstanding := some .status }

/-- Bench 7 straddling at lane 2's mouth on F1. -/
def straddle (k : Nat) : State :=
  { yard with
    benches := ⟨[(7, lying (.straddling .f1 k .f)), (8, lying (.inLane 4)), (9, lying .outside), (10, lying (.inLane 3))]⟩
    lanes := ⟨[(1, ⟨[], 0, 0, some .f, some .t1⟩), (3, ⟨[10], 0, 0, none, none⟩), (4, ⟨[8], 0, 0, none, none⟩)]⟩
  }.modCar .f1 fun v => { v with load := .straddled }

/-! ## The step -/

theorem test_step_runs_front :
    step { yard with pending := [.overrun .l1] } = .next yard := by rfl

/-- The yard without power. -/
def dark : State := { yard with powered := false }

theorem test_idle_step :
    State.reset.pending = [] ∧ State.reset.powered = true ∧
    State.reset.tick.millis = 1 ∧ State.reset.tick.pending = [] ∧ dark.powered = false ∧ after (.status .l1 (.args ())) dark = dark := by
  decide

/-- The yard a millisecond before it samples, with gate 1's input just made. -/
def aboutToSample : State := { yard with millis := 1, inputs := [2] }

theorem test_idle_step_samples :
    (aboutToSample.tick.gate .f 1).samples = ⟨.present, .clear, .clear⟩ ∧ (aboutToSample.tick.gate .f 1).level = .clear ∧
    (yard.tick.gate .f 1) = yard.gate .f 1 ∧ (yard.tick.stop .f) = yard.stop .f ∧ aboutToSample.tick.gate .f 40 = Gate.blank ∧
    aboutToSample.tick.tick.tick.pending = [.gateRisingEdge .f 1 .present] ∧ aboutToSample.tick.pending = [] := by decide

theorem test_invariants_hold_before_a_step :
    NothingOwed yard ∧ (∀ l, LinkBounded (yard.link l)) ∧ (∀ n, (yard.car n).u ≤ 1500) ∧ step yard = .next yard.tick := by
  refine ⟨by decide, ?_, ?_, rfl⟩
  · intro l; cases l <;> decide
  · intro n; cases n <;> decide

theorem test_invariants_after_a_step :
    NothingOwed yard.tick ∧ (∀ l, LinkBounded (yard.tick.link l)) ∧ ∀ n, (yard.tick.car n).u ≤ 1500 := by
  refine ⟨by decide, ?_, ?_⟩
  · intro l; cases l <;> decide
  · intro n; cases n <;> decide

/-! ## Wire -/

theorem test_answer_spells_least :
    (⟨0, .standing, false, 0, 0, 0, []⟩ : StatusAnswer).form = true ∧
    readAnswer (answerChars ⟨0, .standing, false, 0, 0, 0, []⟩) = some ⟨0, .standing, false, 0, 0, 0, []⟩ := by decide

theorem test_answer_spells_greatest :
    (⟨255, .driveFault, true, 4294967295, 65535, 255, List.replicate 12 255⟩ : StatusAnswer).form = true ∧
    readAnswer (answerChars ⟨255, .driveFault, true, 4294967295, 65535, 255, List.replicate 12 255⟩)
      = some ⟨255, .driveFault, true, 4294967295, 65535, 255, List.replicate 12 255⟩ := by decide

theorem test_tag_telegram :
    (tagBytes 4000).foldl (fun r x => recognize r.1 x) (Recognizer.hunt 2, none) = (Recognizer.hunt 0, some 4000) ∧
    (tagBytes 4001).foldl (fun r x => recognize r.1 x) (Recognizer.hunt 0, none) = (Recognizer.hunt 0, none) ∧
    (tagBytes 0).foldl (fun r x => recognize r.1 x) (Recognizer.hunt 3, none) = (Recognizer.hunt 0, none) := by decide

/-- A line's words. -/
def words (l : List String) : List (List Char) := l.map String.toList

theorem test_move_lines :
    readMove (words ["BENCH", "5", "7", "NORMAL"]) = some ⟨.bench 5, 7, none, .known .normal⟩ ∧
    readMove (words ["BENCH", "5", "7", "F", "URGENT"]) = some ⟨.bench 5, 7, some (.known .f), .known .urgent⟩ ∧
    readMove (words ["BENCH", "5", "7", "NORMAL", "URGENT"]) = none ∧ readMove (words ["BENCH", "5", "7", "F"]) = none ∧
    readMove (words ["BENCH", "5", "7"]) = none ∧
    readMove (words ["BENCH", "5", "7", "FAST"]) = some ⟨.bench 5, 7, none, .unknown⟩ := by decide

theorem test_fields :
    (Event.fence .f 3 true (.operator .l2)).fields = [.word "F", .num 3, .word "SET", .word "OPERATOR", Field.none] ∧
    identityFields (.doubtful none) = [.word "DOUBTFUL", Field.none] ∧ identityFields .unread = [.word "UNREAD", Field.none] ∧
    (NoticeBody.fault .f1 .linkLost none).fields = [.word "F1", .word "LINK_LOST", Field.none] := by decide

/-- Link 1 with the answer to a STATUS on the line. -/
def answered : State := yard.replied .l1 .status (.ok [])

theorem test_port_lines :
    answered.powered = true ∧ (answered.link .l1).answer ≠ none ∧ (answered.link .l1).outstanding ≠ none ∧
    ((after (.answerSent .l1) answered).link .l1).outstanding = none ∧
    (yard.link .l1).answer = none ∧ after (.answerSent .l1) yard = yard ∧
    ((after (.badLine .l1 .framing) yard).link .l1).badLines = 1 := by decide

/-- A new unit whose link 1 has its overrun mark set, after a FETCH. -/
def fetching : State := after (.fetch .l1 (.args none)) (State.reset.modLink .l1 fun k => { k with overrun := true })

/-- An overrun during the notice lines behind an answer that carried OVERRUN keeps its mark (R175). -/
theorem test_fetch_answer_ends_twice :
    let line := after (.answerSent .l1) fetching
    let last := after (.answerSent .l1) (after (.overrun .l1) line)
    (fetching.link .l1).answer.map (·.overrun) = some true ∧ (line.link .l1).overrun = false ∧ (line.link .l1).outstanding = some .fetch ∧
    (line.link .l1).noticesFollow = true ∧ (last.link .l1).overrun = true ∧ (last.link .l1).outstanding = none ∧
    (last.link .l1).noticesFollow = false ∧
    ((after (.answerSent .l1) (after (.fetch .l1 (.args none)) yard)).link .l1).outstanding = none := by decide

theorem test_telegram_chars :
    (⟨1, .run, -2, 1200, none⟩ : Telegram).chars = [257, 3, 255, 255, 255, 254, 4, 176, 0, 179] ∧
    (⟨3, .push, 0, 0, some .right⟩ : Telegram).chars = [259, 7, 0, 0, 0, 0, 0, 0, 2, 12] ∧
    Telegram.broadcast.chars = [256, 2, 0, 0, 0, 0, 0, 0, 0, 2] := by decide

/-- A line of STATUS; the shortest and the longest body an assembled line may have, and one more. -/
theorem test_lines :
    closeLine ">STATUS".toList = ">STATUS#22\r\n".toList ∧ takeChar none '>' = (some ['>'], .nothing) ∧
    takeChar none 'A' = (none, .nothing) ∧
    (closeLine ">STATUS".toList).foldl (fun r c => takeChar r.1 c) (none, .nothing) = (none, .complete ">STATUS#22\r\n".toList) ∧
    takeChar (some ">STATUS#21\r".toList) '\n' = (none, .bad .badSum) ∧
    takeChar (some ">STATUS#22".toList) '\n' = (some ">STATUS#22\n".toList, .nothing) ∧
    takeChar (some ">STATUS#22\r".toList) '>' = (some ['>'], .bad .newStart) ∧
    goodLine ">STATUS#22\r\n".toList = true ∧ goodLine ">STATUS#2A\r\n".toList = false := by decide

theorem test_longest_line :
    goodLine (closeLine (List.replicate 155 'x')) = true ∧ goodLine (closeLine (List.replicate 156 'x')) = false ∧
    takeChar (some (List.replicate 159 'x')) 'x' = (some (List.replicate 160 'x'), .nothing) ∧
    takeChar (some (List.replicate 160 'x')) 'x' = (none, .bad .tooLong) ∧
    takeChar (some (List.replicate 160 'x')) '>' = (some ['>'], .bad .newStart) := by decide +kernel

theorem test_line_texts :
    (AnswerLine.mk .modeRun .range [.word "GATE", .num (-3), .nums [], .words ["A", "B"]] true []).text =
      closeLine "<MODE RUN RANGE GATE -3 NONE A,B OVERRUN".toList ∧
    (⟨.event (.identity 7 .unread), 12, some [0, 5]⟩ : Notice).text = closeLine "!IDENTITY 12 7 UNREAD NONE 0,5".toList ∧
    (AnswerLine.mk (.other ["FOO".toList]) .badForm [] true []).text = closeLine "<FOO SYNTAX OVERRUN".toList ∧
    splitOn ' ' "A  B".toList = [['A'], [], ['B']] := by decide

/-! ## Speeds and authority -/

theorem test_cap_for :
    (0 : Nat) < 350 ∧ 1000 * (422 * 422) + 2 * 400 * 300 * 422 ≤ 2000 * 400 * 350 ∧ capFor 400 300 350 = 422 ∧
    ¬ 1000 * (423 * 423) + 2 * 400 * 300 * 423 ≤ 2000 * 400 * 350 ∧ capFor 400 300 0 = 0 ∧ capFor 400 300 (-1) = 0 := by decide

theorem test_speed_cap_terms :
    yard.item .f1 = some ⟨3000, 400, .south, 1⟩ ∧ homing.item .f1 = some ⟨3000, 400, .south, 1⟩ ∧
    passing.capZero .f1 = false ∧ passing.hold .f = false ∧ passing.loopOpen .f = false ∧ (passing.car .f1).p ≠ none ∧
    crawls homing .f1 ∧ homing.capZero .f1 = false ∧ (homing.telegramTo .f1 1).cap ≤ 100 := by decide

theorem test_speed_cap_zero :
    capIsZero (yard.setSeg .f 0 ⟨some (.operator .l1), none, some .f1, []⟩) .f1 ∧
    (yard.setSeg .f 0 ⟨some (.operator .l1), none, some .f1, []⟩).speedCap .f1 = 0 :=
  ⟨Or.inr (Or.inr (Or.inl ⟨(5000, 8000), rfl, 0, by decide, by decide⟩)), by decide⟩

theorem test_not_cap_zero : ¬ capIsZero passing .f1 := by
  rintro (h | h | ⟨r, hr, k, hk, hf⟩ | h)
  · exact absurd h (by decide)
  · exact absurd h (by decide)
  · cases hr
    revert hf
    revert k
    decide
  · exact absurd h (by decide)

/-- F1 RUNNING with the whole corridor granted. -/
def granted : State :=
  { passing with
    segments :=
      ⟨⟨[(0, ⟨none, some (.f1, .south), none, []⟩), (1, ⟨none, some (.f1, .south), none, []⟩),
        (2, ⟨none, some (.f1, .south), none, []⟩)]⟩, ⟨[]⟩⟩ }

theorem test_set_points :
    granted.setMode .f1 = .run ∧ 0 < (granted.telegramTo .f1 1).cap ∧ (granted.telegramTo .f1 1).target = 15000 ∧
    pulling.setMode .f1 = .pull ∧ pushing.setMode .f1 = .push ∧ (pulling.telegramTo .f1 1).side = some .left ∧
    yard.setMode .f1 = .hold ∧ (granted.modStop .f fun _ => Stop.start .opened).setMode .f1 = .brake := by decide

/-- The same going north, with the segment under it and the one south of it held. -/
def northbound : State :=
  { passing with
    segments := ⟨⟨[(0, ⟨some (.operator .l1), none, none, []⟩), (1, ⟨none, some (.f1, .north), none, []⟩)]⟩, ⟨[]⟩⟩
  }.modCar .f1 fun v => { v with p := some 9000, offset := some 0, leg := some ⟨2000, .north⟩ }

theorem test_authority :
    granted.authorityEnd .f1 = some (24000, .runEnd) ∧ granted.targetDistance .f1 = some 10000 ∧
    granted.availableDistance .f1 = 24000 - 8100 - (granted.timing .f).margin ∧
    (granted.modSeg .f 2 fun g => { g with fence := some (.operator .l1) }).authorityEnd .f1 = some (16000, .fenceEnd) ∧
    northbound.heldRun .f1 = [1] ∧ northbound.authorityEnd .f1 = some (8000, .runEnd) ∧ northbound.targetDistance .f1 = some 7000 ∧
    northbound.availableDistance .f1 = 8900 - 8000 - (northbound.timing .f).margin ∧
    (northbound.modSeg .f 0 fun g => { g with fence := none, running := some (.f1, .north) }).authorityEnd .f1 = some (0, .runEnd) ∧
    (northbound.modSeg .f 0 fun g => { g with running := some (.f1, .north) }).authorityEnd .f1 = some (8000, .fenceEnd) ∧
    yard.authorityEnd .f1 = none ∧ yard.availableDistance .f1 = 0 ∧ granted.layout.bounds .f 2 = some (16000, 24000) := by decide

/-! ## Track and positions -/

theorem test_grants :
    ((passing.setSeg .f 1 ⟨some (.operator .l1), none, none, []⟩).seg .f 1).fence ≠ none ∧
    (((passing.setSeg .f 1 ⟨some (.operator .l1), none, none, []⟩).grantRequest .f1).seg .f 1).running = none ∧
    ((passing.grantRequest .f1).seg .f 1).running = some (.f1, .south) ∧
    ((passing.setSeg .f 1 ⟨none, none, some .f2, []⟩).seg .f 1).holds .f2 = true ∧
    (((passing.setSeg .f 1 ⟨none, none, some .f2, []⟩).grantRequest .f1).seg .f 1).running = none ∧
    (passing.heldRun .f1).getLast? = some 0 ∧ (passing.seg .f 1).fence = none ∧ (passing.seg .f 1).running = none ∧
    passing.requestList .f1 .south (passing.requestStretch .f1 ⟨15000, .south⟩ 5000 ⟨3000, 400, .south, 1⟩).2 = [1] ∧
    northbound.requestList .f1 .north (northbound.requestStretch .f1 ⟨2000, .north⟩ 9000 ⟨3000, 400, .south, 1⟩).2 = [0] ∧
    (((passing.setSeg .f 0 Segment.blank).grantRequest .f1).seg .f 0).running = some (.f1, .south) ∧
    shop.mode = .configuring ∧ (yard.car .f1).state ≠ .running ∧ (yard.car .f1).state ≠ .homing := by decide

theorem test_one_carriage_before_and_after : OneCarriage yard ∧ OneCarriage (passing.grantRequest .f1) := by
  constructor <;>
    (intro c
     refine ⟨by cases c <;> decide, fun k n m hn hm => ?_⟩
     cases c <;> rcases k with _ | _ | _ | k <;> cases n <;> first
       | exact absurd hn (by decide)
       | exact absurd (show false = true from hn) (by decide)
       | (cases m <;> first | rfl | exact absurd hm (by decide)))

theorem test_odometer :
    (passing.car .f1).p = some 5000 ∧ (passing.car .f1).offset = some 0 ∧ (passing.car .f1).returned = false ∧
    ((passing.trackOdometer .f1 40).car .f1).p = some 40 ∧ ((passing.trackOdometer .f1 40).car .f1).dir = some .south ∧
    ((passing.modCar .f1 fun v => { v with offset := none }).car .f1).offset = none ∧
    (((passing.modCar .f1 fun v => { v with offset := none }).trackOdometer .f1 40).car .f1).offset = some 4960 ∧
    (yard.car .f2).p = none := by decide

/-- F1 with its odometer run to the edge of each of the tracker's checks. -/
theorem test_tracker_limits :
    let far (d : Nat) (slip : Bool) := passing.modCar .f1 fun v => { v with uBase := 1400, sinceCorrection := d, slip := slip }
    let at_ (p : Int) := passing.modCar .f1 fun v => { v with p := some p }
    (((far 5000 false).refreshU .f1).car .f1).u = 1500 ∧ (((far 5000 false).refreshU .f1).car .f1).state = .running ∧
    (((far 5001 false).refreshU .f1).car .f1).u = 1500 ∧ (((far 5001 false).refreshU .f1).car .f1).faultKind = some .positionLost ∧
    (((far 2501 true).refreshU .f1).car .f1).faultKind = some .positionLost ∧ (((far 1 false).refreshU .f1).car .f1).u = 1401 ∧
    (at_ (-100)).checkEnds .f1 = at_ (-100) ∧ (((at_ (-101)).checkEnds .f1).car .f1).p = some 0 ∧
    (at_ 21100).checkEnds .f1 = at_ 21100 ∧ (((at_ 21101).checkEnds .f1).car .f1).p = some 21000 ∧
    (((at_ 21101).checkEnds .f1).car .f1).state = .faulted := by decide

theorem test_tracker_marks :
    let run (d : Nat) := passing.modCar .f1 fun v => { v with sinceHoming := d }
    (((run 2000000).checkRehome .f1 1999999).car .f1).rehome = true ∧ (run 1999999).checkRehome .f1 0 = run 1999999 ∧
    (run 2000001).checkRehome .f1 2000000 = run 2000001 ∧
    (((passing.setGate .f 1 { Gate.blank with attributed := some .f1 }).modCar .f1 fun v => { v with speed := 0 }).markStandstill
      .f1).gate .f 1 = { Gate.blank with attributed := some .f1, standstill := true } ∧
    (((faulted .transferInterrupted).fault .f1 .positionLost none).car .f1).faultKind = some .positionLost ∧
    (faulted .positionLost).fault .f1 .transferInterrupted none = faulted .positionLost ∧
    ((passing.track .f1 300).car .f1).prevAnswer = some (300, 106) ∧
    (((passing.modCar .f1 fun v => { v with p := none, lastOdometer := none, dir := none }).trackOdometer .f1 300).car .f1).dir = none := by
  decide

/-! ## Ports -/

theorem test_overrun :
    (waiting yard .l1).powered = true ∧ ((waiting yard .l1).link .l1).outstanding ≠ none ∧
    asked (.status .l1 (.args ())) = some (.l1, .status, true) ∧ asked (.benchGet .l1 .malformed) = some (.l1, .benchGet, false) ∧
    ((after (.status .l1 (.args ())) (waiting yard .l1)).link .l1).overrun = true ∧
    (yard.link .l1).outstanding = none ∧ after (.overrun .l1) yard = yard := by decide

theorem test_port_refusals :
    asked (.move .l1 .malformed) = some (.l1, .move, false) ∧ said (after (.move .l1 .malformed) yard) .l1 = some .badForm ∧
    asked (.move .l2 (.args ⟨.bench 7, 3, none, .known .normal⟩)) = some (.l2, .move, true) ∧ shop.mode = .configuring ∧
    said (after (.move .l2 (.args ⟨.bench 7, 3, none, .known .normal⟩)) shop) .l2 = some .mode ∧
    yard.mayAsk .l2 .move = false ∧ yard.mayAsk .l3 .move = false ∧
    said (after (.move .l2 (.args ⟨.bench 7, 3, none, .known .normal⟩)) yard) .l2 = some .denied := by decide

/-- Pins with gate input 1 present. -/
def pins : Pins := ⟨[1], .closed, .opened⟩

theorem test_requests_read_back :
    requestText (.move .l1 (.args ⟨.laneEnd 5 (.known .t), 120, some (.known .f), .known .urgent⟩)) =
      words ["MOVE", "LANE", "END", "5", "T", "120", "F", "URGENT"] ∧
    readRequest .l1 .clear pins (words ["FETCH"]) = some (.fetch .l1 (.args none)) ∧
    readRequest .l1 .clear pins (words ["FETCH", "X"]) = some (.fetch .l1 .malformed) ∧
    readRequest .l1 .clear pins (words ["FETCHES"]) = none ∧
    wordsInPlace (words ["BENCH", "FOO", "7"]) = words ["BENCH", "FOO"] ∧ wordsInPlace (words ["FOO", "7"]) = words ["FOO"] ∧
    readLine .l1 .present pins (closeLine ">LAYOUT SET GATE F 40 96".toList) =
      some (.layoutSet .l1 (.args (.gate (.known .f) 40 96 .present))) ∧
    readNumber "9999999999".toList = some 9999999999 ∧ readNumber "10000000000".toList = none ∧ readNumber [] = none ∧
    readNamed [("ON", true)] "O_1".toList = some .unknown ∧ readNamed [("ON", true)] "_ON".toList = none := by decide

/-- A line whose words are no request's is answered SYNTAX with those words, and is an overrun where a request is outstanding. -/
theorem test_unlisted_words :
    let line := fun t : String => readLine .l1 .clear pins (closeLine t.toList)
    let told := fun ws => (((after (.status .l1 (.unlisted (words ws))) yard).link .l1).answer.map AnswerLine.text)
    line ">FETCHES" = some (.status .l1 (.unlisted (words ["FETCHES"]))) ∧
    line ">BENCH" = some (.status .l1 (.unlisted (words ["BENCH"]))) ∧
    line ">BENCH FOO 3" = some (.status .l1 (.unlisted (words ["BENCH", "FOO"]))) ∧
    line ">STATUS 1" = some (.status .l1 .malformed) ∧
    told ["FETCHES"] = some (closeLine "<FETCHES SYNTAX".toList) ∧ told ["BENCH", "FOO"] = some (closeLine "<BENCH FOO SYNTAX".toList) ∧
    asked (.status .l1 (.unlisted (words ["FOO"]))) = some (.l1, .other (words ["FOO"]), false) ∧
    requestText (.status .l1 (.unlisted (words ["BENCH", "FOO"]))) = words ["BENCH", "FOO"] ∧
    ((after (.status .l1 (.unlisted (words ["FOO"]))) (waiting yard .l1)).link .l1).overrun = true := by decide

theorem test_requests_in_form :
    SpelledAt .present pins (.layoutSet .l1 (.args (.gate (.known .f) 40 96 .present))) ∧
    SpelledAt .clear pins (.fetch .l1 (.args (some 9999999999))) ∧
    asked (.fetch .l1 (.args (some 9999999999))) = some (.l1, .fetch, true) ∧
    requestText (.fetch .l1 (.args (some 9999999999))) = words ["FETCH", "9999999999"] := by
  exact ⟨rfl, trivial, by decide, by decide⟩

/-! ## Requests that read -/

theorem test_reads_layout_and_inventory :
    Ready yard .l1 ∧ (ItemKey.lane 120).form = true ∧ keyOk (.lane 120) = true ∧ keyOk (.lane 121) = false ∧
    said (after (.layoutGet .l1 (.args (.lane 121))) yard) .l1 = some .range ∧
    said (after (.layoutGet .l1 (.args (.lane 120))) yard) .l1 = some .unknown ∧
    said (after (.layoutGet .l1 (.args (.lane 1))) yard) .l1 = some .ok ∧
    said (after (.laneGet .l1 (.args 0)) yard) .l1 = some .range ∧ said (after (.laneGet .l1 (.args 120)) yard) .l1 = some .unknown ∧
    said (after (.laneGet .l1 (.args 4)) yard) .l1 = some .ok ∧ said (after (.benchGet .l1 (.args 4001)) yard) .l1 = some .range ∧
    said (after (.benchGet .l1 (.args 4000)) yard) .l1 = some .unknown ∧
    said (after (.benchGet .l1 (.args 7)) yard) .l1 = some .ok := by decide

theorem test_reads_records :
    Ready passing .l3 ∧ said (after (.orderGet .l3 (.args 65536)) passing) .l3 = some .range ∧
    said (after (.orderGet .l3 (.args 5)) passing) .l3 = some .ok ∧ said (after (.orderGet .l3 (.args 65535)) passing) .l3 = some .unknown ∧
    said (after (.orderList .l3 (.args (some 4))) passing) .l3 = some .range ∧
    said (after (.orderList .l3 (.args (some 3))) passing) .l3 = some .ok ∧
    said (after (.carriageGet .l3 (.args (.known .f2))) passing) .l3 = some .unknown ∧
    said (after (.carriageGet .l3 (.args (.known .f1))) passing) .l3 = some .ok ∧
    said (after (.authorityGet .l3 (.args (.known .t1))) passing) .l3 = some .ok ∧
    said (after (.segmentGet .l3 (.args ⟨.known .f, 39⟩)) passing) .l3 = some .ok ∧
    said (after (.segmentGet .l3 (.args ⟨.known .f, 40⟩)) passing) .l3 = some .range ∧
    said (after (.gateGet .l3 (.args ⟨.known .f, 40⟩)) passing) .l3 = some .ok ∧
    said (after (.gateGet .l3 (.args ⟨.known .f, 41⟩)) passing) .l3 = some .range ∧
    said (after (.lineGet .l3 (.args (.known .t))) passing) .l3 = some .ok := by decide

theorem test_read_fields :
    yard.itemFields (.segment (.known .f) 2) = some [.num 8000, .num 16000, .num 24000] ∧
    yard.itemFields (.gate (.known .f) 3) = some [.num 4, .num 24000] ∧
    ({ lay with segments := ⟨lay.segments.f.del 1, lay.segments.t⟩ } : Layout).bounds .f 2 = none ∧
    ({ lay with segments := ⟨lay.segments.f.del 1, lay.segments.t⟩ } : Layout).gatePos .f 2 = some 24000 ∧
    ({ lay with segments := ⟨lay.segments.f.del 1, lay.segments.t⟩ } : Layout).gatePos .f 1 = none ∧
    keyOk (.segment (.known .f) 39) = true ∧ keyOk (.segment (.known .f) 40) = false ∧ keyOk (.gate (.known .t) 40) = true ∧
    keyOk (.gate (.known .t) 41) = false ∧ keyOk (.lane 0) = false ∧ keyOk (.link 3) = true ∧ keyOk (.link 4) = false ∧
    (straddle 1).laneFields 1 =
      [.num 1, .word "BAY", .word "NONE", .num 5, .word "F", .word "LEFT", .num 10000, .word "T", .word "RIGHT", .num 10000, .nums [],
        .num 0, .num 0, .word "F", .num 1, .nums [7], .word "T1"] ∧
    yard.benchFields 8 (lying (.inLane 4)) =
      [.num 8, .num 1, .word "READY", .word "NONE", .word "IN_LANE", .num 4, .num 0, .word "VERIFIED", .word "NONE",
        .word "NONE", .num 0] := by
  decide

theorem test_status :
    Ready yard .l2 ∧ said (after (.status .l2 (.args ())) yard) .l2 = some .ok := by decide

/-! ## Starts, power and the store -/

/-- The yard saved, with a write of link 2's under way. -/
def saving : State := { shop with saved := ⟨lay, true⟩, storeBusy := some .l2 }

theorem test_power_rows :
    dark.powered = false ∧ after (.powerOn pins) dark = dark.start pins true ∧ yard.powered = true ∧
    after (.powerOn pins) yard = (yard.powerFails false).start pins true ∧
    (after (.powerLoss true) saving).saved.valid = false ∧ (after (.powerLoss true) saving).retainedAgrees = false ∧
    Asks shop .l1 .restart ∧ shop.storeBusy = none ∧ said (after (.restart .l1 (.args ()) pins) shop) .l1 = some .ok ∧
    Asks saving .l1 .restart ∧ saving.storeBusy ≠ none ∧
    said (after (.restart .l1 (.args ()) pins) saving) .l1 = some .busy := by decide +kernel

theorem test_start_clears_what_was_lost :
    ({ saving with retainedAgrees := false } : State).retainedAgrees = false ∧
    (({ saving with retainedAgrees := false } : State).start pins true).mode = .running ∧
    (({ saving with retainedAgrees := false } : State).start pins true).benches = Table.empty ∧
    ((({ saving with retainedAgrees := false } : State).start pins true).link .l1).queue.length = 2 ∧
    (({ saving with retainedAgrees := false } : State).start pins true).stop .t = Stop.start .opened := by decide +kernel

/-- The saved yard in which F1 was pulling bench 7. -/
def cutOff : State := { pulling with saved := ⟨lay, true⟩ }

theorem test_start_places_carriages :
    (cutOff.start pins false).item .f1 ≠ none ∧ (cutOff.car .f1).mark = some ⟨2, .f, 7⟩ ∧
    (∀ m ∈ CarriageName.all, m ≠ .f1 → (cutOff.car m).mark.map (·.bench) ≠ some 7) ∧
    cutOff.bench? 7 = some { lying (.inLane 2) with claim := some 5 } ∧
    ((cutOff.start pins false).car .f1).state = .unhomed ∧ ((cutOff.start pins false).car .f1).u = 1100 ∧
    ((cutOff.start pins false).car .f1).load = .straddled ∧
    ((cutOff.start pins false).bench? 7).map Bench.place = some (.straddling .f1 2 .f) := by decide +kernel

/-- The same at the F mouth of BAY lane 1, where bench 7 stands in the list, before power returns with retained memory agreeing. -/
def cutOffAtBay : State :=
  { cutOff.modCar .f1 (fun v => { v with mark := some ⟨1, .f, 7⟩, speed := 300, misses := 2, link := .lost, returned := true }) with
    powered := false, lanes := ⟨[(1, ⟨[7], 2, 2, some .f, some .t1⟩)]⟩, book := [job .pulling (some .f1)]
    benches := ⟨[(7, { lying (.inLane 1) with claim := some 5, lastMoved := 9 })]⟩ }

theorem test_start_from_agreeing_memory :
    cutOffAtBay.retainedAgrees = true ∧ (cutOffAtBay.start pins true).isBay 1 = true ∧
    ((cutOffAtBay.start pins true).lane 1) = ⟨[], 0, 0, some .f, none⟩ ∧
    (cutOffAtBay.start pins true).bench? 7 = some (lying (.straddling .f1 1 .f)) ∧
    ((cutOffAtBay.start pins true).car .f1) =
      { Carriage.blank with state := .unhomed, p := some 5000, u := 1100, uBase := 1100, load := .straddled } ∧
    (cutOffAtBay.start pins true).line .f = Line.blank ∧ ((cutOffAtBay.start pins true).seg .f 0).standing = some .f1 ∧
    ((cutOffAtBay.start pins true).seg .f 2).standing = none ∧ ((cutOffAtBay.start pins true).gate .f 0).level = .present ∧
    (¬ StraddlesAt (cutOffAtBay.start pins true) 2 .f) := by
  refine ⟨by decide, by decide +kernel, by decide +kernel, by decide +kernel, by decide +kernel, by decide +kernel, by decide +kernel,
    by decide +kernel, by decide +kernel, ?_⟩
  have h : (cutOffAtBay.start pins true).benches.entries = [(7, lying (.straddling .f1 1 .f))] := by decide +kernel
  rintro ⟨e, he, n, hp⟩
  rw [h, List.mem_singleton] at he
  subst he
  cases hp

theorem test_start_reads_levels :
    (cutOff.start ⟨[4], .closed, .closed⟩ false).gateInput .f 3 = some 4 ∧
    ((cutOff.start ⟨[4], .closed, .closed⟩ false).gate .f 3).level = .present ∧
    ((cutOff.start ⟨[4], .closed, .closed⟩ false).gate .f 2).level = .clear := by decide +kernel

theorem test_save :
    Asks shop .l1 .save ∧ shop.check = none ∧ (after (.save .l1 (.args ())) shop).storeBusy = some .l1 ∧
    said (after (.save .l1 (.args ())) shop) .l1 = none ∧ Asks saving .l1 .save ∧ saving.storeBusy = some .l2 ∧
    said (after (.save .l1 (.args ())) saving) .l1 = some .busy ∧ said (after (.save .l1 (.args ())) yard) .l1 = some .mode ∧
    NothingOwed saving ∧ said (after (.saveComplete true) saving) .l2 = some .ok ∧
    said (after (.saveComplete false) saving) .l2 = some .storeFailed ∧ after (.saveComplete true) yard = yard := by decide

/-! ## The layout and the mode -/

theorem test_layout_set :
    Asks shop .l1 .layoutSet ∧ (LayoutEdit.remove (.lane 9)).form = true ∧ shop.itemFields (.lane 9) = none ∧
    said (after (.layoutSet .l1 (.args (.remove (.lane 9)))) shop) .l1 = some .unknown ∧
    shop.itemFields (.lane 4) ≠ none ∧ shop.editOk (.remove (.lane 4)) = true ∧
    said (after (.layoutSet .l1 (.args (.remove (.lane 4)))) shop) .l1 = some .ok ∧
    shop.editOk (.corridor (.known .f) 3999) = false ∧
    said (after (.layoutSet .l1 (.args (.corridor (.known .f) 3999))) shop) .l1 = some .range ∧
    said (after (.layoutSet .l1 (.args (.corridor (.known .f) 4000))) saving) .l1 = some .busy ∧
    said (after (.layoutSet .l1 (.args (.corridor (.known .f) 4000))) yard) .l1 = some .mode := by decide

/-- Bench 7 straddling at lane 1's F mouth in CONFIGURING. -/
def straddling : State := { straddle 1 with mode := .configuring }

theorem test_layout_set_gates_and_lanes :
    shop.gateInput .f 1 = some 2 ∧ shop.gateInput .f 40 = none ∧
    ((after (.layoutSet .l1 (.args (.gate (.known .f) 40 96 .present))) shop).gate .f 40).level = .present ∧
    (after (.layoutSet .l1 (.args (.gate (.known .f) 1 96 .present))) shop).inputLevel 96 = .present ∧
    ((after (.layoutSet .l1 (.args (.gate (.known .f) 1 2 .present))) shop).gate .f 1).level = .clear ∧
    ((after (.layoutSet .l1 (.args (.lane 1 .bay none 32))) straddling).lane 1).lock = some .f ∧
    ((after (.layoutSet .l1 (.args (.lane 1 (.station) (some (.known .source)) 4))) straddling).lane 1).lock = none ∧
    ((after (.layoutSet .l1 (.args (.lane 120 .bay none 1))) shop).laneItem 120) = some ⟨.bay, none, 1⟩ ∧
    ((after (.layoutSet .l1 (.args (.remove (.lane 1)))) straddling).lane 1).lock = none ∧
    StraddlesAt straddling 1 .f := by
  refine ⟨by decide, by decide, by decide, by decide, by decide, by decide, by decide, by decide, by decide, ?_⟩
  exact ⟨(7, lying (.straddling .f1 1 .f)), by decide, .f1, rfl⟩

theorem test_layout_set_links_and_carriages :
    said (after (.layoutSet .l1 (.args (.link 1 [.known .order]))) shop) .l1 = some .range ∧
    (after (.layoutSet .l1 (.args (.link 3 [.known .order]))) shop).layout.perms.get .l3 = some [.order] ∧
    said (after (.layoutSet .l1 (.args (.remove (.link 1)))) shop) .l1 = some .range ∧
    (after (.layoutSet .l1 (.args (.remove (.link 2)))) shop).layout.perms.get .l2 = none ∧
    ((after (.layoutSet .l1 (.args (.carriage (.known .f1) 6000 (.known (some 100)) (.known .north) 3))) shop).item .f1)
      = some ⟨6000, 100, .north, 3⟩ ∧
    ((after (.layoutSet .l1 (.args (.carriage (.known .f1) 3000 (.known none) (.known .south) 3)))
      (shop.modLine .f fun w => { w with toCall := [(1, .f1)] })).line .f).toCall = [] ∧
    ((after (.layoutSet .l1 (.args (.carriage (.known .f1) 3000 (.known none) (.known .south) 1)))
      (shop.modLine .f fun w => { w with toCall := [(1, .f1)] })).line .f).toCall = [(1, .f1)] ∧
    ((after (.layoutSet .l1 (.args (.remove (.carriage (.known .f1))))) (calling shop .hold)).seg .f 0).standing = none ∧
    (((after (.layoutSet .l1 (.args (.remove (.carriage (.known .f1))))) (calling shop .hold)).line .f).inFlight.bind (·.carriage))
      = none ∧
    said (after (.layoutSet .l1 (.args (.remove (.segment (.known .f) 2)))) shop) .l1 = some .ok ∧
    said (after (.layoutSet .l1 (.args (.remove (.gate (.known .f) 3)))) shop) .l1 = some .ok ∧
    said (after (.layoutSet .l1 (.args (.remove (.mouth 1 (.known .t))))) shop) .l1 = some .ok ∧
    said (after (.layoutSet .l1 (.args (.remove (.corridor (.known .f))))) shop) .l1 = some .range ∧
    said (after (.layoutSet .l1 (.args (.remove (.timing (.known .unit))))) shop) .l1 = some .range := by decide

theorem test_edit_ranges :
    shop.editOk (.segment (.known .f) 39 12000) = true ∧ shop.editOk (.segment (.known .f) 40 12000) = false ∧
    shop.editOk (.gate (.known .f) 40 96 .clear) = true ∧ shop.editOk (.gate (.known .f) 41 96 .clear) = false ∧
    shop.editOk (.lane 120 .station (some (.known .sink)) 4) = true ∧ shop.editOk (.lane 120 .station none 4) = false ∧
    shop.editOk (.lane 3 .buffer none 0) = false ∧ shop.editOk (.mouth 120 (.known .t) (.known .left) 200000) = true ∧
    shop.editOk (.mouth 120 .unknown (.known .left) 0) = false ∧
    shop.editOk (.carriage (.known .f2) 2000 (.known none) (.known .north) 1) = false ∧
    shop.editOk (.carriage (.known .f2) 2000 (.known none) (.known .north) 2) = true ∧
    shop.editOk (.timing .f 1200 1000 2000 200 50 1000) = true ∧ shop.editOk (.timing .f 1201 1000 2000 200 50 1000) = false ∧
    shop.editOk (.timingUnit 30 0 500) = true ∧ shop.editOk (.timingUnit 29 0 500) = false := by decide

theorem test_layout_set_one_item :
    Asks shop .l1 .layoutSet ∧ shop.storeBusy = none ∧
    (after (.layoutSet .l1 (.args (.corridor (.known .f) 4000))) shop).layout.length.get .f = some 4000 ∧
    (after (.layoutSet .l1 (.args (.corridor (.known .t) 200000))) shop).layout.length.get .t = some 200000 ∧
    ((after (.layoutSet .l1 (.args (.segment (.known .f) 39 12000))) shop).layout.segments.get .f).get? 39 = some 12000 ∧
    said (after (.layoutSet .l1 (.args (.segment (.known .f) 0 2000))) shop) .l1 = some .ok ∧
    said (after (.layoutSet .l1 (.args (.mouth 120 (.known .t) (.known .left) 200000))) shop) .l1 = some .ok ∧
    said (after (.layoutSet .l1 (.args (.mouth 1 (.known .t) (.known .left) 0))) shop) .l1 = some .ok ∧
    said (after (.layoutSet .l1 (.args (.timing .f 200 100 200 20 5 200))) shop) .l1 = some .ok ∧
    said (after (.layoutSet .l1 (.args (.timing .f 1200 1000 2000 200 50 1000))) shop) .l1 = some .ok ∧
    said (after (.layoutSet .l1 (.args (.timingUnit 30 0 500))) shop) .l1 = some .ok ∧
    said (after (.layoutSet .l1 (.args (.timingUnit 600 3000 10000))) shop) .l1 = some .ok := by decide

theorem test_layout_set_creates :
    Asks shop .l1 .layoutSet ∧ shop.item .f2 = none ∧
    shop.editOk (.carriage (.known .f2) 3000 (.known none) (.known .north) 2) = true ∧
    ((after (.layoutSet .l1 (.args (.carriage (.known .f2) 3000 (.known none) (.known .north) 2))) shop).car .f2).state = .unplaced ∧
    (after (.layoutSet .l1 (.args (.carriage (.known .f2) 3000 (.known none) (.known .north) 2))) shop).item .f2
      = some ⟨3000, 400, .north, 2⟩ := by decide

/-- The shop with F2's retained position and load, but no CARRIAGE item of its name. -/
def remembering (u : Nat) : State :=
  shop.setCar .f2 { Carriage.blank with p := some 12000, u := u, uBase := u, load := .bench 9 }

/-- The corridor of a created drive waits for its first set-point before it gives out work (R116). -/
theorem test_created_drive_is_awaited :
    (after (.layoutSet .l1 (.args (.carriage (.known .f2) 3000 (.known none) (.known .north) 2))) shop).starting = ⟨true, false⟩ ∧
    (after (.layoutSet .l1 (.args (.carriage (.known .f1) 3000 (.known none) (.known .north) 2))) shop).starting = ⟨false, false⟩ := by
  decide

theorem test_layout_set_creates_placed :
    (remembering 499).item .f2 = none ∧
    ((after (.layoutSet .l1 (.args (.carriage (.known .f2) 3000 (.known none) (.known .north) 2))) (remembering 499)).car .f2)
      = { Carriage.blank with state := .unhomed, p := some 12000, u := 1499, uBase := 1499, load := .bench 9 } ∧
    ((after (.layoutSet .l1 (.args (.carriage (.known .f2) 3000 (.known none) (.known .north) 2))) (remembering 500)).car .f2)
      = { Carriage.blank with state := .unplaced, p := some 12000, u := 1500, uBase := 1500, load := .bench 9 } := by decide

/-- Two carriages that want the middle segment of corridor F. -/
def crowd : State :=
  { shop with
    layout := { lay with carriages := ⟨some ⟨3000, 400, .south, 1⟩, some ⟨3000, 400, .south, 2⟩, none,
      some ⟨3000, 400, .south, 1⟩, none, none⟩ }
    carriages := ⟨idleAt 9000, idleAt 12500, Carriage.blank, idleAt 5000, Carriage.blank, Carriage.blank⟩ }

theorem test_modes :
    Asks yard .l1 .modeConfigure ∧ yard.book = [] ∧ yard.working = false ∧
    (after (.modeConfigure .l1 (.args ())) yard).mode = .configuring ∧
    said (after (.modeConfigure .l1 (.args ())) passing) .l1 = some .busy ∧ passing.book ≠ [] ∧
    Asks shop .l1 .modeRun ∧ shop.check = none ∧ (after (.modeRun .l1 (.args ())) shop).mode = .running ∧
    State.reset.check = some (.corridor .f) ∧ said (after (.modeRun .l1 (.args ())) State.reset) .l1 = some .range ∧
    said (after (.modeRun .l1 (.args ())) yard) .l1 = some .ok ∧
    said (after (.modeRun .l1 (.args ())) saving) .l1 = some .busy := by decide

theorem test_check_names_the_first_item :
    ({ shop with layout := { lay with length := ⟨some 24000, none⟩ } } : State).check = some (.corridor .t) ∧
    ({ shop with layout := { lay with segments := ⟨⟨[(0, 8000), (2, 16000)]⟩, ⟨[(0, 24000)]⟩⟩ } } : State).check = some (.segment .f 1) ∧
    ({ shop with layout := { lay with segments := ⟨lay.segments.f, ⟨[(0, 24000)]⟩⟩ } } : State).check = some (.corridor .t) ∧
    ({ shop with layout := { lay with gates := ⟨lay.gates.f.del 1, lay.gates.t⟩ } } : State).check = some (.gate .f 1) ∧
    ({ shop with layout := { lay with gates := ⟨lay.gates.f, lay.gates.t.put 4 20⟩ } } : State).check = some (.gate .t 4) ∧
    ({ shop with layout := { lay with gates := ⟨lay.gates.f, lay.gates.t.put 2 1⟩ } } : State).check = some (.gate .t 2) ∧
    ({ shop with layout := { lay with mouths := ⟨lay.mouths.f.put 4 ⟨.left, 21001⟩, lay.mouths.t⟩ } } : State).check = some (.mouth 4 .f) ∧
    ({ shop with layout := { lay with mouths := ⟨lay.mouths.f.put 4 ⟨.left, 21000⟩, lay.mouths.t⟩ } } : State).check = none ∧
    ({ shop with layout := { lay with mouths := ⟨lay.mouths.f, ⟨[]⟩⟩ } } : State).check = some (.lane 1) := by decide

theorem test_check_judges_the_inventory :
    ({ shop with lanes := shop.lanes.put 4 ⟨[8, 11, 12, 13, 14], 0, 0, none, none⟩ } : State).check = some (.lane 4) ∧
    ({ shop with lanes := shop.lanes.put 9 ⟨[8], 0, 0, none, none⟩ } : State).check = some (.lane 9) ∧
    (shop.setBench 11 (lying (.straddling .t1 3 .t))).check = some (.lane 3) ∧
    (shop.setBench 11 (lying (.aboard .f2))).check = some (.carriage .f2) ∧
    ({ shop with layout := { lay with carriages := lay.carriages.set .f1 none } } : State).check = some (.carriage .f1) ∧
    ({ shop with layout := { lay with carriages := lay.carriages.set .t2 (some ⟨3000, 400, .south, 1⟩) } } : State).check
      = some (.carriage .t2) ∧
    ({ shop with layout := { lay with carriages := lay.carriages.set .t3 (some ⟨3000, 400, .south, 2⟩) } } : State).check
      = some (.carriage .t2) ∧
    ({ shop with layout := { lay with perms := ⟨some [], none, some []⟩ } } : State).check = some (.link .l1) := by decide

theorem test_mode_run_seats :
    Asks crowd .l1 .modeRun ∧ crowd.check = none ∧ 1 ∈ crowd.segsInUse .f ∧ crowd.wanting .f 1 = [.f1, .f2] ∧
    ((after (.modeRun .l1 (.args ())) crowd).seg .f 1).fence = some (.auto .restartOverlap) ∧
    0 ∈ crowd.segsInUse .t ∧ crowd.wanting .t 0 = [.t1] ∧
    ((after (.modeRun .l1 (.args ())) crowd).seg .t 0).standing = some .t1 := by decide

theorem test_mode_run_drops_stale_fences :
    let s := ((crowd.setSeg .f 3 ⟨some (.operator .l1), none, some .f1, []⟩).setSeg .f 2 ⟨some (.operator .l2), none, some .f2, []⟩)
    s.check = none ∧ s.layout.segCount .f = 3 ∧ 3 ∉ s.segsInUse .f ∧
    ((after (.modeRun .l1 (.args ())) s).seg .f 3) = Segment.blank ∧
    ((after (.modeRun .l1 (.args ())) s).seg .f 2).fence = some (.operator .l2) ∧ s.wanting .f 2 = [] ∧
    ((after (.modeRun .l1 (.args ())) s).seg .f 2).standing = none := by decide

/-! ## The inventory -/

theorem test_arrive :
    Asks yard .l1 .arrive ∧ (ArriveArgs.mk 9 2 65535 (.known .ready) (some 999999)).form = true ∧
    yard.laneItem 2 = some ⟨.station, some .source, 4⟩ ∧ yard.bench? 9 = some (lying .outside) ∧
    (yard.lane 2).benches.length + (yard.straddlers 2).length + (yard.lane 2).incoming < 4 ∧
    ((after (.arrive .l1 (.args ⟨9, 2, 65535, .known .ready, some 999999⟩)) yard).lane 2).benches = [7, 9] ∧
    yard.bench? 4000 = none ∧ said (after (.arrive .l1 (.args ⟨4000, 2, 0, .known .empty, none⟩)) yard) .l1 = some .ok ∧
    arriveRefusal yard ⟨9, 3, 0, .known .ready, none⟩ = some .range ∧
    said (after (.arrive .l1 (.args ⟨8, 2, 0, .known .ready, none⟩)) yard) .l1 = some .collision := by decide

theorem test_arrive_refusals :
    arriveRefusal yard ⟨4001, 2, 0, .known .ready, none⟩ = some .range ∧
    arriveRefusal yard ⟨9, 2, 65536, .known .ready, none⟩ = some .range ∧
    arriveRefusal yard ⟨9, 2, 0, .unknown, none⟩ = some .range ∧ arriveRefusal yard ⟨9, 2, 0, .known .ready, some 0⟩ = some .range ∧
    arriveRefusal yard ⟨9, 120, 0, .known .ready, none⟩ = some .unknown ∧ arriveRefusal yard ⟨9, 4, 0, .known .ready, none⟩ = some .range ∧
    arriveRefusal (yard.modBench 9 fun v => { v with claim := some 1 }) ⟨9, 2, 0, .known .ready, none⟩ = some .claimed ∧
    arriveRefusal yard ⟨7, 2, 0, .known .ready, none⟩ = some .collision ∧
    arriveRefusal (yard.modLane 2 fun v => { v with incoming := 3 }) ⟨9, 2, 0, .known .ready, none⟩ = some .laneFull ∧
    arriveRefusal (yard.modLane 2 fun v => { v with incoming := 2 }) ⟨9, 2, 0, .known .ready, none⟩ = none := by decide

theorem test_handoff :
    Asks yard .l1 .handoff ∧ yard.bench? 8 = some (lying (.inLane 4)) ∧ yard.isStation 4 .sink = true ∧
    yard.transferringAt 4 = false ∧ (yard.lane 4).outgoing ≠ (yard.lane 4).benches.length ∧
    ((after (.handoff .l1 (.args 8)) yard).bench? 8).map Bench.place = some .outside ∧
    yard.isStation 2 .sink = false ∧ said (after (.handoff .l1 (.args 7)) yard) .l1 = some .state ∧
    yard.bench? 4000 = none ∧ said (after (.handoff .l1 (.args 4000)) yard) .l1 = some .unknown ∧
    said (after (.handoff .l1 (.args 4001)) yard) .l1 = some .range ∧
    said (after (.handoff .l1 (.args 8)) (yard.modBench 8 fun v => { v with claim := some 1 })) .l1 = some .collision := by decide

/-- The yard with bench 11 aboard F1. -/
def laden : State := (yard.setBench 11 (lying (.aboard .f1))).modCar .f1 fun v => { v with load := .bench 11 }

theorem test_lane_set :
    Asks laden .l1 .laneSet ∧ (LaneSetArgs.mk 3 [9, 11, 12]).form = true ∧ laneSetRefusal laden ⟨3, [9, 11, 12]⟩ = none ∧
    ((after (.laneSet .l1 (.args ⟨3, [9, 11, 12]⟩)) laden).lane 3).benches = [9, 11, 12] ∧
    ((after (.laneSet .l1 (.args ⟨3, [9, 11, 12]⟩)) laden).bench? 10).map Bench.place = some .outside ∧
    ((after (.laneSet .l1 (.args ⟨3, [9, 11, 12]⟩)) laden).bench? 12).map Bench.identity = some .unread ∧
    ((after (.laneSet .l1 (.args ⟨3, [9, 11, 12]⟩)) laden).car .f1).load = .empty ∧
    ((after (.laneSet .l1 (.args ⟨3, [9, 10]⟩)) { laden with millis := 5000 }).bench? 10).map Bench.lastMoved = some 5 ∧
    ((after (.laneSet .l1 (.args ⟨3, [10, 9]⟩)) { laden with millis := 5000 }).bench? 10).map Bench.lastMoved = some 0 ∧
    laneSetRefusal laden ⟨3, [9, 11, 12, 13, 14]⟩ = some .range ∧ laneSetRefusal laden ⟨120, []⟩ = some .unknown ∧
    laneSetRefusal laden ⟨121, []⟩ = some .range ∧ laneSetRefusal (straddle 3) ⟨3, []⟩ = some .collision ∧
    laneSetRefusal (straddle 3) ⟨4, [7]⟩ = some .collision ∧
    laneSetRefusal (laden.modLane 2 fun v => { v with outgoing := 1 }) ⟨3, [7]⟩ = some .collision ∧
    laneSetRefusal laden ⟨3, [9, 9]⟩ = some .range ∧ said (after (.laneSet .l1 (.args ⟨3, [9, 9]⟩)) laden) .l1 = some .range := by
  decide

theorem test_lane_set_takes_from_a_lane :
    (laden.lane 2).benches = [7] ∧ (laden.bench? 7).map Bench.place = some (.inLane 2) ∧
    ((after (.laneSet .l1 (.args ⟨3, [7]⟩)) laden).lane 2).benches = [] ∧
    ((after (.laneSet .l1 (.args ⟨3, [7]⟩)) laden).lane 4).benches = [8] := by decide

theorem test_bench_set :
    Asks yard .l1 .benchSet ∧ (BenchSetArgs.mk 7 (some 65535) (some (.known .held)) (some (.known none))).form = true ∧
    (after (.benchSet .l1 (.args ⟨7, some 65535, some (.known .held), some (.known none)⟩)) yard).bench? 7
      = some { lying (.inLane 2) with batch := 65535, readiness := .held } ∧
    said (after (.benchSet .l1 (.args ⟨4000, some 1, none, none⟩)) yard) .l1 = some .unknown ∧
    said (after (.benchSet .l1 (.args ⟨7, some 65536, none, none⟩)) yard) .l1 = some .range := by decide

theorem test_bench_set_ranges :
    benchSetOk ⟨4000, some 65535, none, some (.known (some 999999))⟩ = true ∧ benchSetOk ⟨1, none, none, some (.known (some 1))⟩ = true ∧
    benchSetOk ⟨0, some 1, none, none⟩ = false ∧ benchSetOk ⟨4001, some 1, none, none⟩ = false ∧
    benchSetOk ⟨1, none, none, some (.known (some 0))⟩ = false ∧ benchSetOk ⟨1, none, none, some (.known (some 1000000))⟩ = false ∧
    benchSetOk ⟨1, none, some .unknown, none⟩ = false ∧ benchSetOk ⟨1, none, none, some .unknown⟩ = false := by decide

theorem test_bench_delete_and_ident :
    Asks yard .l1 .benchDelete ∧ (after (.benchDelete .l1 (.args 9)) yard).bench? 9 = none ∧ yard.bench? 9 ≠ none ∧
    said (after (.benchDelete .l1 (.args 7)) yard) .l1 = some .state ∧ Asks yard .l1 .benchIdent ∧
    ((after (.benchIdent .l1 (.args 7)) (yard.modBench 7 fun v => { v with identity := .doubtful (some 8) })).bench? 7).map
      Bench.identity = some .verified ∧
    said (after (.benchIdent .l1 (.args 4000)) yard) .l1 = some .unknown := by decide

theorem test_bench_swap :
    Asks laden .l1 .benchSwap ∧ laden.bench? 7 = some (lying (.inLane 2)) ∧ laden.bench? 11 = some (lying (.aboard .f1)) ∧
    laden.swapBars (lying (.inLane 2)) = false ∧ laden.swapBars (lying (.aboard .f1)) = false ∧
    ((after (.benchSwap .l1 (.args ⟨7, 11⟩)) laden).car .f1).load = .bench 7 ∧
    ((after (.benchSwap .l1 (.args ⟨7, 11⟩)) laden).lane 2).benches = [11] ∧
    said (after (.benchSwap .l1 (.args ⟨7, 7⟩)) laden) .l1 = some .range ∧
    said (after (.benchSwap .l1 (.args ⟨7, 4000⟩)) laden) .l1 = some .unknown ∧
    (pulling.bench? 7).map pulling.swapBars = some true ∧
    said (after (.benchSwap .l1 (.args ⟨7, 8⟩)) pulling) .l1 = some .collision := by decide

theorem test_bench_settle :
    Asks (straddle 1) .l1 .benchSettle ∧ (straddle 1).bench? 7 = some (lying (.straddling .f1 1 .f)) ∧
    ((after (.benchSettle .l1 (.args ⟨7, .known .inLane⟩)) (straddle 1)).lane 1).benches = [7] ∧
    ((after (.benchSettle .l1 (.args ⟨7, .known .inLane⟩)) (straddle 1)).lane 1).lock = some .t ∧
    ((after (.benchSettle .l1 (.args ⟨7, .known .aboard⟩)) (straddle 3)).car .f1).load = .bench 7 ∧
    said (after (.benchSettle .l1 (.args ⟨8, .known .aboard⟩)) (straddle 1)) .l1 = some .state ∧
    said (after (.benchSettle .l1 (.args ⟨4000, .known .aboard⟩)) (straddle 1)) .l1 = some .unknown ∧
    said (after (.benchSettle .l1 (.args ⟨7, .unknown⟩)) (straddle 1)) .l1 = some .range := by decide

/-! ## Orders -/

theorem test_move :
    Asks yard .l1 .move ∧ yard.mode = .running ∧ (MoveArgs.mk (.bench 7) 3 none (.known .urgent)).form = true ∧
    yard.judgeMove .l1 ⟨.bench 7, 3, none, .known .urgent⟩ = .inr .f ∧
    (after (.move .l1 (.args ⟨.bench 7, 3, none, .known .urgent⟩)) yard).book.map Order.phase = [.fetching] ∧
    ((after (.move .l1 (.args ⟨.bench 7, 3, none, .known .urgent⟩)) yard).lane 3).incoming = 1 ∧
    yard.judgeMove .l1 ⟨.laneEnd 2 (.known .f), 1, none, .known .normal⟩ = .inr .f ∧
    laden.judgeMove .l1 ⟨.aboard (.known .f1), 1, some (.known .f), .known .normal⟩ = .inr .f ∧
    yard.judgeMove .l1 ⟨.bench 9, 3, none, .known .urgent⟩ = .inl .state ∧
    said (after (.move .l1 (.args ⟨.bench 9, 3, none, .known .urgent⟩)) yard) .l1 = some .state := by decide

/-- The yard where the lanes 1 and 2 open on both corridors, and lane 1 is full but for one place. -/
def open2 : State :=
  { yard with layout := { lay with mouths := ⟨lay.mouths.f, ⟨[(1, ⟨.right, 10000⟩), (2, ⟨.right, 2000⟩)]⟩⟩ } }.modLane 1 fun v =>
    { v with incoming := 4 }

theorem test_move_refusals :
    yard.judgeMove .l1 ⟨.bench 4001, 3, none, .known .normal⟩ = .inl .range ∧
    yard.judgeMove .l1 ⟨.bench 7, 121, none, .known .normal⟩ = .inl .range ∧
    yard.judgeMove .l1 ⟨.bench 7, 3, some .unknown, .known .normal⟩ = .inl .range ∧
    yard.judgeMove .l1 ⟨.bench 4000, 3, none, .known .normal⟩ = .inl .unknown ∧
    yard.judgeMove .l1 ⟨.aboard (.known .f2), 3, none, .known .normal⟩ = .inl .unknown ∧
    (yard.modBench 7 fun v => { v with identity := .doubtful none }).judgeMove .l1 ⟨.bench 7, 3, none, .known .normal⟩ = .inl .identity ∧
    (yard.modBench 7 fun v => { v with claim := some 1 }).judgeMove .l1 ⟨.bench 7, 3, none, .known .normal⟩ = .inl .claimed ∧
    yard.judgeMove .l1 ⟨.aboard (.known .f1), 3, none, .known .normal⟩ = .inl .state ∧
    yard.judgeMove .l1 ⟨.bench 10, 2, none, .known .normal⟩ = .inl .noPath ∧
    yard.judgeMove .l1 ⟨.bench 7, 2, none, .known .normal⟩ = .inl .noPath ∧
    yard.judgeMove .l1 ⟨.bench 7, 1, some (.known .t), .known .normal⟩ = .inl .noPath := by decide

theorem test_move_last_refusals :
    open2.judgeMove .l1 ⟨.bench 7, 1, none, .known .normal⟩ = .inl .range ∧
    open2.judgeMove .l1 ⟨.bench 7, 1, some (.known .t), .known .normal⟩ = .inr .t ∧
    (open2.modLane 1 fun v => { v with incoming := 5 }).judgeMove .l1 ⟨.bench 7, 1, some (.known .t), .known .normal⟩ = .inl .laneFull ∧
    (open2.modLane 2 fun v => { v with outgoing := 1 }).judgeMove .l1 ⟨.bench 7, 1, some (.known .t), .known .normal⟩ = .inl .laneEmpty ∧
    ({ open2 with book := List.replicate 24 (job .queued none) } : State).judgeMove .l1 ⟨.bench 7, 1, some (.known .t), .known .normal⟩
      = .inl .full ∧
    ({ open2 with book := List.replicate 24 (job .queued none) } : State).judgeMove .l2 ⟨.bench 7, 1, some (.known .t), .known .normal⟩
      = .inr .t := by decide

/-- The book of a yard before and after an accepted MOVE. -/
theorem test_book_bounded :
    BookBounded passing ∧ BookBounded (after (.move .l1 (.args ⟨.bench 10, 1, none, .known .normal⟩)) passing) ∧
    (after (.move .l1 (.args ⟨.bench 10, 1, none, .known .normal⟩)) passing).book.map (·.id) = [5, 1] := by
  refine ⟨⟨by decide, ?_, by decide, by decide, by decide⟩, ⟨by decide, ?_, by decide, by decide, by decide⟩, by decide⟩ <;>
    (intro l; cases l <;> decide)

theorem test_ids_and_returns :
    ({ atWork .idle .queued with nextId := 5 } : State).newId = 6 ∧ ({ yard with nextId := 65535 } : State).newId = 65535 ∧
    (atWork .idle .queued).book.length ≤ 48 ∧
    (((atWork .idle .queued).giveBack (job .queued none) .cancelled).lane 2).outgoing = 0 ∧
    (((atWork .idle .queued).giveBack (job .queued none) .cancelled).lane 3).incoming = 0 ∧
    (((atWork .idle .queued).giveBack (job .carrying none) .done).lane 3).incoming = 1 := by decide

/-- F1 at work, with link 2 permitted to order. -/
def shared : State :=
  { atWork .running .fetching with layout := { lay with perms := ⟨some allPermissions, some [.order], none⟩ } }

theorem test_cancel :
    Asks passing .l1 .cancel ∧ passing.order? 5 = some (job .fetching (some .f1)) ∧
    (after (.cancel .l1 (.args 5)) passing).book = [] ∧ said (after (.cancel .l1 (.args 5)) pulling) .l1 = some .committed ∧
    said (after (.cancel .l1 (.args 65535)) passing) .l1 = some .unknown ∧
    said (after (.cancel .l1 (.args 65536)) passing) .l1 = some .range ∧ Asks shared .l2 .cancel ∧ shared.permits .l2 .override = false ∧
    said (after (.cancel .l2 (.args 5)) shared) .l2 = some .denied := by decide

/-- F1 DOCKED at BAY lane 1, waiting for its lock, and HALTED out of a run. -/
def dockedWaiting : State :=
  (({ atWork .docked .fetching with
      lanes := ⟨[(1, ⟨[], 0, 0, some .t, some .f1⟩), (2, ⟨[7], 0, 1, none, none⟩), (3, ⟨[10], 1, 0, none, none⟩)]⟩ } : State).modCar .f1
    fun v => { v with docked := some 1, leg := none })
def haltedAtWork : State := (atWork .halted .fetching).modCar .f1 fun v => { v with remembered := some .running }

theorem test_cancel_withdraws :
    ((after (.cancel .l1 (.args 5)) passing).car .f1).state = .running ∧ ((after (.cancel .l1 (.args 5)) passing).car .f1).leg = none ∧
    ((after (.cancel .l1 (.args 5)) dockedWaiting).car .f1).state = .idle ∧
    ((after (.cancel .l1 (.args 5)) dockedWaiting).lane 1).waiting = none ∧
    ((after (.cancel .l1 (.args 5)) haltedAtWork).car .f1).remembered = some .idle ∧
    ((after (.cancel .l1 (.args 5)) haltedAtWork).car .f1).leg = some ⟨15000, .south⟩ ∧
    ((after (.cancel .l1 (.args 5)) (atWork .idle .assigned)).car .f1).task = none ∧
    ((after (.cancel .l1 (.args 5)) passing).link .l1).queue = [⟨.event (.ended 5 .cancelled none (some 7)), 0, some []⟩] ∧
    ((after (.abort .l1 (.args 5)) haltedAtWork).car .f1).remembered = some .idle ∧
    ((after (.abort .l1 (.args 5)) passing).car .f1).leg = none ∧ (atWork .idle .assigned).order? 5 = some (job .assigned (some .f1)) := by
  decide

theorem test_abort :
    Asks passing .l1 .abort ∧ (after (.abort .l1 (.args 5)) passing).book = [] ∧ (pulling.car .f1).assigned = some 5 ∧
    (pulling.car .f1).state = .transferring ∧ (pulling.car .f1).transfer = some ⟨.pull, 2, .left, 5, 7, false, 0⟩ ∧
    (after (.abort .l1 (.args 5)) pulling).book = [] ∧
    ((after (.abort .l1 (.args 5)) pulling).car .f1).faultKind = some .transferInterrupted ∧
    ((after (.abort .l1 (.args 5)) pulling).bench? 7).map Bench.place = some (.straddling .f1 2 .f) ∧
    ((after (.abort .l1 (.args 5)) pushing).bench? 7).map Bench.place = some (.straddling .f1 3 .f) ∧
    said (after (.abort .l1 (.args 65535)) passing) .l1 = some .unknown := by decide

theorem test_aging :
    passing.powered = true ∧ NothingOwed (atWork .idle .queued) ∧
    (after (.orderAging 5) (atWork .idle .queued)).book.map Order.eff = [.urgent] ∧
    (after (.orderAging 5) (atWork .idle .queued)).millis = 120000 ∧ after (.orderAging 5) passing = passing ∧
    after (.orderAging 6) passing = passing := by decide

/-! ## Carriages and positions -/

theorem test_clear :
    Asks (faulted .driveFault) .l1 .clear ∧ (faulted .driveFault).item .f1 = some ⟨3000, 400, .south, 1⟩ ∧
    ((faulted .driveFault).car .f1).state = .faulted ∧ ((faulted .driveFault).car .f1).link = .up ∧
    ((faulted .driveFault).car .f1).driveState ≠ some .driveFault ∧ ((faulted .driveFault).car .f1).load ≠ .straddled ∧
    ((after (.clear .l1 (.args (.known .f1))) (faulted .driveFault)).car .f1).state = .idle ∧
    ((after (.clear .l1 (.args (.known .f1))) (faulted .transferInterrupted)).car .f1).state = .idle ∧
    ((after (.clear .l1 (.args (.known .f1))) (faulted .positionLost)).car .f1).state = .unplaced ∧
    ((after (.clear .l1 (.args (.known .f1))) (faulted .homingFailed)).car .f1).p = none := by decide

/-- F1 FAULTED by a link lost while it ran at 800 mm/s, heard again standing, with its segment fenced. -/
def lostLink : State :=
  ((faulted .linkLost).setSeg .f 0 ⟨some (.auto (.carriageLost .f1)), none, some .f1, []⟩).modCar .f1 fun v =>
    { v with lostSpeed := 800 }

theorem test_clear_after_lost_link :
    Asks lostLink .l1 .clear ∧ (lostLink.car .f1).p ≠ none ∧ (lostLink.car .f1).u + stopDistance 400 300 800 < 1500 ∧
    ((after (.clear .l1 (.args (.known .f1))) lostLink).seg .f 0).fence = none ∧
    ((after (.clear .l1 (.args (.known .f1))) lostLink).car .f1).u = 1140 ∧
    ((after (.clear .l1 (.args (.known .f1))) (lostLink.modCar .f1 fun v => { v with u := 460 })).car .f1).state = .unplaced ∧
    ((after (.clear .l1 (.args (.known .f1))) (lostLink.modCar .f1 fun v => { v with p := none })).car .f1).state = .unplaced := by
  decide

theorem test_clear_gives_the_state :
    let s := { faulted .driveFault with mode := .configuring }
    Asks s .l1 .clear ∧ ((after (.clear .l1 (.args (.known .f1))) s).car .f1).state = .idle ∧
    ((after (.clear .l1 (.args (.known .f1))) s).car .f1).faultKind = none ∧
    ((after (.clear .l1 (.args (.known .f1))) { lostLink with mode := .configuring }).car .f1).state = .unhomed ∧
    ((after (.clear .l1 (.args (.known .f1))) (faulted .positionLost)).car .f1).faultKind = none := by decide

theorem test_clear_refusals :
    said (after (.clear .l1 (.args .unknown)) yard) .l1 = some .range ∧
    said (after (.clear .l1 (.args (.known .f2))) yard) .l1 = some .unknown ∧
    said (after (.clear .l1 (.args (.known .f1))) yard) .l1 = some .state := by decide

theorem test_home :
    Asks yard .l1 .home ∧ yard.item .f1 ≠ none ∧ ((after (.home .l1 (.args (.known .f1))) yard).car .f1).state = .homing ∧
    ((after (.home .l1 (.args (.known .f1))) passing).car .f1).rehome = true ∧
    said (after (.home .l1 (.args (.known .f1))) (faulted .driveFault)) .l1 = some .state ∧
    said (after (.home .l1 (.args (.known .f1))) homing) .l1 = some .ok ∧
    said (after (.home .l1 (.args (.known .f3))) yard) .l1 = some .unknown := by decide

/-- The shop with F1 UNPLACED. -/
def unplaced : State := shop.setCar .f1 Carriage.blank

theorem test_declare :
    Asks unplaced .l1 .declare ∧ unplaced.declareOk .f1 21000 65535 = true ∧ unplaced.declareOk .f1 21001 0 = false ∧
    unplaced.declareOk .f1 0 65536 = false ∧ (unplaced.car .f1).state = .unplaced ∧ unplaced.mode = .configuring ∧
    ((after (.declare .l1 (.args ⟨.known .f1, 21000, 65535⟩)) unplaced).car .f1).u = 1000 ∧
    ((after (.declare .l1 (.args ⟨.known .f1, 0, 0⟩)) unplaced).car .f1).u = 100 ∧
    ((after (.declare .l1 (.args ⟨.known .f1, 0, 0⟩)) unplaced).car .f1).state = .unhomed ∧
    said (after (.declare .l1 (.args ⟨.known .f1, 0, 0⟩)) yard) .l1 = some .state ∧
    said (after (.declare .l1 (.args ⟨.known .f2, 0, 0⟩)) unplaced) .l1 = some .unknown ∧
    said (after (.declare .l1 (.args ⟨.known .f1, 21001, 0⟩)) unplaced) .l1 = some .range := by decide

/-- F1 and F2 stand on corridor F, F2 UNHOMED. -/
def declaring : State :=
  ((crowd.setSeg .f 1 ⟨none, none, some .f1, []⟩).setSeg .f 2 ⟨none, none, some .f2, []⟩).modCar .f2 fun v => { v with state := .unhomed }

theorem test_one_carriage_at_declare : OneCarriage declaring := by
  intro c
  refine ⟨by cases c <;> decide, fun k n m hn hm => ?_⟩
  cases c <;> rcases k with _ | _ | _ | k <;> cases n <;> first
    | exact absurd hn (by decide)
    | exact absurd (show false = true from hn) (by decide)
    | (cases m <;> first | rfl | exact absurd hm (by decide))

theorem test_seating :
    Asks declaring .l1 .declare ∧ declaring.declareOk .f2 15000 0 = true ∧ declaring.segsInUse .f = [0, 1, 2] ∧
    (after (.declare .l1 (.args ⟨.known .f2, 15000, 0⟩)) declaring).layers .f 1 = (some (.auto .restartOverlap), none, some .f1) ∧
    (after (.declare .l1 (.args ⟨.known .f2, 15000, 0⟩)) declaring).layers .f 2 = (none, none, some .f2) ∧
    ((after (.declare .l1 (.args ⟨.known .f2, 12101, 0⟩)) declaring).seg .f 2).holds .f2 = false ∧
    declaring.uncertain .f2 = some (12400, 15600) ∧ ((declaring.seat .f2).seg .f 2).holds .f2 = false ∧
    (((declaring.setCar .f2 Carriage.blank).seat .f2).seg .f 2).holds .f2 = false := by decide

/-- F1, 3,000 mm long at 9,000, bounds where F2 may be declared; F2 at 12,500 where F1 may be. -/
theorem test_declare_ranges :
    declaring.declareOk .f2 12001 0 = true ∧ declaring.declareOk .f2 12000 0 = false ∧ declaring.declareOk .f1 9499 0 = true ∧
    declaring.declareOk .f1 9500 0 = false ∧ declaring.declareOk .t2 9500 65535 = true ∧ declaring.declareOk .t2 9500 65536 = false := by
  decide

theorem test_gate_service :
    Asks yard .l1 .gateService ∧ yard.gateInput .f 3 ≠ none ∧ yard.gateInput .f 40 = none ∧
    ((after (.gateService .l1 (.args ⟨.known .f, 3, .known .takeOut⟩)) yard).gate .f 3).service = .outOfService ∧
    said (after (.gateService .l1 (.args ⟨.known .f, 3, .known .putIn⟩)) yard) .l1 = some .ok ∧
    said (after (.gateService .l1 (.args ⟨.known .f, 40, .known .putIn⟩)) yard) .l1 = some .unknown ∧
    said (after (.gateService .l1 (.args ⟨.known .f, 41, .known .putIn⟩)) yard) .l1 = some .range := by decide

/-! ## Fences -/

/-- The notice bodies on a link. -/
def told (s : State) (l : LinkId) : List NoticeBody := (s.link l).queue.map (·.body)

theorem test_gate_service_notice :
    told (after (.gateService .l1 (.args ⟨.known .f, 3, .known .takeOut⟩)) yard) .l3 = [.gateOut .f 3 .link] ∧
    (let out := yard.setGate .f 3 { Gate.blank with service := .outOfService }
     told (after (.gateService .l1 (.args ⟨.known .f, 3, .known .takeOut⟩)) out) .l3 = []) := by decide

theorem test_fence :
    Asks yard .l1 .fence ∧ yard.segInUse .f 2 = true ∧ yard.segInUse .f 39 = false ∧
    ((after (.fence .l1 (.args ⟨.known .f, 2⟩)) yard).seg .f 2).fence = some (.operator .l1) ∧
    said (after (.fence .l1 (.args ⟨.known .f, 39⟩)) yard) .l1 = some .unknown ∧
    said (after (.fence .l1 (.args ⟨.known .f, 40⟩)) yard) .l1 = some .range ∧
    said (after (.fence .l1 (.args ⟨.known .f, 0⟩)) lostLink) .l1 = some .state := by decide

/-- A yard whose link 1 takes every event in slot 0. -/
def heeding (s : State) : State :=
  s.writeSlot .l1 0
    ⟨true, false, [.arrived, .departed, .ended, .identity, .fence], none, .any, 0, 0, [.growing, .ready, .held, .empty], .any⟩

theorem test_fence_events :
    told (after (.fence .l1 (.args ⟨.known .f, 2⟩)) (heeding yard)) .l1 = [.event (.fence .f 2 true (.operator .l1))] ∧
    told (after (.fence .l1 (.args ⟨.known .f, 2⟩)) ((heeding yard).setSeg .f 2 ⟨some (.operator .l2), none, none, []⟩)) .l1 = [] ∧
    told ((heeding yard).setFence .f 2 (.auto .restartOverlap)) .l1 = [.event (.fence .f 2 true (.auto .restartOverlap))] ∧
    lostLink.setFence .f 0 (.operator .l1) = lostLink := by decide

/-- The yard with an automatic and an operator fence, where link 2 may lift the second alone. -/
def fenced : State :=
  { ((yard.setSeg .f 1 ⟨some (.auto (.intrusion 1)), none, none, []⟩).setSeg .f 2 ⟨some (.operator .l3), none, none, []⟩) with
    layout := { lay with perms := ⟨some allPermissions, some [.fence], none⟩ } }

theorem test_unfence :
    Asks fenced .l2 .unfence ∧ (fenced.seg .f 1).fence = some (.auto (.intrusion 1)) ∧ fenced.permits .l2 .override = false ∧
    said (after (.unfence .l2 (.args ⟨.known .f, 1⟩)) fenced) .l2 = some .denied ∧ fenced.permits .l2 .fence = true ∧
    (fenced.seg .f 2).waiting = [] ∧ ((after (.unfence .l2 (.args ⟨.known .f, 2⟩)) fenced).seg .f 2).fence = none ∧
    ((after (.unfence .l1 (.args ⟨.known .f, 1⟩)) fenced).seg .f 1).fence = none ∧ (fenced.seg .f 39).fence = none ∧
    said (after (.unfence .l1 (.args ⟨.known .f, 39⟩)) fenced) .l1 = some .state ∧
    said (after (.unfence .l1 (.args ⟨.known .f, 40⟩)) fenced) .l1 = some .range := by decide

/-- F1 RUNNING south and waiting at the fenced segment before it, alone or with F2, which is HOMING north from the far side. -/
def held1 : State := passing.setSeg .f 1 ⟨some (.operator .l1), none, none, [.f1]⟩
def held2 : State :=
  { (held1.setSeg .f 1 ⟨some (.operator .l1), none, none, [.f1, .f2]⟩).setSeg .f 2 ⟨none, some (.f2, .north), none, []⟩ with
    layout := { lay with carriages := ⟨some ⟨3000, 400, .south, 1⟩, some ⟨3000, 400, .north, 2⟩, none, none, none, none⟩ }
  }.setCar .f2 { idleAt 17000 with state := .homing, homing := some ⟨1, 7950, 0⟩, leg := some ⟨7950, .north⟩ }

theorem test_unfence_retries :
    Asks held1 .l1 .unfence ∧ held1.permits .l1 .fence = true ∧ (held1.seg .f 1).waiting = [.f1] ∧
    ((after (.unfence .l1 (.args ⟨.known .f, 1⟩)) held1).seg .f 1) = ⟨none, some (.f1, .south), none, []⟩ ∧
    (held2.seg .f 1).waiting = [.f1, .f2] ∧
    (((((({ held2.liftFence .f 1 with free := 1 } : State)).grantRequest .f1).grantRequest .f2).seg .f 1))
      = ⟨none, some (.f1, .south), none, [.f2]⟩ ∧
    (((((({ held2.liftFence .f 1 with free := 1 } : State)).grantRequest .f2).grantRequest .f1).seg .f 1))
      = ⟨none, some (.f2, .north), none, [.f1]⟩ ∧
    ((held1.liftFence .f 1).seg .f 1).fence = none := by decide

theorem test_record_fields :
    fenced.segmentListFields .f =
      [.num 3, .num 0, .word "STANDING", .word "F1", .word "NONE", .num 1, .word "FENCED", .word "NONE", .word "AUTO",
        .num 2, .word "FENCED", .word "NONE", .word "OPERATOR"] ∧
    (fenced.setSeg .f 39 ⟨some (.operator .l1), none, none, []⟩).segmentListFields .t =
      [.num 3, .num 0, .word "STANDING", .word "T1", .word "NONE", .num 1, .word "FREE", .word "NONE", .word "NONE",
        .num 2, .word "FREE", .word "NONE", .word "NONE"] ∧
    ((fenced.setSeg .f 39 ⟨some (.operator .l1), none, none, []⟩).segmentListFields .f).drop 13 = [.num 39, .word "OPERATOR"] ∧
    (lostLink.segmentFields .f 0) =
      [.word "YES", .num 0, .num 8000, .word "AUTO", .word "CARRIAGE_LOST", .word "F1", .word "NONE", .word "F1", .word "FENCED",
        .word "NONE", .words []] ∧
    (yard.gateFields .f 40).head? = some (.word "NONE") ∧ (yard.gateFields .f 40).getLast? = some (.word "NO") ∧
    driveFields lostLink (1, .f1) = [.num 1, .word "F1", .word "UP", .num 0, .word "CLEAR", .word "NONE"] ∧
    listOrders [job .queued none] = [.num 1, .num 5, .num 1, .word "QUEUED", .word "NORMAL"] := by decide

/-! ## Notices and watches -/

/-- A slot that takes every ARRIVED. -/
def arrivals : SlotArgs := ⟨true, .known false, [.known .arrived], .known none, .any, 65535, 0, [.known .ready], .any⟩

theorem test_watch :
    Ready yard .l1 ∧ arrivals.form = true ∧ slotOf arrivals ≠ none ∧
    ((after (.watch .l1 (.args ⟨5, .write arrivals⟩)) yard).slotAt .l1 5).events = [.arrived] ∧
    said (after (.watch .l1 (.args ⟨5, .read⟩)) yard) .l1 = some .ok ∧ said (after (.watch .l1 (.args ⟨6, .off⟩)) yard) .l1 = some .range ∧
    slotOf { arrivals with batchValue := 65536 } = none ∧
    said (after (.watch .l1 (.args ⟨0, .write { arrivals with batchValue := 65536 }⟩)) yard) .l1 = some .range := by decide

/-- A yard whose link 1 watches arrivals of READY benches in slot 5. -/
def watching : State := after (.answerSent .l1) (after (.watch .l1 (.args ⟨5, .write arrivals⟩)) yard)

theorem test_chains :
    firedSet (fun w => w.enabled)
      [⟨true, false, [], none, .any, 0, 0, [], .any⟩, ⟨false, true, [], none, .any, 0, 0, [], .any⟩,
        ⟨true, false, [], none, .any, 0, 0, [], .any⟩, ⟨true, true, [], none, .any, 0, 0, [], .any⟩] = [2] ∧
    ((after (.arrive .l1 (.args ⟨9, 2, 0, .known .ready, none⟩)) watching).link .l1).queue
      = [⟨.event (.arrived 2 9), 0, some [5]⟩] ∧
    ((after (.arrive .l1 (.args ⟨9, 2, 0, .known .held, none⟩)) watching).link .l1).queue = [] := by decide

/-- A slot that asks for nothing but an enabled event of each kind. -/
def openSlot : WatchSlot := ⟨true, false, [.arrived, .fence], none, .any, 7, 0, [.growing, .ready, .held, .empty], .any⟩

theorem test_slots_match :
    let fence := slotMatches yard ⟨.fence .f 1 true (.operator .l1), some .f, none, none, none⟩
    let arrival := slotMatches yard ⟨.arrived 2 7, some .f, some 2, some 7, none⟩
    fence openSlot = true ∧ arrival openSlot = true ∧ fence { openSlot with batchMask := 1 } = false ∧
    arrival { openSlot with batchMask := 1 } = true ∧ arrival { openSlot with batchMask := 2 } = false ∧
    fence { openSlot with lane := .number 2 } = false ∧ arrival { openSlot with lane := .number 2 } = true ∧
    arrival { openSlot with lane := .kind .bay } = false ∧ arrival { openSlot with lane := .kind .station } = true ∧
    arrival { openSlot with corridor := some .t } = false ∧ fence { openSlot with readiness := [.ready] } = false ∧
    arrival { openSlot with readiness := [.ready] } = true ∧ arrival { openSlot with reference := .absent } = true ∧
    fence { openSlot with reference := .absent } = false ∧ arrival { openSlot with events := [.ended] } = false := by decide

theorem test_slot_ranges :
    slotOf { arrivals with lane := .number 120, batchMask := 65535, reference := .equal 999999 } ≠ none ∧
    slotOf { arrivals with lane := .number 121 } = none ∧ slotOf { arrivals with lane := .number 0 } = none ∧
    slotOf { arrivals with batchMask := 65536 } = none ∧ slotOf { arrivals with reference := .equal 0 } = none ∧
    slotOf { arrivals with reference := .equal 1000000 } = none ∧ slotOf { arrivals with events := [.unknown] } = none ∧
    (slotOf { arrivals with events := [.known .fence, .known .arrived, .known .fence] }).map (·.events) = some [.arrived, .fence] ∧
    slotFields openSlot =
      [.word "YES", .word "CLEAR", .words ["ARRIVED", "FENCE"], .word "ANY", .word "ANY", .num 7, .num 0,
        .words ["GROWING", "READY", "HELD", "EMPTY"], .word "ANY"] := by decide

/-- The DEPARTED, ARRIVED and IDENTITY events, on a link that watches. -/
theorem test_inventory_events :
    told (after (.handoff .l2 (.args 8)) { heeding yard with layout := { lay with perms := ⟨none, some [.inventory], none⟩ } }) .l1
      = [.event (.departed 4 8)] ∧
    told ((heeding pulling).transferOutcome .f1 ⟨.pull, 2, .left, 5, 7, false, 0⟩ false true) .l1
      = [.event (.identity 7 .unread), .event (.departed 2 7)] ∧
    told (((heeding pushing).modCar .f1 fun v => { v with slot := some 8 }).transferOutcome .f1 ⟨.push, 3, .left, 5, 7, true, 0⟩ false
      false) .l1 = [.event (.identity 7 (.doubtful (some 8))), .event (.arrived 3 7), .event (.ended 5 .done none (some 7))] ∧
    State.readIdentity (some 7) 7 false = .verified ∧ State.readIdentity (some 7) 7 true = .unread ∧
    State.readIdentity (some 8) 7 true = .doubtful (some 8) ∧ State.readIdentity none 7 false = .unread := by decide

theorem test_fetch :
    Ready State.reset .l1 ∧ optNumberOk (some 1) = true ∧
    ((after (.fetch .l1 (.args (some 1))) State.reset).link .l1).queue = [⟨.retainedLost, 0, none⟩] ∧
    ((after (.fetch .l1 (.args (some 0))) State.reset).link .l1).queue.length = 1 ∧
    ((after (.fetch .l1 (.args none)) State.reset).link .l1).queue = [] := by decide

/-- Link 1 with a full queue. -/
def full : State := yard.modLink .l1 fun k => { k with queue := List.replicate 16 ⟨.retainedLost, 0, none⟩ }

theorem test_attention :
    Ready yard .l1 ∧ State.reset.attentionLine .l1 = true ∧ yard.attentionLine .l1 = false ∧ (yard.link .l1).queue.length < 16 ∧
    (after (.attention .l1 (.args (.known false))) State.reset).attentionLine .l1 = false ∧
    said (after (.attention .l1 (.args .unknown)) yard) .l1 = some .range ∧ 16 ≤ (full.link .l1).queue.length ∧
    ((full.notify .l1 .retainedLost none).link .l1).lost = 1 := by decide

/-! ## Gates -/

theorem test_intrusion :
    passing.powered = true ∧ NothingOwed passing ∧ passing.gateInput .f 2 = some 3 ∧ (passing.gate .f 2).level = .clear ∧
    (passing.gate .f 2).service = .inService ∧ passing.layout.gatePos .f 2 = some 16000 ∧ passing.edgeCandidates .f 16000 = [] ∧
    ((after (.gateRisingEdge .f 2 .present) granted).gate .f 2).outcome = .intrusion ∧
    ((after (.gateRisingEdge .f 2 .present) granted).seg .f 1).fence = some (.auto (.intrusion 2)) ∧
    ((after (.gateRisingEdge .f 2 .present) granted).line .f).broadcast = true := by decide

theorem test_intrusion_tells :
    told (after (.gateRisingEdge .f 2 .present) (heeding granted)) .l1 =
      [.event (.fence .f 1 true (.auto (.intrusion 2))), .event (.fence .f 2 true (.auto (.intrusion 2))), .intrusion .f 2] ∧
    granted.adjoining .f 2 = [1, 2] ∧ granted.adjoining .f 0 = [0] ∧ granted.adjoining .f 3 = [2] ∧
    (passing.setSeg .f 0 ⟨none, some (.f1, .south), none, []⟩).runningNear .f 2 = true ∧
    (passing.setSeg .f 0 ⟨none, some (.f1, .south), none, []⟩).runningNear .f 3 = false := by decide

/-- F1 and F2 both with their fronts at gate 1. -/
def doubtfulEdge : State :=
  (crowd.setCar .f1 { idleAt 5000 with state := .running, dir := some .south }).setCar .f2
    { idleAt 8050 with state := .running, dir := some .north }

theorem test_rising_edge_taken_for_nothing :
    yard.gateInput .f 40 = none ∧ after (.gateRisingEdge .f 40 .clear) yard = yard ∧ doubtfulEdge.powered = true ∧
    2 ≤ (doubtfulEdge.edgeCandidates .f 8000).length ∧
    ((after (.gateRisingEdge .f 1 .present) doubtfulEdge).gate .f 1).outcome = .ambiguous ∧
    ((yard.setGate .f 1 { Gate.blank with service := .outOfService }).gate .f 1).service = .outOfService ∧
    ((after (.gateRisingEdge .f 1 .present) (yard.setGate .f 1 { Gate.blank with service := .outOfService })).gate .f 1).level = .present ∧
    (((yard.setGate .f 1 { Gate.blank with level := .present }).gate .f 1).level = .present) := by decide

/-- F1's front 150 mm short of gate 1. -/
def short (u : Nat) : State := passing.modCar .f1 fun v => { v with p := some 4850, offset := some 4850, u := u }

theorem test_candidates :
    (short 100).edgeCandidates .f 8150 = [(.f1, 300)] ∧ 2 * ((100 : Int) + ((short 100).timing .f).tol) = 300 ∧
    (short 100).edgeCandidates .f 8151 = [] ∧ (short 100).edgeCandidates .f 7549 = [] ∧
    (short 100).edgeCandidates .f 7550 = [(.f1, -300)] ∧
    ({ (short 100).modCar .f1 (fun v => { v with lastAnswer := some 0 }) with millis := 375 } : State).edgeCandidates .f 8000
      = [(.f1, 0)] ∧
    ((short 100).modCar .f1 fun v => { v with link := .lost }).edgeCandidates .f 8000 = [] ∧ yard.edgeCandidates .f 8000 = [] := by decide

theorem test_correction :
    (short 100).powered = true ∧ (short 100).gateInput .f 1 = some 2 ∧ ((short 100).gate .f 1).level = .clear ∧
    (short 100).layout.gatePos .f 1 = some 8000 ∧ (short 100).edgeCandidates .f 8000 = [(.f1, 150)] ∧
    ((short 100).timing .f).tol ≤ 1500 ∧ (short 100).homesToward .f1 1 = false ∧
    ((after (.gateRisingEdge .f 1 .clear) (short 100)).gate .f 1).outcome = .corrected ∧
    ((after (.gateRisingEdge .f 1 .clear) (short 100)).car .f1).p = some 5000 ∧
    ((after (.gateRisingEdge .f 1 .clear) (short 100)).car .f1).u = 50 := by decide

theorem test_rejection :
    (short 99).edgeCandidates .f 8000 = [(.f1, 150)] ∧
    ((after (.gateRisingEdge .f 1 .clear) (short 99)).gate .f 1).outcome = .rejected ∧
    ((after (.gateRisingEdge .f 1 .clear) (short 99)).car .f1).faultKind = some .positionLost := by decide

/-- F1 HOMING with its front at gate 2. -/
def arriving : State := homing.modCar .f1 fun v => { v with p := some 13000, offset := some 13000, dir := some .south }

/-- F1 FAULTED and rolling over gate 1. -/
def rolling : State := (short 100).modCar .f1 fun v => { v with state := .faulted, faultKind := some .driveFault }

/-- F1 HALTED and rolling over the gate it homed toward. -/
def homedHalted : State :=
  after (.gateRisingEdge .f 2 .clear) (arriving.modCar .f1 fun v => { v with state := .halted, remembered := some .homing, speed := 10 })

theorem test_homing_succeeds :
    arriving.edgeCandidates .f 16000 = [(.f1, 0)] ∧ arriving.homesToward .f1 2 = true ∧ arriving.gateInput .f 2 = some 3 ∧
    ((after (.gateRisingEdge .f 2 .clear) arriving).gate .f 2).outcome = .homed ∧
    ((after (.gateRisingEdge .f 2 .clear) arriving).car .f1).u = 10 ∧
    ((after (.gateRisingEdge .f 2 .clear) arriving).car .f1).state = .idle ∧
    ((after (.gateRisingEdge .f 2 .clear) { arriving with mode := .configuring }).car .f1).homing = none ∧
    (homedHalted.car .f1).state = .halted ∧ (homedHalted.car .f1).remembered = some .idle ∧ rolling.edgeCandidates .f 8000 = [(.f1, 150)] ∧
    ((after (.gateRisingEdge .f 1 .clear) rolling).gate .f 1).outcome = .attributed := by decide

/-- F1 over gate 1 since the millisecond 0, at a reported speed, at a moment. -/
def onGate (speed now : Nat) : State :=
  { (passing.setGate .f 1 { Gate.blank with level := .present, rising := some 0, attributed := some .f1 }).modCar .f1 fun v =>
      { v with speed := speed } with millis := now }

theorem test_falling_edge :
    (onGate 400 7500).gateInput .f 1 = some 2 ∧ ((onGate 400 7500).gate .f 1).level = .present ∧
    ((onGate 400 7500).gate .f 1).service = .inService ∧ ((onGate 400 7500).gate .f 1).attributed = some .f1 ∧
    NothingOwed (onGate 400 7500) ∧ (onGate 400 7500).item .f1 = some ⟨3000, 400, .south, 1⟩ ∧
    ((after (.gateFallingEdge .f 1 .clear) (onGate 400 7500)).gate .f 1).duration = some 7500 ∧
    ((after (.gateFallingEdge .f 1 .clear) (onGate 400 7500)).car .f1).slip = false ∧
    ((after (.gateFallingEdge .f 1 .clear) (onGate 400 6000)).car .f1).slip = false ∧
    ((after (.gateFallingEdge .f 1 .clear) (onGate 400 5988)).car .f1).slip = true ∧
    ((after (.gateFallingEdge .f 1 .clear) (onGate 400 70000)).gate .f 1).duration = some 65535 ∧
    after (.gateFallingEdge .f 1 .clear) passing = passing ∧
    ((after (.gateFallingEdge .f 1 .clear) (yard.setGate .f 1 { Gate.blank with level := .present })).gate .f 1).level = .clear := by
  decide

/-! ## Stop loops -/

theorem test_stop_opens :
    (passing.stop .f).loop = .closed ∧ .f1 ∈ passing.carsOf .f ∧ (passing.car .f1).state = .running ∧
    ((after (.stopOpen .f .opened) passing).car .f1).remembered = some .running ∧
    ((after (.stopOpen .f .opened) passing).line .f).broadcast = true ∧
    ((after (.stopOpen .f .opened) homing).car .f1).remembered = some .homing ∧
    ((after (.stopOpen .f .opened) (atWork .docked .fetching)).car .f1).remembered = some .docked ∧
    ((after (.stopOpen .f .opened) pulling).car .f1).faultKind = some .transferInterrupted ∧
    after (.stopOpen .f .closed) (after (.stopOpen .f .opened) passing) = after (.stopOpen .f .opened) passing := by decide

theorem test_stop_openSlothalts :
    told (after (.stopOpen .f .opened) passing) .l2 = [.stopOpen .f] ∧
    ((after (.stopOpen .f .opened) held1).seg .f 1).waiting = [] ∧ ((after (.stopOpen .f .opened) dockedWaiting).lane 1).waiting = none ∧
    (after (.stopOpen .f .opened) dockedWaiting).lane 1 = ⟨[], 0, 0, some .t, none⟩ ∧
    ((after (.stopOpen .f .opened) homing).car .f1).homing = some ⟨2, 13050, 0⟩ ∧
    ((after (.stopOpen .f .opened) passing).car .f1).leg = some ⟨15000, .south⟩ ∧ yard.haltOne .f1 = yard := by decide

theorem test_stop_closes :
    ((after (.stopOpen .f .opened) passing).stop .f).loop = .opened ∧ NothingOwed (after (.stopOpen .f .opened) passing) ∧
    ((after (.stopClosed .f .closed) (after (.stopOpen .f .opened) passing)).car .f1).state = .running ∧
    ((after (.stopClosed .f .closed) (after (.stopOpen .f .opened) homing)).car .f1).state = .homing ∧
    ((after (.stopClosed .f .closed) (after (.stopOpen .f .opened) (atWork .docked .fetching))).car .f1).state = .docked ∧
    after (.stopClosed .f .closed) passing = passing := by decide

/-- F1 HALTED in CONFIGURING with nothing left to do. -/
def halted : State :=
  (shop.modStop .f fun _ => Stop.start .opened).modCar .f1 fun v => { v with state := .halted, remembered := some .idle }

theorem test_stop_closes_idle :
    (halted.stop .f).loop = .opened ∧ halted.mode = .configuring ∧ (halted.car .f1).task = none ∧
    (∀ m ∈ halted.carsOf .f, m ≠ .f1 → (halted.car m).state ≠ .halted) ∧
    ((after (.stopClosed .f .closed) halted).car .f1).state = .idle := by decide

theorem test_resume :
    ((halted.resume .f1).car .f1).state = .idle ∧
    (((halted.modCar .f1 fun v => { v with remembered := some .running }).resume .f1).car .f1).state = .running ∧
    (((({ halted with millis := 7 } : State).modCar .f1 fun v =>
      { v with remembered := some .homing, homing := some ⟨2, 13050, 0⟩ }).resume .f1).car .f1).homing = some ⟨2, 13050, 7⟩ ∧
    (((halted.modCar .f1 fun v => { v with remembered := some .docked, docked := some 1 }).setSeg .f 0
      ⟨none, some (.f1, .south), none, []⟩).resume .f1).seg .f 0 = ⟨none, none, some .f1, []⟩ ∧
    (((halted.modCar .f1 fun v => { v with remembered := some .docked, docked := some 1 }).resume .f1).car .f1).state = .docked := by
  decide

/-! ## Drive lines -/

theorem test_polling_cycle :
    (yard.line .f).inFlight = none ∧ (yard.line .f).broadcast = false ∧ yard.drives .f = [(1, .f1)] ∧
    ((after (.pollingCycle .f) yard).line .f).inFlight = some ⟨1, some .f1, .hold, 101, false⟩ ∧
    ((calling yard .hold).line .f).inFlight ≠ none ∧
    ((after (.pollingCycle .f) (calling yard .hold)).line .f).toCall = [(1, .f1)] ∧ State.reset.drives .f = [] ∧
    (after (.pollingCycle .f) State.reset).millis = 100 := by decide

/-- A broadcast pending with one drive still to call. -/
def braking (rest : List (Nat × CarriageName)) : State := yard.modLine .f fun w => { w with broadcast := true, toCall := rest }

theorem test_broadcast :
    ((braking []).line .f).broadcast = true ∧ ((braking []).line .f).inFlight = none ∧
    ((after (.broadcastBrake .f) (braking [])).line .f).sent = some ⟨0, .brake, 0, 0, none⟩ ∧
    ((after (.broadcastBrake .f) (braking [(1, .f1)])).line .f).inFlight = none ∧
    ((after (.broadcastBrake .f) (braking [(1, .f1)])).line .f).broadcast = false ∧
    ((after (.broadcastBrake .f) (braking [(1, .f1)])).line .f).broadcastEnds = some 1 ∧
    after (.broadcastBrake .f) yard = yard := by decide

theorem test_broadcast_ends :
    let b := after (.broadcastBrake .f) (braking [(1, .f1)])
    (after (.broadcastBrake .f) b).millis = 1 ∧ ((after (.broadcastBrake .f) b).line .f).inFlight.map (·.address) = some 1 ∧
    ((after (.broadcastBrake .f) b).line .f).broadcastEnds = none ∧
    ((after (.broadcastBrake .f) (b.askBroadcast .f)).line .f).broadcastEnds = some 2 ∧
    ((after (.broadcastBrake .f) (b.askBroadcast .f)).line .f).broadcast = false ∧
    ((after (.broadcastBrake .f) (after (.broadcastBrake .f) (braking []))).line .f).broadcastEnds = none ∧
    ((after (.pollingCycle .f) { b with millis := 1 }).line .f).inFlight.isSome = true ∧
    (after (.broadcastBrake .f) (calling (braking []) .hold)) = calling (braking []) .hold ∧
    ((after (.pollingCycle .f) (braking [])).line .f).toCall = [(1, .f1)] := by decide

/-- The yard just started, before corridor F's first polling cycle, with a broadcast sent. -/
def justStarted : State :=
  { yard with starting := ⟨true, true⟩ }.modLine .f fun w => { w with broadcastEnds := some 1 }

/-- A broadcast that ends before the first cycle leaves the mark; one that ends once the drive was called clears it (R116). -/
theorem test_broadcast_before_the_first_cycle :
    (after (.broadcastBrake .f) justStarted).starting = ⟨true, true⟩ ∧
    (after (.broadcastBrake .f) (justStarted.modCar .f1 fun v => { v with figures := some (yard.figuresOf .f1) })).starting
      = ⟨false, true⟩ ∧
    (after (.pollingCycle .f) justStarted).starting = ⟨true, true⟩ ∧
    (justStarted.cycleDone .f) = justStarted := by decide

/-- The answer of a drive that stands. -/
def standing : StatusAnswer := ⟨1, .standing, false, 0, 0, 0, []⟩

theorem test_status_answer :
    ((calling passing .run).line .f).inFlight = some ⟨1, some .f1, .run, 0, false⟩ ∧ standing.form = true ∧
    ((after (.statusAnswer .f standing) (calling passing .run)).line .f).inFlight = none ∧
    ((after (.statusAnswer .f standing) (calling passing .run)).car .f1).driveState = some .standing ∧
    ((after (.statusAnswer .f { standing with address := 2 }) (calling passing .run)).line .f).inFlight
      = some ⟨1, some .f1, .run, 0, true⟩ ∧
    after (.statusAnswer .f standing) passing = passing ∧
    after (.statusAnswer .f standing) { calling passing .run with millis := 21 } = { calling passing .run with millis := 21 } ∧
    ((after (.statusAnswer .f standing) { calling passing .run with millis := 20 }).line .f).inFlight = none ∧
    ((after (.statusAnswer .f standing) (passing.modLine .f fun w => { w with inFlight := some ⟨1, none, .run, 0, false⟩ })).line
      .f).inFlight = none := by decide

theorem test_status_answer_outside_the_window :
    let early := passing.modLine .f fun w => { w with inFlight := some ⟨1, some .f1, .run, 1, false⟩ }
    after (.statusAnswer .f standing) early = early ∧
    ((after (.statusAnswer .f standing) { early with millis := 1 }).line .f).inFlight = none ∧
    ((after (.statusAnswer .f { standing with loaded := true }) (calling passing .run)).car .f1).lastLoad = some true := by decide

/-- F1 RUNNING to the dock point of its order's source in BAY lane 1, 10,000. -/
def nearing : State :=
  { passing with
    book := [{ job .fetching (some .f1) with source := .bench 7, srcLane := some 1 }]
    lanes := ⟨[(1, ⟨[7], 0, 1, none, none⟩), (3, ⟨[10], 1, 0, none, none⟩)]⟩
    benches := ⟨[(7, { lying (.inLane 1) with claim := some 5 }), (10, lying (.inLane 3))]⟩
  }.modCar .f1 fun v => { v with leg := some ⟨10000, .south⟩ }

theorem test_answers_are_judged :
    let there : StatusAnswer := { standing with state := .atTarget }
    ((nearing.judgeAnswer .f1 .run there).car .f1).state = .transferring ∧ ((nearing.judgeAnswer .f1 .run there).lane 1).lock = some .f ∧
    ((nearing.judgeAnswer .f1 .run there).car .f1).transfer = some ⟨.pull, 1, .left, 5, 7, false, 0⟩ ∧
    ((nearing.judgeAnswer .f1 .run there).book.map Order.phase) = [.pulling] ∧
    (let held := nearing.modLane 1 fun v => { v with lock := some .t }
     ((held.judgeAnswer .f1 .run there).car .f1).state = .docked ∧ ((held.judgeAnswer .f1 .run there).lane 1).waiting = some .f1) ∧
    passing.judgeAnswer .f1 .run there = passing ∧ nearing.judgeAnswer .f1 .run standing = nearing ∧
    ((passing.judgeAnswer .f1 .run { standing with state := .driveFault, faultCode := 9 }).car .f1).faultCode = some 9 := by decide

theorem test_answers_end_runs :
    let idle (s : State) (a : StatusAnswer) := ((s.judgeAnswer .f1 .run a).car .f1).state
    idle (passing.modCar .f1 fun v => { v with assigned := none, leg := none }) standing = .idle ∧
    idle (passing.modCar .f1 fun v => { v with assigned := none, leg := none }) { standing with speed := 1 } = .running ∧
    pulling.judgeAnswer .f1 .hold { standing with state := .transferDone, loaded := true } = pulling ∧
    pulling.judgeAnswer .f1 .pull standing = pulling ∧
    ((pulling.judgeAnswer .f1 .pull { standing with state := .transferDone, loaded := true }).car .f1).load = .bench 7 ∧
    (pulling.judgeAnswer .f1 .pull { standing with state := .transferFailed }).book = [] := by decide

/-- F1's drive LOST, with an exchange in flight at an address. -/
def calledAt (address : Nat) : State :=
  (yard.modCar .f1 fun v => { v with link := .lost, misses := 3 }).modLine .f fun w =>
    { w with inFlight := some ⟨address, some .f1, .hold, 0, false⟩ }

theorem test_stale_answer :
    (((after (.statusAnswer .f { standing with address := 2 }) (calledAt 2)).car .f1).link = .lost) ∧
    ((after (.statusAnswer .f { standing with address := 2 }) (calledAt 2)).line .f).inFlight = none ∧
    ((after (.statusAnswer .f standing) (calledAt 1)).car .f1).link = .up ∧
    ((after (.statusAnswer .f standing) (calledAt 1)).car .f1).returned = false := by decide

theorem test_steps_of_an_answer :
    ((pulling.takeReading .f1 7).car .f1).slot = some 7 ∧
    (((pulling.takeReading .f1 7).takeReading .f1 8).car .f1).slotOverrun = true ∧
    ((yard.takeReading .f1 8).link .l2).queue = [⟨.strayRead .f1 8, 0, none⟩] ∧
    (granted.modCar .f1 fun v => { v with p := some 5151 }).missedGates .f1 (some (5000, 100)) = [1] ∧
    (granted.modCar .f1 fun v => { v with p := some 5150 }).missedGates .f1 (some (5000, 100)) = [] ∧
    (granted.modCar .f1 fun v => { v with p := some 5151 }).missedGates .f1 (some (5151, 100)) = [] ∧
    ((State.missGate .f yard 1).gate .f 1).misses = 1 ∧
    ((State.missGate .f (yard.setGate .f 1 { Gate.blank with misses := 2 }) 1).gate .f 1).service = .outOfService ∧
    (((granted.modCar .f1 fun v => { v with p := some 8100 }).releaseBehind .f1).seg .f 0) = Segment.blank ∧
    (((granted.modCar .f1 fun v => { v with p := some 8099 }).releaseBehind .f1).seg .f 0).running = some (.f1, .south) ∧
    yard.releaseBehind .f1 = yard := by decide

theorem test_conversion :
    ((granted.convert .f1).seg .f 0).standing = some .f1 ∧ ((granted.convert .f1).seg .f 1).standing = some .f1 ∧
    ((granted.convert .f1).seg .f 2) = Segment.blank ∧
    (((granted.modCar .f1 fun v => { v with p := none }).convert .f1).seg .f 2).standing = some .f1 ∧
    (((passing.setSeg .f 1 ⟨none, none, some .f2, []⟩).convert .f1).seg .f 1).fence = some (.auto .restartOverlap) ∧
    ((passing.convert .f1).seg .f 1).standing = some .f1 ∧
    (((granted.modSeg .f 0 fun g => { g with waiting := [.f1] }).convert .f1).seg .f 0).waiting = [] := by decide

/-- F1 pulling bench 7, the one bench of bay lane 1, at the F mouth, while T1 waits for the lock with an order for that bench. -/
def contested : State :=
  { pulling with
    book := [{ job .pulling (some .f1) with source := .laneEnd 1, srcLane := some 1, bench := none },
      { job .fetching (some .t1) with id := 6, srcLane := some 1, corridor := .t }]
    lanes := ⟨[(1, ⟨[7], 0, 2, some .f, some .t1⟩), (3, ⟨[10], 2, 0, none, none⟩), (4, ⟨[8], 0, 0, none, none⟩)]⟩
    benches := ⟨[(7, { lying (.inLane 1) with claim := some 6 }), (8, lying (.inLane 4)), (10, lying (.inLane 3))]⟩
    carriages := ⟨{ pulling.car .f1 with transfer := some ⟨.pull, 1, .left, 5, 7, false, 0⟩ }, Carriage.blank, Carriage.blank,
      { idleAt 10000 with state := .docked, docked := some 1, assigned := some 6, task := some ⟨.order, 0, 14000, [], none, none⟩ },
      Carriage.blank, Carriage.blank⟩ }

theorem test_pull_cancels_the_waiting_claimant :
    contested.order? 5 = some { job .pulling (some .f1) with source := .laneEnd 1, srcLane := some 1, bench := none } ∧
    contested.claimOf 7 = some 6 ∧ contested.order? 6 ≠ none ∧ (contested.lane 1).waiting = some .t1 ∧
    (contested.car .t1).assigned = some 6 ∧
    let t := contested.transferOutcome .f1 ⟨.pull, 1, .left, 5, 7, false, 0⟩ false true
    t.order? 6 = none ∧ (t.car .t1).state = .idle ∧ (t.car .t1).task = none ∧ (t.lane 1).lock = none ∧ (t.lane 1).waiting = none ∧
    t.claimOf 7 = some 5 ∧ (t.car .f1).load = .bench 7 := by decide

theorem test_missed_exchange :
    after (.missedExchange .f) yard = yard ∧ ((calling yard .hold).car .f1).misses < 2 ∧
    ((after (.missedExchange .f) (calling yard .hold)).car .f1).misses = 1 ∧
    ((after (.missedExchange .f) ((calling yard .hold).modCar .f1 fun v => { v with misses := 2 })).car .f1).link = .lost ∧
    ((after (.missedExchange .f) ((calling yard .hold).modCar .f1 fun v => { v with misses := 2 })).car .f1).faultKind
      = some .linkLost ∧
    ((after (.missedExchange .f) ((calling yard .hold).modCar .f1 fun v => { v with misses := 2 })).seg .f 0).fence ≠ none ∧
    ((after (.missedExchange .f) ((calling yard .hold).modCar .f1 fun v => { v with link := .lost, misses := 3 })).car .f1).misses = 3 ∧
    ((after (.missedExchange .f) (yard.modLine .f fun w => { w with inFlight := some ⟨1, none, .run, 0, false⟩ })).millis = 20) := by
  decide

/-! ## Transfers and timeouts -/

theorem test_transfers :
    pulling.order? 5 = some (job .pulling (some .f1)) ∧ pulling.bench? 7 = some { lying (.inLane 2) with claim := some 5 } ∧
    (pulling.lane 2).waiting = none ∧
    ((pulling.transferOutcome .f1 ⟨.pull, 2, .left, 5, 7, false, 0⟩ false true).lane 2).benches = [] ∧
    ((pulling.transferOutcome .f1 ⟨.pull, 2, .left, 5, 7, false, 0⟩ false true).bench? 7).map Bench.place = some (.aboard .f1) ∧
    ((pulling.transferOutcome .f1 ⟨.pull, 2, .left, 5, 7, false, 0⟩ false true).order? 5).map Order.phase = some .carrying ∧
    pushing.order? 5 ≠ none ∧ (pushing.bench? 7).map Bench.claim = some (some 5) ∧
    ((pushing.transferOutcome .f1 ⟨.push, 3, .left, 5, 7, true, 0⟩ false false).lane 3).benches = [7, 10] ∧
    (pushing.transferOutcome .f1 ⟨.push, 3, .left, 5, 7, true, 0⟩ false false).book = [] := by decide

theorem test_transfers_that_move_nothing :
    let p := pulling.transferOutcome .f1 ⟨.pull, 2, .left, 5, 7, false, 0⟩ false false
    p.book = [] ∧ (p.lane 2).benches = [7] ∧ (p.bench? 7).map Bench.identity = some (.doubtful none) ∧ (p.car .f1).state = .idle ∧
    ((p.link .l1).queue.map (·.body)) = [.event (.ended 5 .failed (some .nothingPulled) (some 7))] ∧
    ((pulling.transferOutcome .f1 ⟨.pull, 2, .left, 5, 7, false, 0⟩ true false).bench? 7).map Bench.identity = some .verified ∧
    ((pushing.transferOutcome .f1 ⟨.push, 3, .left, 5, 7, true, 0⟩ false true).car .f1).load = .bench 7 ∧
    ((pushing.transferOutcome .f1 ⟨.push, 3, .left, 5, 7, true, 0⟩ true true).car .f1).state = .idle ∧
    (((pushing.transferOutcome .f1 ⟨.push, 3, .left, 5, 7, true, 0⟩ false true).link .l1).queue.map (·.body))
      = [.event (.ended 5 .failed (some .notReleased) (some 7))] := by decide

/-- T1 waits DOCKED at BAY lane 1 for the lock that F1 holds, to pull bench 7 there. -/
def queuedForTheLock : State := { contested with benches := ⟨[(7, lying (.inLane 1))]⟩ }

/-- F1 and F2 on corridor F at two positions, with an order in the book. -/
def abreast (p q : Int) (o : Order) : State :=
  { crowd with
    mode := .running, book := [o]
    carriages := ⟨idleAt p, idleAt q, Carriage.blank, idleAt 5000, Carriage.blank, Carriage.blank⟩ }

/-- F1 is chosen for order 5, from lane 2 at 2,000 to lane 3 at 15,000. -/
theorem test_allocator_chooses :
    (abreast 5000 20000 (job .queued none)).sourceReady (job .queued none) = true ∧
    Chosen (abreast 5000 20000 (job .queued none)) (job .queued none) .f1 (1900, 18100) 2000 := by
  refine ⟨by decide, ⟨⟨by decide, by decide, by decide, by decide, rfl⟩,
    ⟨⟨3000, 400, .south, 1⟩, 5000, ⟨.left, 15000⟩, by decide, by decide, by decide, 2, ⟨.left, 2000⟩, by decide⟩, ?_⟩, ?_⟩
  · constructor
    · intro m _ _ k hk
      cases m <;> exact absurd hk (by decide +revert)
    · intro m hm _ ho
      cases m <;> first | exact absurd hm (by decide) | exact absurd ho (by decide)
  · intro m q x he a b ha hb
    have h1 : (5000 : Int) = a := by simpa [abreast, State.car, Six.get, idleAt] using ha
    have hm : m = .f1 ∨ m = .f2 := by
      have := he.1.1
      cases m <;> first | decide | exact absurd this (by decide)
    rcases hm with rfl | rfl
    · have h2 : (5000 : Int) = b := by simpa [abreast, State.car, Six.get, idleAt] using hb
      subst h1; subst h2; decide
    · have h2 : (20000 : Int) = b := by simpa [abreast, State.car, Six.get, idleAt] using hb
      subst h1; subst h2; decide

theorem test_allocator_gives_orders :
    planShifts (abreast 5000 20000 (job .queued none)) .f1 (1900, 18100) none = some [] ∧
    (((abreast 5000 20000 (job .queued none)).allocate .f).car .f1).leg = some ⟨2000, .north⟩ ∧
    ((abreast 5000 20000 (job .queued none)).allocate .f).book = [job .fetching (some .f1)] ∧
    planShifts (abreast 5000 12500 (job .queued none)) .f1 (1900, 18100) none = some [⟨.f2, 18201, (12400, 21301)⟩] ∧
    ((abreast 5000 12500 (job .queued none)).allocate .f).book = [job .assigned (some .f1)] ∧
    ((abreast 5000 12500 (job .queued none)).allocate .f).car .f2 =
      shifted (idleAt 12500) ⟨.f2, 18201, (12400, 21301)⟩ (.order 5) ∧
    (((abreast 5000 12500 (job .queued none)).allocate .f).car .f1).task = some ⟨.order, 1900, 18100, [.f2], none, none⟩ ∧
    planShifts (abreast 5000 12500 { job .queued none with dest := 4 }) .f1 (1900, 21100) none = none ∧
    (abreast 5000 12500 { job .queued none with dest := 4 }).allocate .f = abreast 5000 12500 { job .queued none with dest := 4 } := by
  decide

/-- Two carriages as near to the source dock point: F1 has the order. An obstacle or a busy carriage in the interval: nobody has. -/
theorem test_allocator_ties_and_obstacles :
    (((abreast 12000 18000 { job .queued none with source := .bench 10, srcLane := some 3, dest := 1 }).allocate .f).car .f1).assigned
      = some 5 ∧
    ((abreast 5000 12500 (job .queued none)).modCar .f2 fun v => { v with state := .faulted }).tryOrder 5
      = ((abreast 5000 12500 (job .queued none)).modCar .f2 fun v => { v with state := .faulted }) ∧
    ((abreast 5000 20000 (job .queued none)).modCar .f2 fun v => { v with task := some ⟨.shift, 18100, 23000, [], none, none⟩ }).tryOrder 5
      = ((abreast 5000 20000 (job .queued none)).modCar .f2 fun v => { v with task := some ⟨.shift, 18100, 23000, [], none, none⟩ }) ∧
    (abreast 5000 20000 { job .queued none with source := .bench 9 }).tryOrder 5
      = abreast 5000 20000 { job .queued none with source := .bench 9 } ∧
    ({ abreast 5000 20000 (job .queued none) with mode := .configuring } : State).allocate .f
      = { abreast 5000 20000 (job .queued none) with mode := .configuring } := by decide

/-- Order 9 comes before order 5 of its class by its stamp, order 6 before both by its class; order 4 is not QUEUED. -/
theorem test_candidate_order :
    ({ yard with book := [{ job .queued none with placedAt := 3 }, { job .queued none with id := 9 },
        { job .queued none with id := 6, eff := .urgent, placedAt := 8 }, { job .fetching none with id := 4 }] } : State).candidates .f
      = [6, 9, 5] := by decide

/-- F1 UNHOMED, to home south to gate 2. -/
def strays (p q : Int) : State :=
  (abreast p q (job .carrying none)).modCar .f1 fun v => { v with state := .unhomed }

theorem test_homing_hypotheses :
    NeedsHoming (strays 5000 20000) .f1 ∧ HomingStretch (strays 5000 20000) .f1 (4900, 8150) ∧
    WayClear (strays 5000 20000) .f (4900, 8150) .f1 (some .f1) := by
  refine ⟨by decide, ⟨⟨3000, 400, .south, 1⟩, (4900, 8100), by decide, by decide, 150, 8150, by decide⟩, ?_, ?_⟩
  · intro m _ _ k hk
    cases m <;> exact absurd hk (by decide +revert)
  · intro m hm hn ho
    cases m <;> first | exact absurd rfl hn | exact absurd hm (by decide) | exact absurd ho (by decide)

theorem test_allocator_homes :
    planShifts (strays 5000 20000) .f1 (4900, 8150) none = some [] ∧
    (((strays 5000 20000).tryHoming .f1).car .f1).homing = some ⟨1, 5050, 0⟩ ∧
    (((strays 5000 8201).tryHoming .f1).car .f1).state = .unhomed ∧
    (((strays 5000 8201).tryHoming .f1).car .f1).task = some ⟨.homing, 4900, 8150, [.f2], none, none⟩ ∧
    (((strays 5000 8201).tryHoming .f1).car .f2).task = some ⟨.shift, 8101, 11351, [], some 8251, some (.homing .f1)⟩ ∧
    (((strays 19000 3000).tryHoming .f1).car .f1).faultKind = some .homingFailed ∧ ¬ NeedsHoming yard .f1 := by decide

/-- F2 arrives where it was shifted to: order 5, which F1 waited to start, starts. -/
theorem test_shift_ends :
    let s := (abreast 5000 12500 (job .queued none)).allocate .f
    let t := s.judgeAnswer .f2 .run { standing with state := .atTarget }
    (s.car .f2).onShift = true ∧ (t.car .f2).state = .idle ∧ (t.car .f1).state = .running ∧
    (t.car .f1).leg = some ⟨2000, .north⟩ ∧ t.book.map Order.phase = [.fetching] ∧
    ((((strays 5000 8201).tryHoming .f1).endShift .f2).car .f1).state = .homing ∧ yard.endShift .f1 = yard.owe .f := by decide

theorem test_abort_interrupts :
    let t := after (.abort .l1 (.args 5)) pulling
    Asks pulling .l1 .abort ∧
    (t.link .l1).queue.map (·.body) = [.event (.ended 5 .aborted none (some 7)), .fault .f1 .transferInterrupted none] ∧
    ((contested.leaveStraddling .f1 ⟨.pull, 1, .left, 5, 7, false, 0⟩).order? 5).map Order.bench = some (some 7) := by decide

theorem test_lock_passes :
    queuedForTheLock.isBay 1 = true ∧ (queuedForTheLock.lane 1).waiting = some .t1 ∧ queuedForTheLock.endMost 1 .t = some 7 ∧
    ((queuedForTheLock.releaseLock 1).lane 1).lock = some .t ∧ ((queuedForTheLock.releaseLock 1).lane 1).waiting = none ∧
    ((queuedForTheLock.releaseLock 1).car .t1).transfer = some ⟨.pull, 1, .right, 6, 7, false, 0⟩ ∧
    yard.releaseLock 2 = yard ∧ ((straddle 1).releaseLock 1).lane 1 = ⟨[], 0, 0, some .t, none⟩ := by decide

theorem test_timeouts :
    (homing.car .f1).state = .homing ∧ homing.hold .f = false ∧ (homing.car .f1).homing = some ⟨2, 13050, 0⟩ ∧
    (after (.homingTimeout .f1) homing).millis = 180000 ∧
    ((after (.homingTimeout .f1) homing).car .f1).faultKind = some .homingFailed ∧ NothingOwed yard ∧
    after (.homingTimeout .f1) yard = yard ∧ (pulling.car .f1).transfer ≠ none ∧
    (after (.transferTimeout .f1) pulling).millis = 60000 ∧
    ((after (.transferTimeout .f1) pulling).bench? 7).map Bench.place = some (.straddling .f1 2 .f) ∧
    ((after (.transferTimeout .f1) pushing).car .f1).load = .straddled ∧ after (.transferTimeout .f1) yard = yard := by decide

end Sys2Proof.Tests
end

section
/-! PROOFS. Movement authority and speed: capfor (R121), the speed cap and the cap a telegram carries (R122). -/

namespace Sys2Proof.Machine

/-! ## capfor -/

/-- The bit-by-bit search keeps a number that passes the test and tops every number in its range that passes: a failed trial at
acc + 2^b rules out everything from there on. -/
theorem greatest_spec (test : Nat → Bool) (falls : ∀ u v, u ≤ v → test v = true → test u = true) :
    ∀ b acc, test acc = true →
      test (greatest test b acc) = true ∧ ∀ v, v < acc + 2 ^ b → test v = true → v ≤ greatest test b acc := by
  intro b
  induction b with
  | zero =>
    intro acc hacc
    exact ⟨hacc, fun v hv _ => Nat.lt_succ_iff.mp hv⟩
  | succ b ih =>
    intro acc hacc
    rw [greatest]
    split
    case isTrue htrial =>
      obtain ⟨hpass, htop⟩ := ih (acc + 2 ^ b) htrial
      exact ⟨hpass, fun v hv => htop v (by omega)⟩
    case isFalse htrial =>
      obtain ⟨hpass, htop⟩ := ih acc hacc
      refine ⟨hpass, fun v _ hv => htop v (Nat.lt_of_not_le fun hbeyond => ?_) hv⟩
      exact htrial (falls _ v hbeyond hv)

theorem capTest_iff (a r x v : Nat) :
    capTest a r x v = true ↔ 1000 * (v * v) + 2 * a * r * v ≤ 2000 * a * x := decide_eq_true_iff

theorem capTest_zero (a r x : Nat) : capTest a r x 0 = true := (capTest_iff a r x 0).mpr (Nat.zero_le _)

/-- The left side of R121's inequality grows with the speed. -/
theorem capTest_falls (a r x u v : Nat) (huv : u ≤ v) (hv : capTest a r x v = true) : capTest a r x u = true := by
  rw [capTest_iff] at hv ⊢
  calc 1000 * (u * u) + 2 * a * r * u
      ≤ 1000 * (v * v) + 2 * a * r * v  :=
        Nat.add_le_add (Nat.mul_le_mul_left _ (Nat.mul_le_mul huv huv)) (Nat.mul_le_mul_left _ huv)
    _ ≤ 2000 * a * x := hv

/-- The right side of R121's inequality grows with the distance. -/
theorem capTest_of_le (a r x y v : Nat) (hxy : x ≤ y) (hv : capTest a r x v = true) : capTest a r y v = true := by
  rw [capTest_iff] at hv ⊢
  exact Nat.le_trans hv (Nat.mul_le_mul_left _ hxy)

/-- No speed of the inequality has more bits than 2·a·x, so the search of capFor begins high enough. -/
theorem lt_two_pow_of_capTest (a r x v : Nat) (hv : capTest a r x v = true) :
    v < 2 ^ (Nat.log2 (2 * a * x) + 1) := by
  rw [capTest_iff] at hv
  have hsquare : v * v ≤ 2 * a * x := by
    refine Nat.le_of_mul_le_mul_left ?_ (by decide : 0 < 1000)
    calc 1000 * (v * v)
        ≤ 1000 * (v * v) + 2 * a * r * v := Nat.le_add_right _ _
      _ ≤ 2000 * a * x := hv
      _ = 1000 * (2 * a * x) := by rw [← Nat.mul_assoc, ← Nat.mul_assoc]
  calc v ≤ v * v := Nat.le_mul_self v
    _ ≤ 2 * a * x := hsquare
    _ < 2 ^ (Nat.log2 (2 * a * x) + 1) := Nat.lt_log2_self

theorem capFor_of_nonpos (a r : Nat) (x : Int) (hx : x ≤ 0) : capFor a r x = 0 := if_pos hx

theorem capFor_of_pos (a r x : Nat) (hx : 0 < x) :
    capFor a r x = greatest (capTest a r x) (Nat.log2 (2 * a * x) + 1) 0 :=
  if_neg (by omega)

theorem capTest_capFor (a r x : Nat) (hx : 0 < x) : capTest a r x (capFor a r x) = true := by
  rw [capFor_of_pos a r x hx]
  exact (greatest_spec _ (capTest_falls a r x) _ 0 (capTest_zero a r x)).1

theorem le_capFor (a r x v : Nat) (hx : 0 < x) (hv : capTest a r x v = true) : v ≤ capFor a r x := by
  rw [capFor_of_pos a r x hx]
  have hbits := lt_two_pow_of_capTest a r x v hv
  exact (greatest_spec _ (capTest_falls a r x) _ 0 (capTest_zero a r x)).2 v (by omega) hv

theorem capFor_mono (a r : Nat) (x y : Int) (hxy : x ≤ y) : capFor a r x ≤ capFor a r y := by
  rcases Int.lt_or_le 0 x with hx | hx
  · obtain ⟨m, rfl⟩ := Int.eq_ofNat_of_zero_le (Int.le_of_lt hx)
    obtain ⟨k, rfl⟩ := Int.eq_ofNat_of_zero_le (Int.le_trans (Int.le_of_lt hx) hxy)
    have hm : 0 < m := Int.natCast_pos.mp hx
    have hmk : m ≤ k := Int.ofNat_le.mp hxy
    exact le_capFor a r k _ (Nat.lt_of_lt_of_le hm hmk) (capTest_of_le a r m k _ hmk (capTest_capFor a r m hm))
  · rw [capFor_of_nonpos a r x hx]
    exact Nat.zero_le _

/-- A row of R121's table: the check of v and the check of v + 1 fix capfor(x). -/
theorem capFor_eq (a r x v : Nat) (hx : 0 < x) (hv : capTest a r x v = true) (hnext : capTest a r x (v + 1) = false) :
    capFor a r x = v := by
  refine Nat.le_antisymm (Nat.le_of_not_lt fun hbeyond => ?_) (le_capFor a r x v hx hv)
  have hpass := capTest_falls a r x (v + 1) _ hbeyond (capTest_capFor a r x hx)
  exact Bool.false_ne_true (hnext.symm.trans hpass)

/-- Settles O10: the bit-by-bit search finds the greatest v, the inequality being monotone in the speed and in the distance. -/
theorem capForIsTheGreatestSpeed : Obligations.CapForIsTheGreatestSpeed := by
  unfold Obligations.CapForIsTheGreatestSpeed
  refine ⟨capFor_of_nonpos, fun a r x hx => ⟨?_, fun v hv => ?_⟩, capFor_mono, ?_, ?_, ?_, ?_, ?_⟩
  · exact (capTest_iff a r x _).mp (capTest_capFor a r x hx)
  · exact le_capFor a r x v hx ((capTest_iff a r x v).mpr hv)
  · exact capFor_eq 400 300 1 3 (by decide) (by decide) (by decide)
  · exact capFor_eq 400 300 350 422 (by decide) (by decide) (by decide)
  · exact capFor_eq 400 300 600 583 (by decide) (by decide) (by decide)
  · exact capFor_eq 400 300 1000 782 (by decide) (by decide) (by decide)
  · exact capFor_eq 400 300 3500 1557 (by decide) (by decide) (by decide)

/-! ## The speed cap -/

/-- A speed is one of a kind of speeds, and none of them is less. -/
def LeastOf (speeds : Nat → Prop) (x : Nat) : Prop := speeds x ∧ ∀ y, speeds y → x ≤ y

theorem leastOf_min {p q : Nat → Prop} {a b : Nat} (hp : LeastOf p a) (hq : LeastOf q b) :
    LeastOf (fun x => p x ∨ q x) (min a b) := by
  obtain ⟨ha, hleast⟩ := hp
  obtain ⟨hb, hleast'⟩ := hq
  constructor
  · rcases Nat.le_total a b with hab | hab
    · exact .inl (by rwa [Nat.min_eq_left hab])
    · exact .inr (by rwa [Nat.min_eq_right hab])
  · rintro y (hy | hy)
    · exact Nat.le_trans (Nat.min_le_left a b) (hleast y hy)
    · exact Nat.le_trans (Nat.min_le_right a b) (hleast' y hy)

theorem leastOf_eq (a : Nat) : LeastOf (fun x => x = a) a := ⟨rfl, fun _ hy => Nat.le_of_eq hy.symm⟩

/-- The lesser of a speed and a term of R122 that may not apply. -/
def minTerm (base : Nat) : Option Nat → Nat
  | some x => min base x
  | none => base

/-- A term that may not apply joins the speeds it is the least of. -/
theorem leastOf_minTerm {speeds : Nat → Prop} {base : Nat} (h : LeastOf speeds base) (term : Option Nat) :
    LeastOf (fun x => speeds x ∨ term = some x) (minTerm base term) := by
  cases term with
  | none => exact ⟨.inl h.1, fun y hy => hy.elim (h.2 y) nofun⟩
  | some z =>
    have hz : LeastOf (fun x => some z = some x) z := ⟨rfl, fun _ hy => Nat.le_of_eq (Option.some.inj hy)⟩
    exact leastOf_min h hz

namespace State

theorem fenceUnder_iff (s : State) (n : CarriageName) :
    s.fenceUnder n = true ↔
      ∃ r, s.footprint n = some r ∧ ∃ k ∈ s.segsMeeting n.corridor r, (s.seg n.corridor k).fence ≠ none := by
  unfold fenceUnder
  cases s.footprint n with
  | none => exact ⟨nofun, nofun⟩
  | some r =>
    simp only [List.any_eq_true, Option.isSome_iff_ne_none]
    exact ⟨fun h => ⟨r, rfl, h⟩, fun ⟨_, hr, h⟩ => Option.some.inj hr ▸ h⟩

theorem capZero_iff (s : State) (n : CarriageName) : s.capZero n = true ↔ capIsZero s n := by
  simp only [capZero, capIsZero, Bool.or_eq_true, fenceUnder_iff, Option.isNone_iff_eq_none, or_assoc]

theorem capTermA_of_item (s : State) (n : CarriageName) (it : CarriageItem) (hit : s.item n = some it) :
    s.capTermA n = capFor it.decel (s.timing n.corridor).reaction (s.availableDistance n) := by
  rw [capTermA, hit]

theorem capTermT_eq_some (s : State) (n : CarriageName) (it : CarriageItem) (hit : s.item n = some it) (x : Nat) :
    s.capTermT n = some x ↔
      ∃ d, s.targetDistance n = some d ∧ 0 < d ∧ x = max (capFor it.decel (s.timing n.corridor).reaction d) 100 := by
  unfold capTermT
  rw [hit]
  cases s.targetDistance n with
  | none => exact ⟨nofun, nofun⟩
  | some d =>
    by_cases hd : 0 < d
    · simp only [if_pos hd, Option.some.injEq]
      exact ⟨fun h => ⟨d, rfl, hd, h.symm⟩, fun ⟨_, hd', _, h⟩ => hd' ▸ h.symm⟩
    · simp only [if_neg hd, Option.some.injEq]
      exact ⟨nofun, fun ⟨_, hd', hpos, _⟩ => absurd (hd' ▸ hpos) hd⟩

theorem capTermC_eq_some (s : State) (n : CarriageName) (x : Nat) :
    s.capTermC n = some x ↔ crawls s n ∧ x = 100 := by
  unfold capTermC
  by_cases h : crawls s n
  · rw [if_pos h]
    exact ⟨fun hx => ⟨h, (Option.some.inj hx).symm⟩, fun hx => congrArg some hx.2.symm⟩
  · rw [if_neg h]
    exact ⟨nofun, fun hx => absurd hx.1 h⟩

theorem speedCap_of_capZero (s : State) (n : CarriageName) (h : s.capZero n = true) : s.speedCap n = 0 := if_pos h

theorem speedCap_of_not_capZero (s : State) (n : CarriageName) (h : s.capZero n ≠ true) :
    s.speedCap n =
      minTerm (minTerm (min (s.timing n.corridor).vmax (s.capTermA n)) (s.capTermT n)) (s.capTermC n) := by
  rw [speedCap, if_neg h]
  cases s.capTermT n <;> cases s.capTermC n <;> rfl

end State

/-- The terms of R122 that apply, as the authority unit keeps them. -/
theorem capTerm_iff (s : State) (n : CarriageName) (it : CarriageItem) (hit : s.item n = some it) (x : Nat) :
    capTerm s n it x ↔
      ((x = (s.timing n.corridor).vmax ∨ x = s.capTermA n) ∨ s.capTermT n = some x) ∨ s.capTermC n = some x := by
  simp only [capTerm, s.capTermA_of_item n it hit, s.capTermT_eq_some n it hit, s.capTermC_eq_some, or_assoc]

/-- R122: outside the four cases the speed cap is the least of the terms that apply. -/
theorem speedCap_leastOf (s : State) (n : CarriageName) (it : CarriageItem) (hit : s.item n = some it)
    (h : s.capZero n ≠ true) : LeastOf (capTerm s n it) (s.speedCap n) := by
  rw [funext fun x => propext (capTerm_iff s n it hit x), s.speedCap_of_not_capZero n h]
  exact leastOf_minTerm (leastOf_minTerm (leastOf_min (leastOf_eq _) (leastOf_eq _)) _) _

/-- A term that applies bounds the speed cap, in the four cases too. -/
theorem speedCap_le_of_capTerm (s : State) (n : CarriageName) (it : CarriageItem) (hit : s.item n = some it) (x : Nat)
    (hx : capTerm s n it x) : s.speedCap n ≤ x := by
  by_cases h : s.capZero n = true
  · rw [s.speedCap_of_capZero n h]
    exact Nat.zero_le x
  · exact (speedCap_leastOf s n it hit h).2 x hx

/-- A telegram carries the speed cap or none (R124). -/
theorem telegramTo_cap_le (s : State) (n : CarriageName) (address : Nat) :
    (s.telegramTo n address).cap ≤ s.speedCap n := by
  simp only [State.telegramTo]
  split
  · exact Nat.le_refl _
  · exact Nat.zero_le _

/-- Settles O11: the chain of minima is the least element of the terms that apply, and a telegram carries no more. -/
theorem speedCapIsTheLeastTerm : Obligations.SpeedCapIsTheLeastTerm := by
  unfold Obligations.SpeedCapIsTheLeastTerm
  intro s n it hit
  refine ⟨fun hzero => ?_, fun hnonzero => ?_, fun address => ⟨?_, fun hcrawls => ?_⟩⟩
  · exact s.speedCap_of_capZero n ((s.capZero_iff n).mpr hzero)
  · exact speedCap_leastOf s n it hit (mt (s.capZero_iff n).mp hnonzero)
  · exact Nat.le_trans (telegramTo_cap_le s n address) (speedCap_le_of_capTerm s n it hit _ (.inl rfl))
  · exact Nat.le_trans (telegramTo_cap_le s n address)
      (speedCap_le_of_capTerm s n it hit 100 (.inr (.inr (.inr ⟨hcrawls, rfl⟩))))

end Sys2Proof.Machine
end

section
/-! PROOFS. Watches and notices: the chains of a link's slots and the slots' conditions (R168, R169), FETCH (R170), ATTENTION and the
attention line (R171). -/

namespace Sys2Proof.Machine

/-! ## Chains -/

/-- The slots of the chain that a slot `w` begins before the slots `rest` (R169). -/
def chainOf (w : WatchSlot) (rest : List WatchSlot) : List WatchSlot := w :: rest.takeWhile (·.andPrev)

/-- A slot whose and-previous is clear stands at an index, and the chain it begins fires. -/
def FiresAt (matched : WatchSlot → Bool) (slots : List WatchSlot) (i : Nat) : Prop :=
  ∃ w, slots[i]? = some w ∧ w.andPrev = false ∧ ∀ v ∈ chainOf w (slots.drop (i + 1)), matched v = true

theorem firesAt_zero (matched : WatchSlot → Bool) (w : WatchSlot) (rest : List WatchSlot) :
    FiresAt matched (w :: rest) 0 ↔
      w.andPrev = false ∧ matched w = true ∧ ∀ v ∈ rest.takeWhile (·.andPrev), matched v = true := by
  simp [FiresAt, chainOf]

theorem firesAt_succ (matched : WatchSlot → Bool) (w : WatchSlot) (rest : List WatchSlot) (i : Nat) :
    FiresAt matched (w :: rest) (i + 1) ↔ FiresAt matched rest i := Iff.rfl

/-- The judged chains are the one under way, led by `lead`, and those that begin in the slots still to come. -/
theorem mem_chainsFrom (matched : WatchSlot → Bool) (x : Nat) (slots : List WatchSlot) :
    ∀ i lead ok, x ∈ chainsFrom matched i lead ok slots ↔
      (x = lead ∧ ok = true ∧ ∀ v ∈ slots.takeWhile (·.andPrev), matched v = true) ∨
      ∃ d, x = i + d ∧ FiresAt matched slots d := by
  induction slots with
  | nil => intro i lead ok; cases ok <;> simp [chainsFrom, FiresAt]
  | cons w rest ih =>
    intro i lead ok
    have firstOrLater : (∃ d, x = i + d ∧ FiresAt matched (w :: rest) d) ↔
        (x = i ∧ FiresAt matched (w :: rest) 0) ∨ ∃ d, x = i + 1 + d ∧ FiresAt matched rest d := by
      rw [← Nat.or_exists_add_one]
      simp only [firesAt_succ, Nat.add_zero, Nat.add_assoc, Nat.add_comm 1]
    rw [firstOrLater, firesAt_zero]
    cases hw : w.andPrev with
    | true =>
      rw [chainsFrom, if_pos hw, ih]
      simp [hw, and_assoc]
    | false =>
      rw [chainsFrom, if_neg (by simp [hw]), List.mem_append, ih]
      cases ok <;> simp [hw]

theorem lead_le_of_mem_chainsFrom (matched : WatchSlot → Bool) (slots : List WatchSlot) (i lead x : Nat) (ok : Bool)
    (hlead : lead ≤ i) (hx : x ∈ chainsFrom matched i lead ok slots) : lead ≤ x := by
  obtain ⟨rfl, _⟩ | ⟨d, rfl, _⟩ := (mem_chainsFrom matched x slots i lead ok).mp hx
  · exact Nat.le_refl _
  · exact Nat.le_add_right_of_le hlead

/-- A chain is judged where the next one begins, so the leading slots come out rising. -/
theorem chainsFrom_rising (matched : WatchSlot → Bool) (slots : List WatchSlot) :
    ∀ i lead ok, lead < i → (chainsFrom matched i lead ok slots).Pairwise (· < ·) := by
  induction slots with
  | nil => intro i lead ok _; cases ok <;> simp [chainsFrom]
  | cons w rest ih =>
    intro i lead ok hlead
    rw [chainsFrom]
    split
    · exact ih (i + 1) lead _ (Nat.lt_succ_of_lt hlead)
    · have hrest := ih (i + 1) i (matched w) (Nat.lt_succ_self i)
      cases ok with
      | false => exact hrest
      | true =>
        refine List.pairwise_cons.mpr ⟨fun x hx => ?_, hrest⟩
        exact Nat.lt_of_lt_of_le hlead (lead_le_of_mem_chainsFrom matched rest (i + 1) i x _ (Nat.le_succ i) hx)

theorem firedSet_rising (matched : WatchSlot → Bool) (slots : List WatchSlot) :
    (firedSet matched slots).Pairwise (· < ·) := by
  cases slots with
  | nil => exact .nil
  | cons w rest => exact chainsFrom_rising matched rest 1 0 _ Nat.one_pos

/-- Slot 0 begins a chain whatever its and-previous holds; every other chain begins at a clear one. -/
theorem mem_firedSet (matched : WatchSlot → Bool) (slots : List WatchSlot) (i : Nat) :
    i ∈ firedSet matched slots ↔
      ∃ w, slots[i]? = some w ∧ (i = 0 ∨ w.andPrev = false) ∧ ∀ v ∈ chainOf w (slots.drop (i + 1)), matched v = true := by
  cases slots with
  | nil => simp [firedSet]
  | cons w rest =>
    rw [firedSet, mem_chainsFrom]
    cases i with
    | zero =>
      have hlater : ¬ ∃ d, 0 = 1 + d ∧ FiresAt matched rest d := fun ⟨d, h, _⟩ => by omega
      simp [chainOf, hlater]
    | succ i => simp [FiresAt, Nat.add_comm 1]

/-- What holds of a list's members up to an index holds of its head, and of its tail's members up to one index less. -/
theorem forall_upto_cons {α : Type} (P : α → Prop) (a : α) (rest : List α) (j : Nat) :
    (∀ k u, k ≤ j → (a :: rest)[k]? = some u → P u) ↔ P a ∧ ∀ k u, k + 1 ≤ j → rest[k]? = some u → P u := by
  constructor
  · exact fun h => ⟨h 0 a (Nat.zero_le j) rfl, fun k => h (k + 1)⟩
  · rintro ⟨ha, hrest⟩ (_ | k) u hk hu
    · exact Option.some.inj hu ▸ ha
    · exact hrest k u hk hu

theorem mem_takeWhile_iff {α : Type} (p : α → Bool) (v : α) (l : List α) :
    v ∈ l.takeWhile p ↔ ∃ j : Nat, l[j]? = some v ∧ ∀ k u, k ≤ j → l[k]? = some u → p u = true := by
  induction l with
  | nil => simp
  | cons a rest ih =>
    rw [← Nat.or_exists_add_one]
    simp only [forall_upto_cons (p · = true)]
    by_cases ha : p a = true
    · simp [ha, ih, @eq_comm _ a v]
    · simp [ha]

/-- The chain a slot begins, by index: the slot and each later one up to which and-previous stays set. -/
theorem mem_chainOf_drop (slots : List WatchSlot) (i : Nat) (w v : WatchSlot) (hw : slots[i]? = some w) :
    v ∈ chainOf w (slots.drop (i + 1)) ↔
      ∃ j, i ≤ j ∧ slots[j]? = some v ∧ ∀ k u, i < k → k ≤ j → slots[k]? = some u → u.andPrev = true := by
  rw [chainOf, List.mem_cons, mem_takeWhile_iff]
  simp only [List.getElem?_drop]
  constructor
  · rintro (rfl | ⟨d, hv, hset⟩)
    · exact ⟨i, Nat.le_refl i, hw, fun k u hk hki => absurd hki (Nat.not_le_of_lt hk)⟩
    · refine ⟨i + 1 + d, by omega, hv, fun k u hk hkd hu => ?_⟩
      obtain ⟨e, rfl⟩ := Nat.exists_eq_add_of_le (Nat.succ_le_of_lt hk)
      exact hset e u (Nat.le_of_add_le_add_left hkd) hu
  · rintro ⟨j, hij, hv, hset⟩
    rcases Nat.eq_or_lt_of_le hij with rfl | hlt
    · exact .inl (Option.some.inj (hv.symm.trans hw))
    · obtain ⟨d, rfl⟩ := Nat.exists_eq_add_of_le (Nat.succ_le_of_lt hlt)
      exact .inr ⟨d, hv, fun k u hk => hset (i + 1 + k) u (by omega) (Nat.add_le_add_left hk _)⟩

/-! ## Matching -/

theorem laneSelMatches_any (s : State) (lane : Option Nat) : laneSelMatches s .any lane = true := rfl

theorem laneSelMatches_number (s : State) (n : Nat) (lane : Option Nat) :
    laneSelMatches s (.number n) lane = true ↔ lane = some n := by
  cases lane <;> simp [laneSelMatches, eq_comm]

theorem laneSelMatches_kind (s : State) (k : LaneKind) (lane : Option Nat) :
    laneSelMatches s (.kind k) lane = true ↔ ∃ n it, lane = some n ∧ s.laneItem n = some it ∧ it.kind = k := by
  cases lane <;> simp [laneSelMatches]

theorem refMatches_any (b : Option Bench) : refMatches .any b = true := rfl

theorem refMatches_present (b : Option Bench) : refMatches .present b = true ↔ ∃ v, b = some v ∧ v.reference ≠ none := by
  cases b <;> simp [refMatches, Option.isSome_iff_ne_none]

theorem refMatches_absent (b : Option Bench) : refMatches .absent b = true ↔ ∃ v, b = some v ∧ v.reference = none := by
  cases b <;> simp [refMatches]

theorem refMatches_equal (x : Nat) (b : Option Bench) :
    refMatches (.equal x) b = true ↔ ∃ v, b = some v ∧ v.reference = some x := by
  cases b <;> simp [refMatches]

theorem forall_readiness_iff (P : Readiness → Prop) :
    (∀ r, P r) ↔ P .growing ∧ P .ready ∧ P .held ∧ P .empty :=
  ⟨fun h => ⟨h _, h _, h _, h _⟩, fun ⟨hgrowing, hready, hheld, hempty⟩ r => by cases r <;> assumption⟩

/-- The seven conditions of R168, the last three each for an event with a bench and for one without. -/
theorem slotMatches_iff (s : State) (o : Offer) (w : WatchSlot) (b : Option Bench) (hb : b = o.bench.bind s.bench?) :
    slotMatches s o w = true ↔
      w.enabled = true ∧ o.event.kind ∈ w.events ∧ (w.corridor = none ∨ w.corridor = o.corridor) ∧
      laneSelMatches s w.lane o.lane = true ∧
      (∀ v, b = some v → v.batch &&& w.batchMask = w.batchValue &&& w.batchMask) ∧ (b = none → w.batchMask = 0) ∧
      (∀ v, b = some v → v.readiness ∈ w.readiness) ∧ (b = none → ∀ r, r ∈ w.readiness) ∧
      refMatches w.reference b = true := by
  simp only [slotMatches, ← hb, Bool.and_eq_true, and_assoc, forall_readiness_iff]
  cases b with
  | none => cases w.corridor <;> simp
  | some v => cases w.corridor <;> simp

theorem slotMatches_disabled (s : State) (o : Offer) (w : WatchSlot) (h : w.enabled = false) : slotMatches s o w = false := by
  simp [slotMatches, h]

/-! ## Offers -/

theorem offerOn_own (s : State) (o : Offer) (l : LinkId) (h : o.own = some l) :
    s.offerOn o l = s.notify l (.event o.event) (some (firedSet (slotMatches s o) (s.link l).slots)) := if_pos h

theorem offerOn_fired (s : State) (o : Offer) (l : LinkId) (h : o.own ≠ some l)
    (hf : firedSet (slotMatches s o) (s.link l).slots ≠ []) :
    s.offerOn o l = s.notify l (.event o.event) (some (firedSet (slotMatches s o) (s.link l).slots)) := by
  rw [State.offerOn, if_neg h, if_neg (mt List.isEmpty_iff.mp hf)]

theorem offerOn_quiet (s : State) (o : Offer) (l : LinkId) (h : o.own ≠ some l)
    (hf : firedSet (slotMatches s o) (s.link l).slots = []) : s.offerOn o l = s := by
  rw [State.offerOn, if_neg h, if_pos (List.isEmpty_iff.mpr hf)]

/-- Settles O48: the chains judged from left to right are those of the indices, and each selector of a slot means its condition of R168. -/
theorem chainsFireTogether : Obligations.ChainsFireTogether := by
  unfold Obligations.ChainsFireTogether
  refine ⟨fun matched slots => ⟨firedSet_rising matched slots, fun i => ?_⟩, slotMatches_disabled, fun s o w b hb => ?_,
    fun _ _ => rfl, fun _ _ => rfl, fun s o l => ⟨offerOn_own s o l, offerOn_fired s o l, offerOn_quiet s o l⟩⟩
  · rw [mem_firedSet]
    refine exists_congr fun w => and_congr_right fun hw => and_congr_right fun _ => ?_
    simp only [mem_chainOf_drop slots i w _ hw]
    exact ⟨fun h j v hij hv hset => h v ⟨j, hij, hv, hset⟩, fun h v ⟨j, hij, hv, hset⟩ => h j v hij hv hset⟩
  · have hbench : b = o.bench.bind s.bench? := by rw [hb]; cases o.bench <;> rfl
    rw [slotMatches_iff s o w b hbench]
    refine and_congr_right' (and_congr ?kind (and_congr_right' (and_congr ?lane (and_congr_right' (and_congr_right'
      (and_congr_right' (and_congr_right' ?reference)))))))
    case kind => cases o.event <;> exact Iff.rfl
    case lane =>
      cases w.lane with
      | any => exact iff_true_intro (laneSelMatches_any s o.lane)
      | number n => exact laneSelMatches_number s n o.lane
      | kind k => exact laneSelMatches_kind s k o.lane
    case reference =>
      cases w.reference with
      | any => exact iff_true_intro (refMatches_any b)
      | present => exact refMatches_present b
      | absent => exact refMatches_absent b
      | equal x => exact refMatches_equal x b

/-! ## Requests that write the sending link's notice unit -/

/-- A link as the taking of a request line leaves it (R175). -/
def Link.taken (w : ReqWord) (k : Link) : Link :=
  { k with outstanding := some w, assembling := none, answer := none, noticesFollow := false }

theorem takeLine_eq (s : State) (l : LinkId) (w : ReqWord) : s.takeLine l w = s.modLink l (Link.taken w) := rfl

/-- The taking of a line writes no field of the notice unit, so a block's write of those fields may be told before it or after it. -/
theorem takeLine_modLink (s : State) (l : LinkId) (w : ReqWord) (g : Link → Link)
    (hg : ∀ k : Link, g (k.taken w) = (g k).taken w) :
    (s.takeLine l w).modLink l g = (s.modLink l g).takeLine l w := by
  cases l <;> simp only [takeLine_eq, State.modLink, Three.get, Three.set, hg]

@[simp] theorem takeLine_link_queue (s : State) (l : LinkId) (w : ReqWord) :
    ((s.takeLine l w).link l).queue = (s.link l).queue := by cases l <;> rfl

@[simp] theorem takeLine_link_lost (s : State) (l : LinkId) (w : ReqWord) :
    ((s.takeLine l w).link l).lost = (s.link l).lost := by cases l <;> rfl

/-- A request whose block writes its own link alone, and none of the fields the taking of a line writes. -/
theorem request_modLink {α : Type} (s : State) (l : LinkId) (w : ReqWord) (form : α → Bool) (serve : State → α → Served) (a : α)
    (g : Link → Link) (r : Reply) (h : Asks s l w) (hf : form a = true) (hr : w = .move → s.mode = .running)
    (hg : ∀ k : Link, g (k.taken w) = (g k).taken w)
    (hs : serve (s.takeLine l w) a = ⟨(s.takeLine l w).modLink l g, some r⟩) :
    request s l w form (.args a) serve = (s.modLink l g).replied l w r := by
  rw [request_exact s l w form serve a _ r h hf hr hs h.1.2.2 fun _ => rfl, takeLine_modLink s l w g hg, State.replied]

/-! ## FETCH -/

theorem execFetch_args (s : State) (l : LinkId) (n : Option Nat) (h : Ready s l) (hn : optNumberOk n = true) :
    execFetch l (.args n) s =
      .next ((s.modLink l fun k => { k with queue := (s.link l).queue.drop (fetchCount n), lost := 0 }).replied l .fetch
        ⟨.ok, [.num ((s.link l).queue.take (fetchCount n)).length, .num ((s.link l).queue.drop (fetchCount n)).length,
            .num (s.link l).lost],
          (s.link l).queue.take (fetchCount n)⟩) := by
  refine congrArg Host.Outcome.next (request_modLink s l .fetch optNumberOk (serveFetch l) n _ _ ⟨h, rfl⟩ hn nofun (fun _ => rfl) ?_)
  simp only [serveFetch, takeLine_link_queue, takeLine_link_lost]

/-- Settles O49: what a FETCH takes is the queue cut at the clamped count. -/
theorem fetchTakesTheOldest : Obligations.FetchTakesTheOldest := by
  unfold Obligations.FetchTakesTheOldest
  intro s l n h hn
  refine ⟨fetchCount n, ?_, ?_, execFetch_args s l n h hn⟩
  · rintro rfl
    rfl
  · rintro x rfl
    rfl

/-! ## ATTENTION -/

theorem execAttention_known (s : State) (l : LinkId) (on : Bool) (h : Ready s l) :
    execAttention l (.args (.known on)) s =
      .next ((s.modLink l fun k => { k with attention := on }).replied l .attention (.ok [])) :=
  congrArg Host.Outcome.next
    (request_modLink s l .attention (fun _ => true) (serveAttention l) _ _ _ ⟨h, rfl⟩ rfl nofun (fun _ => rfl) rfl)

theorem execAttention_unknown (s : State) (l : LinkId) (h : Ready s l) :
    execAttention l (.args .unknown) s = .next (s.replied l .attention (.refuse .range)) :=
  congrArg Host.Outcome.next
    (request_replied s l .attention (fun _ => true) (serveAttention l) _ _ ⟨h, rfl⟩ rfl nofun rfl)

theorem attentionLine_iff (s : State) (l : LinkId) :
    s.attentionLine l = true ↔ (s.link l).queue ≠ [] ∧ (s.link l).attention = true := by
  simp [State.attentionLine, and_comm]

theorem enqueue_of_room (k : Link) (m : Notice) (h : k.queue.length < 16) :
    k.enqueue m = { k with queue := k.queue ++ [m] } := if_pos h

theorem enqueue_of_full (k : Link) (m : Notice) (h : 16 ≤ k.queue.length) :
    k.enqueue m = { k with lost := min 255 (k.lost + 1) } := if_neg (Nat.not_lt_of_le h)

theorem notify_link (s : State) (l : LinkId) (b : NoticeBody) (f : Option (List Nat)) :
    (s.notify l b f).link l = (s.link l).enqueue ⟨b, s.seconds, f⟩ := by cases l <;> rfl

/-- Settles O50: the line is a function of the queue and the enable, and a dropped notice writes neither. -/
theorem attentionFollowsQueueAndEnable : Obligations.AttentionFollowsQueueAndEnable := by
  unfold Obligations.AttentionFollowsQueueAndEnable
  intro s l
  refine ⟨fun h => ⟨fun on => execAttention_known s l on h, execAttention_unknown s l h⟩, attentionLine_iff s l,
    fun m b f => ⟨fun hroom => ?_, fun hfull => ?_⟩⟩
  · rw [notify_link, enqueue_of_room _ _ hroom]
    exact ⟨rfl, rfl⟩
  · rw [State.attentionLine, notify_link, enqueue_of_full _ _ hfull]
    exact ⟨rfl, rfl, rfl⟩

end Sys2Proof.Machine
end

section
/-! PROOFS. STATUS (R178): its block only reads, and the taking of its line writes none of the fields it tells. -/

namespace Sys2Proof.Machine

theorem yesNo_isSome {α : Type} (o : Option α) [Decidable (o = none)] :
    yesNo o.isSome = .word (if o = none then "NO" else "YES") := by
  cases o <;> simp [yesNo]

@[simp] theorem takeLine_link_badLines (s : State) (l : LinkId) (w : ReqWord) :
    ((s.takeLine l w).link l).badLines = (s.link l).badLines := by cases l <;> rfl

/-- STATUS needs no permission (R178). -/
theorem mayAsk_status (s : State) (l : LinkId) : s.mayAsk l .status = true := rfl

/-- The taking of a line leaves the tables, and its link's count of bad lines, as STATUS tells them. -/
theorem serveStatus_takeLine (s : State) (l : LinkId) (w : ReqWord) :
    serveStatus l (s.takeLine l w) () = ⟨s.takeLine l w, (serveStatus l s ()).reply⟩ := by
  simp only [serveStatus, okWith, takeLine_link_badLines]
  rfl

theorem serveStatus_reply (s : State) (l : LinkId) :
    (serveStatus l s ()).reply =
      some (.ok [.word s.mode.word, .word (if s.storeBusy = none then "NO" else "YES"), .num s.book.length,
        .num s.benches.entries.length, .word (LoopState.word (s.stop .f).loop), .word (LoopState.word (s.stop .t).loop),
        yesNo (s.hold .f), yesNo (s.hold .t), .num (s.link l).badLines, .num (s.millis / 1000)]) := by
  rw [← yesNo_isSome]
  rfl

/-- Settles O19: no permission, mode or busy store stands in the way of STATUS, and its block only reads. -/
theorem statusTellsTheUnit : Obligations.StatusTellsTheUnit := by
  unfold Obligations.StatusTellsTheUnit
  intro s l h
  have hserve := serveStatus_takeLine s l .status
  rw [serveStatus_reply] at hserve
  exact congrArg Host.Outcome.next
    (request_replied s l .status (fun _ => true) (serveStatus l) () _ ⟨h, mayAsk_status s l⟩ rfl nofun hserve)

end Sys2Proof.Machine
end

section
/-! PROOFS. What every step keeps (R40, R77, R97, R164): the relation Within, what an operation inside an event leaves alone and the
bounds it keeps, with one lemma for each operation the events are made of. -/

namespace Sys2Proof.Machine

/-! ## Segments, links and the book under a write -/

/-- At most one carriage stands in the layers of a segment (R77). -/
def Segment.OneHolder (g : Segment) : Prop := ∀ n m, g.holds n = true → g.holds m = true → n = m

theorem holds_iff (g : Segment) (n : CarriageName) :
    g.holds n = true ↔ g.running.map (·.1) = some n ∨ g.standing = some n := by
  simp [Segment.holds]

theorem namesOther_false_iff (g : Segment) (n : CarriageName) :
    g.namesOther n = false ↔ ∀ m, g.holds m = true → m = n := by
  have hsplit : g.namesOther n = false ↔
      (∀ m, g.running.map (·.1) = some m → m = n) ∧ ∀ m, g.standing = some m → m = n := by
    rw [Segment.namesOther, Bool.or_eq_false_iff]
    refine and_congr ?_ ?_
    · cases g.running <;> simp
    · cases g.standing <;> simp
  simp only [hsplit, holds_iff, or_imp, forall_and]

theorem oneHolder_of_only (g : Segment) (n : CarriageName) (h : ∀ m, g.holds m = true → m = n) : g.OneHolder :=
  fun a b ha hb => (h a ha).trans (h b hb).symm

theorem oneHolder_of_same_layers {g v : Segment} (hr : v.running = g.running) (hs : v.standing = g.standing) (h : g.OneHolder) :
    v.OneHolder := by
  intro n m hn hm
  simp only [holds_iff, hr, hs] at hn hm
  exact h n m ((holds_iff g n).mpr hn) ((holds_iff g m).mpr hm)

theorem oneHolder_blank : Segment.blank.OneHolder := fun n _ hn => by simp [Segment.holds, Segment.blank] at hn

theorem holds_of_clearOf (g : Segment) (n m : CarriageName) (h : (g.clearOf n).holds m = true) : g.holds m = true := by
  rw [holds_iff] at h ⊢
  simp only [Segment.clearOf] at h
  refine h.imp (fun h => ?_) fun h => ?_
  · split at h
    · exact nomatch h
    · exact h
  · split at h
    · exact nomatch h
    · exact h

theorem clearOf_not_holds (g : Segment) (n : CarriageName) : (g.clearOf n).holds n = false := by
  rw [← Bool.not_eq_true, holds_iff]
  simp only [Segment.clearOf]
  rintro (h | h) <;> split at h <;> simp_all

theorem oneHolder_clearOf (g : Segment) (n : CarriageName) (h : g.OneHolder) : (g.clearOf n).OneHolder :=
  fun a b ha hb => h a b (holds_of_clearOf g n a ha) (holds_of_clearOf g n b hb)

namespace State

theorem seg_setSeg (s : State) (c d : Corridor) (k j : Nat) (v : Segment) :
    (s.setSeg c k v).seg d j = if d = c ∧ j = k then v else s.seg d j := by
  simp only [seg, setSeg, Two.get_set]
  by_cases hd : d = c
  · subst hd
    simp only [if_true, Table.get?_put, true_and]
    split <;> rfl
  · simp [hd]

theorem seg_modSeg (s : State) (c d : Corridor) (k j : Nat) (g : Segment → Segment) :
    (s.modSeg c k g).seg d j = if d = c ∧ j = k then g (s.seg c k) else s.seg d j := seg_setSeg ..

theorem seg_of_segments {s t : State} (h : t.segments = s.segments) (c : Corridor) (k : Nat) : t.seg c k = s.seg c k := by
  simp only [seg, h]

/-- Every segment record of a corridor rewritten by one function that leaves a blank record blank. -/
theorem seg_mapSegs (s : State) (c d : Corridor) (k : Nat) (g : Segment → Segment) (hg : g Segment.blank = Segment.blank) :
    ({ s with segments := s.segments.set c ((s.segments.get c).mapValues fun _ v => g v) } : State).seg d k =
      if d = c then g (s.seg d k) else s.seg d k := by
  simp only [seg, Two.get_set]
  by_cases hd : d = c
  · subst hd
    simp only [if_true, Table.get?_mapValues]
    cases (s.segments.get d).get? k with
    | none => exact hg.symm
    | some v => rfl
  · simp [hd]

theorem link_modLink (s : State) (l m : LinkId) (g : Link → Link) :
    (s.modLink l g).link m = if m = l then g (s.link m) else s.link m := by
  simp only [link, modLink, Three.get_set]
  split
  · rename_i h; rw [h]
  · rfl

theorem car_setCar (s : State) (n m : CarriageName) (v : Carriage) : (s.setCar n v).car m = if m = n then v else s.car m := by
  simp only [car, setCar, Six.get_set]

end State

theorem oneCarriage_iff (s : State) :
    OneCarriage s ↔ (∀ c, (s.segments.get c).wf = true) ∧ ∀ c k, (s.seg c k).OneHolder :=
  ⟨fun h => ⟨fun c => (h c).1, fun c => (h c).2⟩, fun h c => ⟨h.1 c, h.2 c⟩⟩

theorem oneCarriage_setSeg (s : State) (c : Corridor) (k : Nat) (v : Segment) (hv : v.OneHolder) (h : OneCarriage s) :
    OneCarriage (s.setSeg c k v) := by
  rw [oneCarriage_iff] at h ⊢
  obtain ⟨hwf, hone⟩ := h
  constructor
  · intro d
    simp only [State.setSeg, Two.get_set]
    split
    · rename_i hd; subst hd; exact Table.wf_put _ _ _ (hwf d)
    · exact hwf d
  · intro d j
    rw [State.seg_setSeg]
    split
    · exact hv
    · exact hone d j

theorem oneCarriage_mapSegs (s : State) (c : Corridor) (g : Segment → Segment) (hg : g Segment.blank = Segment.blank)
    (hone : ∀ v : Segment, v.OneHolder → (g v).OneHolder) (h : OneCarriage s) :
    OneCarriage { s with segments := s.segments.set c ((s.segments.get c).mapValues fun _ v => g v) } := by
  rw [oneCarriage_iff] at h ⊢
  obtain ⟨hwf, hold⟩ := h
  constructor
  · intro d
    simp only [Two.get_set]
    split
    · rename_i hd; subst hd; rw [Table.wf_mapValues]; exact hwf d
    · exact hwf d
  · intro d j
    rw [State.seg_mapSegs s c d j g hg]
    split
    · exact hone _ (hold d j)
    · exact hold d j

/-- What the bounds of the book read of an order (R40, R41). -/
def Order.key (o : Order) : Nat × LinkId := (o.id, o.link)

theorem share_eq_keys (s : State) (l : LinkId) : s.share l = ((s.book.map Order.key).filter fun k => decide (k.2 = l)).length := by
  rw [List.filter_map, List.length_map]
  rfl

/-- A book whose orders are some of those of a bounded book stays bounded. -/
theorem bookBounded_of_sublist {s t : State} (hkeys : (t.book.map Order.key).Sublist (s.book.map Order.key))
    (hnext : t.nextId = s.nextId) (h : BookBounded s) : BookBounded t := by
  obtain ⟨hlen, hshare, hids, hlow, hhigh⟩ := h
  have hid : ∀ u : State, u.book.map (·.id) = (u.book.map Order.key).map Prod.fst := fun u => by rw [List.map_map]; rfl
  refine ⟨?_, fun l => ?_, ?_, hnext ▸ hlow, hnext ▸ hhigh⟩
  · have := hkeys.length_le
    simp only [List.length_map] at this
    exact Nat.le_trans this hlen
  · have := (hkeys.filter fun k => decide (k.2 = l)).length_le
    rw [← share_eq_keys, ← share_eq_keys] at this
    exact Nat.le_trans this (hshare l)
  · rw [hid] at hids ⊢
    exact (hkeys.map Prod.fst).nodup hids

/-! ## The relation -/

/-- The bounds of the invariants carry over from one state to the next. -/
structure Keeps (s t : State) : Prop where
  links : LinksBounded s → LinksBounded t
  uncertainty : UncertaintyBounded s → UncertaintyBounded t
  layers : OneCarriage s → OneCarriage t
  book : BookBounded s → BookBounded t

namespace Keeps

theorem refl (s : State) : Keeps s s := ⟨id, id, id, id⟩

theorem trans {s t u : State} (h : Keeps s t) (k : Keeps t u) : Keeps s u :=
  ⟨k.links ∘ h.links, k.uncertainty ∘ h.uncertainty, k.layers ∘ h.layers, k.book ∘ h.book⟩

theorem of_same {s t : State} (hl : t.links = s.links) (hc : t.carriages = s.carriages) (hs : t.segments = s.segments)
    (hb : t.book = s.book) (hn : t.nextId = s.nextId) : Keeps s t where
  links h l := by simpa only [State.link, hl] using h l
  uncertainty h n := by simpa only [State.car, hc] using h n
  layers h c := by simpa only [State.seg, hs] using h c
  book := bookBounded_of_sublist (hb ▸ List.Sublist.refl _) hn

theorem foldl {α : Type} (f : State → α → State) (hf : ∀ t a, Keeps t (f t a)) (l : List α) (s : State) : Keeps s (l.foldl f s) := by
  induction l generalizing s with
  | nil => exact refl s
  | cons a rest ih => exact (hf s a).trans (ih (f s a))

theorem setCar (s : State) (n : CarriageName) (v : Carriage) (hv : UncertaintyBounded s → v.u ≤ 1500) : Keeps s (s.setCar n v) where
  links h := h
  uncertainty h m := by
    rw [State.car_setCar]
    split
    · exact hv h
    · exact h m
  layers h := h
  book h := h

theorem modCar (s : State) (n : CarriageName) (g : Carriage → Carriage) (hg : (s.car n).u ≤ 1500 → (g (s.car n)).u ≤ 1500) :
    Keeps s (s.modCar n g) := setCar s n _ fun h => hg (h n)

theorem modLink (s : State) (l : LinkId) (g : Link → Link) (hg : LinkBounded (s.link l) → LinkBounded (g (s.link l))) :
    Keeps s (s.modLink l g) where
  links h m := by
    rw [State.link_modLink]
    split
    · rename_i e; subst e; exact hg (h m)
    · exact h m
  uncertainty h := h
  layers h := h
  book h := h

theorem setSeg (s : State) (c : Corridor) (k : Nat) (v : Segment) (hv : (s.seg c k).OneHolder → v.OneHolder) :
    Keeps s (s.setSeg c k v) where
  links h := h
  uncertainty h := h
  layers h := oneCarriage_setSeg s c k v (hv ((oneCarriage_iff s).mp h |>.2 c k)) h
  book h := h

theorem mapSegs (s : State) (c : Corridor) (g : Segment → Segment) (hg : g Segment.blank = Segment.blank)
    (hone : ∀ v : Segment, v.OneHolder → (g v).OneHolder) :
    Keeps s { s with segments := s.segments.set c ((s.segments.get c).mapValues fun _ v => g v) } where
  links h := h
  uncertainty h := h
  layers h := oneCarriage_mapSegs s c g hg hone h
  book h := h

theorem books (s : State) (l : List Order) (h : (l.map Order.key).Sublist (s.book.map Order.key)) : Keeps s { s with book := l } where
  links h := h
  uncertainty h := h
  layers h := h
  book := bookBounded_of_sublist h rfl

end Keeps

/-- What no operation inside an event touches: power, mode, layout, store, clock, inputs, stop records. -/
def State.fixed (s : State) : Still :=
  { s.still with benches := Table.empty, gates := ⟨Table.empty, Table.empty⟩, lines := ⟨Line.blank, Line.blank⟩ }

theorem fixed_of_still {s t : State} (h : t.still = s.still) : t.fixed = s.fixed := by simp only [State.fixed, h]

/-- The second state is reached from the first by operations inside one event: they touch no port but its notice queue, nothing of
`State.fixed`, and they keep the bounds of the invariants. -/
structure Within (s t : State) : Prop where
  fixed : t.fixed = s.fixed
  ports : ∀ l, t.portStand l = s.portStand l
  keeps : Keeps s t

namespace Within

theorem refl (s : State) : Within s s := ⟨rfl, fun _ => rfl, Keeps.refl s⟩

theorem trans {s t u : State} (h : Within s t) (k : Within t u) : Within s u :=
  ⟨k.fixed.trans h.fixed, fun l => (k.ports l).trans (h.ports l), h.keeps.trans k.keeps⟩

theorem foldl {α : Type} (f : State → α → State) (hf : ∀ t a, Within t (f t a)) (l : List α) (s : State) : Within s (l.foldl f s) := by
  induction l generalizing s with
  | nil => exact refl s
  | cons a rest ih => exact (hf s a).trans (ih (f s a))

/-- A write of lanes, benches, gates, lines, owed runs or the free value. -/
theorem tables {s t : State}
    (h : t = { s with lanes := t.lanes, benches := t.benches, gates := t.gates, lines := t.lines, owed := t.owed, free := t.free }) :
    Within s t := by
  rw [h]
  exact ⟨rfl, fun _ => rfl, Keeps.of_same rfl rfl rfl rfl rfl⟩

theorem ite {s t u : State} {p : Prop} [Decidable p] (ht : Within s t) (hu : Within s u) : Within s (if p then t else u) := by
  split
  · exact ht
  · exact hu

theorem modCar (s : State) (n : CarriageName) (g : Carriage → Carriage) (hg : (s.car n).u ≤ 1500 → (g (s.car n)).u ≤ 1500) :
    Within s (s.modCar n g) := ⟨rfl, fun _ => rfl, Keeps.modCar s n g hg⟩

theorem modSeg (s : State) (c : Corridor) (k : Nat) (g : Segment → Segment)
    (hg : (s.seg c k).OneHolder → (g (s.seg c k)).OneHolder) : Within s (s.modSeg c k g) :=
  ⟨rfl, fun _ => rfl, Keeps.setSeg s c k _ hg⟩

theorem modOrder (s : State) (id : Nat) (g : Order → Order) (hg : ∀ o, (g o).key = o.key) : Within s (s.modOrder id g) := by
  have hkeys : (s.modOrder id g).book.map Order.key = s.book.map Order.key := by
    rw [State.modOrder_book, List.map_map]
    refine List.map_congr_left fun o _ => ?_
    simp only [Function.comp]
    split
    · exact hg o
    · rfl
  exact ⟨rfl, fun _ => rfl, Keeps.books s _ (hkeys ▸ List.Sublist.refl _)⟩

theorem owe (s : State) (c : Corridor) : Within s (s.owe c) := tables rfl

theorem oweAt (s : State) (c : Corridor) (l : Nat) : Within s (s.oweAt c l) := by
  unfold State.oweAt
  exact ite ((owe s c).trans (owe _ _)) (owe s c)

theorem oweMouths (s : State) (l : Nat) : Within s (s.oweMouths l) := by
  simp only [State.oweMouths]
  exact (ite (owe s .f) (refl s)).trans (ite (owe _ .t) (refl _))

theorem modLane (s : State) (k : Nat) (g : Lane → Lane) : Within s (s.modLane k g) := tables rfl

theorem modBench (s : State) (b : Nat) (g : Bench → Bench) : Within s (s.modBench b g) := by
  unfold State.modBench
  split
  · exact tables rfl
  · exact refl s

theorem moveBench (s : State) (b : Nat) (pl : Place) : Within s (s.moveBench b pl) := modBench ..

theorem modGate (s : State) (c : Corridor) (k : Nat) (g : Gate → Gate) : Within s (s.modGate c k g) := tables rfl

theorem modLine (s : State) (c : Corridor) (g : Line → Line) : Within s (s.modLine c g) := tables rfl

/-! ## Notices and fences -/

theorem linkBounded_enqueue (k : Link) (m : Notice) (h : LinkBounded k) : LinkBounded (k.enqueue m) := by
  obtain ⟨hqueue, hlost, hbad, hslots⟩ := h
  rcases Nat.lt_or_ge k.queue.length 16 with hroom | hfull
  · rw [enqueue_of_room k m hroom]
    exact ⟨by rw [List.length_append]; exact hroom, hlost, hbad, hslots⟩
  · rw [enqueue_of_full k m hfull]
    exact ⟨hqueue, Nat.min_le_left .., hbad, hslots⟩

theorem notify (s : State) (l : LinkId) (b : NoticeBody) (f : Option (List Nat)) : Within s (s.notify l b f) :=
  ⟨rfl, (Calm.notify s l b f).ports, Keeps.modLink s l _ (linkBounded_enqueue _ _)⟩

theorem notifyAll (s : State) (b : NoticeBody) : Within s (s.notifyAll b) :=
  ((notify s .l1 b none).trans (notify _ .l2 b none)).trans (notify _ .l3 b none)

theorem offerOn (s : State) (o : Offer) (l : LinkId) : Within s (s.offerOn o l) := by
  simp only [State.offerOn]
  exact ite (notify ..) (ite (refl s) (notify ..))

theorem offer (s : State) (o : Offer) : Within s (s.offer o) :=
  ((offerOn s o .l1).trans (offerOn _ o .l2)).trans (offerOn _ o .l3)

theorem fence (s : State) (c : Corridor) (k : Nat) (f : Option Fence) : Within s (s.modSeg c k fun g => { g with fence := f }) :=
  modSeg s c k _ (oneHolder_of_same_layers rfl rfl)

theorem setFence (s : State) (c : Corridor) (k : Nat) (f : Fence) : Within s (s.setFence c k f) := by
  unfold State.setFence
  exact ite ((fence s c k _).trans (offer ..)) (refl s)

theorem liftFence (s : State) (c : Corridor) (k : Nat) : Within s (s.liftFence c k) := by
  unfold State.liftFence
  split
  · exact (fence s c k _).trans (offer ..)
  · exact refl s

/-! ## Shifts and waiting sets -/

theorem beginLeg (s : State) (n : CarriageName) (t : Int) : Within s (s.beginLeg n t) := modCar _ _ _ id

theorem giveShift (w : Option Work) (s : State) (h : Shift) : Within s (giveShift w s h) := (modCar s _ _ id).trans (beginLeg ..)

theorem giveShifts (w : Option Work) (l : List Shift) (s : State) : Within s (giveShifts w l s) := foldl _ (giveShift w) l s

theorem waiting (s : State) (c : Corridor) (g : Segment → List CarriageName) (hg : g Segment.blank = []) :
    Within s { s with segments := s.segments.set c ((s.segments.get c).mapValues fun _ v => { v with waiting := g v }) } :=
  ⟨rfl, fun _ => rfl, Keeps.mapSegs s c (fun v => { v with waiting := g v }) (by rw [hg]; rfl)
    fun _ => oneHolder_of_same_layers rfl rfl⟩

theorem unwait (s : State) (n : CarriageName) : Within s (s.unwait n) := waiting s n.corridor _ rfl

theorem unwaitAll (s : State) (c : Corridor) : Within s (s.unwaitAll c) := waiting s c _ rfl

theorem waitAt (s : State) (n : CarriageName) (k : Nat) : Within s (s.waitAt n k) :=
  (unwait ..).trans (modSeg _ _ _ _ (oneHolder_of_same_layers rfl rfl))

/-! ## Grants -/

theorem openTo_only (s : State) (n : CarriageName) (k : Nat) (h : s.openTo n k = true) (m : CarriageName)
    (hm : (s.seg n.corridor k).holds m = true) : m = n := by
  simp only [State.openTo, Bool.and_eq_true, Option.isNone_iff_eq_none] at h
  obtain ⟨⟨⟨-, -⟩, hrunning⟩, hstanding⟩ := h
  rw [holds_iff, hrunning] at hm
  rcases hm with hm | hm
  · exact nomatch hm
  · rw [hm] at hstanding
    exact of_decide_eq_true hstanding

theorem grant (s : State) (n : CarriageName) (dir : Dir) (k : Nat) : Within s (s.grant n dir k) :=
  modSeg s _ _ _ fun _ => oneHolder_of_only _ n fun m hm => by simpa [Segment.holds, eq_comm] using hm

theorem judge (n : CarriageName) (dir : Dir) (l : List Nat) (s : State) : Within s (State.judge n dir l s).1 := by
  induction l generalizing s with
  | nil => exact refl s
  | cons k rest ih =>
    unfold State.judge
    split
    · exact (grant ..).trans (ih _)
    · split
      · split
        · exact (grant ..).trans (ih _)
        · split
          · exact (setFence ..).trans (ih _)
          · exact ih _
      · exact refl s

theorem askShift (s : State) (n : CarriageName) (k : Nat) : Within s (s.askShift n k) := by
  simp only [State.askShift]
  split
  · split
    · split
      · exact giveShifts ..
      · exact refl s
    · exact refl s
  · exact refl s

theorem grantRequest (s : State) (n : CarriageName) : Within s (s.grantRequest n) := by
  simp only [State.grantRequest]
  split
  · split
    · exact unwait ..
    · split
      · rename_i it p leg _ _ _
        have hfigures : Within s (s.modCar n fun w =>
            { w with
              horizon := some (s.requestStretch n leg p it).1
              requestList := s.requestList n leg.dir (s.requestStretch n leg p it).2 }) := modCar _ _ _ id
        have hjudge := hfigures.trans (judge n leg.dir (s.requestList n leg.dir (s.requestStretch n leg p it).2) _)
        split
        · rename_i s2 heq
          rw [heq] at hjudge
          exact hjudge.trans (unwait ..)
        · rename_i s2 k heq
          rw [heq] at hjudge
          exact (hjudge.trans (waitAt ..)).trans (askShift ..)
      · exact unwait ..
  · exact refl s

theorem retry (s : State) (c : Corridor) (k : Nat) : Within s (s.retry c k) := by
  simp only [State.retry]
  split
  · exact refl s
  · exact grantRequest ..
  · have hfree : Within s { s with free := s.free + 1 } := tables rfl
    exact ite ((hfree.trans (grantRequest ..)).trans (grantRequest ..)) ((hfree.trans (grantRequest ..)).trans (grantRequest ..))

theorem retryAll (c : Corridor) (l : List Nat) (s : State) : Within s (State.retryAll c l s) := foldl _ (fun t k => retry t c k) l s

/-! ## Releases, conversions, seating -/

theorem clearOf (s : State) (c : Corridor) (n : CarriageName) (k : Nat) : Within s (s.modSeg c k fun g => g.clearOf n) :=
  modSeg s _ _ _ (oneHolder_clearOf _ n)

theorem clearLayers (s : State) (n : CarriageName) (l : List Nat) : Within s (s.clearLayers n l) :=
  foldl _ (fun t k => clearOf t n.corridor n k) l s

theorem releaseBehind (s : State) (n : CarriageName) : Within s (s.releaseBehind n) := by
  simp only [State.releaseBehind]
  split
  · exact (clearLayers ..).trans (retryAll ..)
  · exact refl s

theorem seatOne (n : CarriageName) (s : State) (k : Nat) : Within s (State.seatOne n s k) := by
  unfold State.seatOne
  split
  · exact setFence ..
  · rename_i h
    rw [Bool.not_eq_true, namesOther_false_iff] at h
    refine modSeg s _ _ _ fun _ => oneHolder_of_only _ n fun m hm => ?_
    rw [holds_iff] at hm
    rcases hm with hm | hm
    · exact h m ((holds_iff _ m).mpr (.inl hm))
    · exact (Option.some.inj hm).symm

end Within

/-- No carriage but one holds any of the listed segments of its corridor. -/
def HeldByOnly (s : State) (n : CarriageName) (l : List Nat) : Prop :=
  ∀ k ∈ l, ∀ m, (s.seg n.corridor k).holds m = true → m = n

theorem toStanding_only (s : State) (n : CarriageName) (k j : Nat) (m : CarriageName)
    (hold : ∀ m, (s.seg n.corridor j).holds m = true → m = n)
    (hm : ((State.toStanding n s k).seg n.corridor j).holds m = true) : m = n := by
  simp only [State.toStanding, State.seg_modSeg, true_and] at hm
  split at hm
  · rename_i e
    subst e
    rw [holds_iff] at hm
    rcases hm with hm | hm
    · simp only at hm
      split at hm
      · exact nomatch hm
      · exact hold m ((holds_iff _ m).mpr (.inl hm))
    · exact (Option.some.inj hm).symm
  · exact hold m hm

theorem heldByOnly_toStanding (s : State) (n : CarriageName) (k : Nat) (l : List Nat) (h : HeldByOnly s n l) :
    HeldByOnly (State.toStanding n s k) n l := fun j hj m hm => toStanding_only s n k j m (h j hj) hm

theorem seg_clearLayers (s : State) (n : CarriageName) (l : List Nat) (c : Corridor) (k : Nat) :
    (s.clearLayers n l).seg c k = if c = n.corridor ∧ k ∈ l then (s.seg c k).clearOf n else s.seg c k := by
  have hidem : ∀ g : Segment, (g.clearOf n).clearOf n = g.clearOf n := fun g => by
    rcases g with ⟨f, r, d, w⟩
    simp only [Segment.clearOf, Segment.mk.injEq, true_and, and_true]
    constructor <;> split <;> simp_all
  induction l generalizing s with
  | nil => simp [State.clearLayers]
  | cons j rest ih =>
    have hstep : s.clearLayers n (j :: rest) = (s.modSeg n.corridor j fun g => g.clearOf n).clearLayers n rest := rfl
    rw [hstep, ih, State.seg_modSeg]
    by_cases hc : c = n.corridor
    · subst hc
      by_cases hk : k = j
      · subst hk
        by_cases hr : k ∈ rest <;> simp [hr, hidem]
      · simp [hk]
    · simp [hc]

theorem holds_of_clearLayers (s : State) (n : CarriageName) (l : List Nat) (c : Corridor) (k : Nat) (m : CarriageName)
    (h : ((s.clearLayers n l).seg c k).holds m = true) : (s.seg c k).holds m = true := by
  rw [seg_clearLayers] at h
  split at h
  · exact holds_of_clearOf _ n m h
  · exact h

theorem heldByOnly_clearLayers (s : State) (n : CarriageName) (gone l : List Nat) (h : HeldByOnly s n l) :
    HeldByOnly (s.clearLayers n gone) n l := fun k hk m hm => h k hk m (holds_of_clearLayers s n gone _ k m hm)

theorem get?_of_mem_entries {α : Type} (t : Table α) (hwf : t.wf = true) (k : Nat) (v : α) (h : (k, v) ∈ t.entries) :
    t.get? k = some v := by
  obtain ⟨l⟩ := t
  simp only [Table.wf, Table.get?] at *
  generalize 0 = b at hwf
  induction l generalizing b with
  | nil => exact nomatch h
  | cons e rest ih =>
    obtain ⟨j, w⟩ := e
    simp only [Table.risingFrom, Bool.and_eq_true, decide_eq_true_eq] at hwf
    rw [Table.getL]
    rcases List.mem_cons.mp h with he | he
    · obtain ⟨rfl, rfl⟩ := Prod.mk.inj he
      exact if_pos rfl
    · have hbeyond : ∀ (l : List (Nat × α)) (b : Nat), Table.risingFrom b l = true → (k, v) ∈ l → b ≤ k := by
        intro l
        induction l with
        | nil => exact fun _ _ h => nomatch h
        | cons e rest ih =>
          intro b hr hm
          obtain ⟨i, x⟩ := e
          simp only [Table.risingFrom, Bool.and_eq_true, decide_eq_true_eq] at hr
          rcases List.mem_cons.mp hm with hm | hm
          · obtain ⟨rfl, rfl⟩ := Prod.mk.inj hm
            exact hr.1
          · exact Nat.le_trans (Nat.le_trans hr.1 (Nat.le_succ i)) (ih _ hr.2 hm)
      have := hbeyond rest (j + 1) hwf.2 he
      rw [if_neg (by omega)]
      exact ih he _ hwf.2

theorem mem_entries_of_get? {α : Type} (t : Table α) (k : Nat) (v : α) (h : t.get? k = some v) : (k, v) ∈ t.entries := by
  obtain ⟨l⟩ := t
  simp only [Table.get?] at *
  induction l with
  | nil => exact nomatch h
  | cons e rest ih =>
    obtain ⟨j, w⟩ := e
    rw [Table.getL] at h
    split at h
    · rename_i hj; subst hj; rw [Option.some.inj h]; exact List.mem_cons_self
    · exact List.mem_cons_of_mem _ (ih h)

/-- Of a canonical segment table the held run lists the segments whose layers name the carriage (R79). -/
theorem mem_heldRun (s : State) (n : CarriageName) (hwf : (s.segments.get n.corridor).wf = true) (k : Nat) :
    k ∈ s.heldRun n ↔ (s.seg n.corridor k).holds n = true := by
  simp only [State.heldRun, List.mem_map, List.mem_filter]
  constructor
  · rintro ⟨⟨j, v⟩, ⟨hmem, hholds⟩, rfl⟩
    simp only [State.seg, get?_of_mem_entries _ hwf j v hmem, Option.getD_some]
    exact hholds
  · intro h
    simp only [State.seg] at h
    cases hk : (s.segments.get n.corridor).get? k with
    | none => rw [hk] at h; exact absurd h (by simp [Segment.holds, Segment.blank])
    | some v => rw [hk] at h; exact ⟨(k, v), ⟨mem_entries_of_get? _ k v hk, h⟩, rfl⟩

theorem heldByOnly_heldRun (s : State) (n : CarriageName) (h : OneCarriage s) : HeldByOnly s n (s.heldRun n) := by
  obtain ⟨hwf, hone⟩ := (oneCarriage_iff s).mp h
  exact fun k hk m hm => hone n.corridor k m n hm ((mem_heldRun s n (hwf _) k).mp hk)

/-- Segments that only one carriage holds pass to its standing layer (R84). -/
theorem oneCarriage_foldl_toStanding (n : CarriageName) (l : List Nat) (s : State) (honly : HeldByOnly s n l) (h : OneCarriage s) :
    OneCarriage (l.foldl (State.toStanding n) s) := by
  induction l generalizing s with
  | nil => exact h
  | cons k rest ih =>
    have hk : OneCarriage (State.toStanding n s k) := by
      refine oneCarriage_setSeg s _ _ _ (oneHolder_of_only _ n fun m hm => ?_) h
      have := toStanding_only s n k k m (honly k List.mem_cons_self)
      simp only [State.toStanding, State.seg_modSeg, true_and, if_true] at this
      exact this hm
    exact ih _ (heldByOnly_toStanding s n k rest fun j hj => honly j (List.mem_cons_of_mem _ hj)) hk

namespace Within

/-- The segments of a carriage's held run that stay pass to its standing layer, the others are cleared of it (R84). -/
theorem standings (s : State) (n : CarriageName) (gone kept : List Nat) (hkept : kept ⊆ s.heldRun n) :
    Within s (kept.foldl (State.toStanding n) (s.clearLayers n gone)) := by
  have hcalm := Calm.foldl _ (Calm.toStanding n) kept (s.clearLayers n gone)
  have hfold : ∀ (l : List Nat) (t : State), t.links = (l.foldl (State.toStanding n) t).links ∧
      t.carriages = (l.foldl (State.toStanding n) t).carriages ∧ t.book = (l.foldl (State.toStanding n) t).book := by
    intro l
    induction l with
    | nil => exact fun _ => ⟨rfl, rfl, rfl⟩
    | cons k rest ih => exact fun t => ih (State.toStanding n t k)
  obtain ⟨hlinks, hcars, hbook⟩ := hfold kept (s.clearLayers n gone)
  have hclear := clearLayers s n gone
  refine ⟨(fixed_of_still hcalm.still).trans hclear.fixed, fun l => (hcalm.ports l).trans (hclear.ports l),
    fun h => ?_, fun h => ?_, fun h => ?_, fun h => ?_⟩
  · intro l; simpa only [State.link, ← hlinks] using hclear.keeps.links h l
  · intro m; simpa only [State.car, ← hcars] using hclear.keeps.uncertainty h m
  · exact oneCarriage_foldl_toStanding n kept _
      (heldByOnly_clearLayers s n gone kept fun k hk => heldByOnly_heldRun s n h k (hkept hk)) (hclear.keeps.layers h)
  · exact bookBounded_of_sublist (hbook ▸ List.Sublist.refl _) hcalm.nextId (hclear.keeps.book h)

theorem convert (s : State) (n : CarriageName) : Within s (s.convert n) := by
  simp only [State.convert]
  split
  · exact ((standings s n [] _ (List.Subset.refl _)).trans (unwait ..)).trans (retryAll ..)
  · exact (((standings s n _ _ List.filter_sublist.subset).trans (unwait ..)).trans (retryAll ..)).trans (foldl _ (seatOne n) _ _)

theorem seat (s : State) (n : CarriageName) : Within s (s.seat n) := by
  simp only [State.seat]
  have hleft : Within s ((s.clearLayers n (s.heldRun n)).unwait n) := (clearLayers ..).trans (unwait ..)
  split
  · exact hleft.trans (retryAll ..)
  · split
    · exact hleft.trans (retryAll ..)
    · exact (hleft.trans (foldl _ (seatOne n) _ _)).trans (retryAll ..)

theorem fenceHeld (s : State) (n : CarriageName) : Within s (s.fenceHeld n) := foldl _ (fun t k => setFence t n.corridor k _) _ s

theorem dropStaleFences (s : State) (c : Corridor) : Within s (s.dropStaleFences c) := by
  unfold State.dropStaleFences
  exact foldl _ (fun t (e : Nat × Segment) => liftFence t c e.1) _ s

/-! ## Orders and carriages -/

theorem joinAt (s : State) (l : Nat) (c : Corridor) (b : Nat) : Within s (s.joinAt l c b) := by
  simp only [State.joinAt]
  exact modLane ..

theorem leaveLane (s : State) (l b : Nat) : Within s (s.leaveLane l b) := modLane ..

theorem giveBack (s : State) (o : Order) (st : EndState) : Within s (s.giveBack o st) := by
  simp only [State.giveBack]
  have hclaim : Within s (match o.bench with | some b => s.unclaim b o.id | none => s) := by
    split
    · exact modBench ..
    · exact refl s
  have hcounts : ∀ t : State, Within t (match o.phase, o.srcLane with
      | .queued, some l | .assigned, some l | .fetching, some l | .pulling, some l => t.decOutgoing l
      | _, _ => t) := by
    intro t
    split
    all_goals first | exact modLane .. | exact refl t
  exact ite (hclaim.trans (hcounts _)) ((hclaim.trans (hcounts _)).trans (modLane ..))

theorem unassign (s : State) (n : CarriageName) (id : Nat) : Within s (s.unassign n id) := by
  unfold State.unassign
  exact ite (modCar _ _ _ (by intro h; exact h)) (refl s)

theorem leaveBook (s : State) (id : Nat) : Within s { s with book := s.book.filter fun q => decide (q.id ≠ id) } :=
  ⟨rfl, fun _ => rfl, Keeps.books s _ (List.filter_sublist.map _)⟩

theorem endOrder (s : State) (id : Nat) (st : EndState) (reason : Option EndReason) : Within s (s.endOrder id st reason) := by
  simp only [State.endOrder]
  split
  · exact refl s
  · rename_i o _
    have hassigned : Within s (match o.carriage with | some n => (s.giveBack o st).unassign n id | none => s.giveBack o st) := by
      split
      · exact (giveBack ..).trans (unassign ..)
      · exact giveBack ..
    have hleft := (hassigned.trans (offer _ ⟨.ended id st reason o.bench, some o.corridor, o.bench.map fun _ => o.dest, o.bench,
      some o.link⟩)).trans (leaveBook _ id)
    exact ite ((hleft.trans (owe ..)).trans (owe ..)) (hleft.trans (owe ..))

theorem shiftFailed (s : State) (n : CarriageName) : Within s (s.shiftFailed n) := by
  simp only [State.shiftFailed]
  split
  · exact owe ..
  · refine Within.trans ?_ ((modCar _ _ _ (by intro h; exact h)).trans (owe ..))
    split
    · exact modOrder _ _ _ (by intro _; rfl)
    · exact refl s

theorem withdrawWait (s : State) (n : CarriageName) : Within s (s.withdrawWait n) := by
  unfold State.withdrawWait
  split
  · exact ite (modLane ..) (refl s)
  · exact refl s

theorem enterFaulted (s : State) (n : CarriageName) (k : FaultKind) (code : Option Nat) : Within s (s.enterFaulted n k code) := by
  simp only [State.enterFaulted]
  have h : Within s (((s.withdrawWait n).unwait n).modCar n fun v =>
    { v with
      state := .faulted, faultKind := some k, faultCode := code, remembered := none, task := none, leg := none
      homing := none, docked := none }) := ((withdrawWait s n).trans (unwait ..)).trans (modCar _ _ _ (by intro h; exact h))
  exact (ite (h.trans (shiftFailed ..)) h).trans (owe ..)

theorem enterHoming (s : State) (n : CarriageName) : Within s (s.enterHoming n) := by
  simp only [State.enterHoming]
  split
  · exact modCar _ _ _ (by intro h; exact h)
  · exact (enterFaulted ..).trans (notifyAll ..)

theorem startOrder (s : State) (n : CarriageName) : Within s (s.startOrder n) := by
  simp only [State.startOrder]
  split
  · exact refl s
  · rename_i id _
    have h : Within s ((s.modOrder id fun o => { o with phase := match o.source with | .aboard _ => .carrying | _ => .fetching }).modCar n
        fun v => { v with state := .running }) :=
      (modOrder s _ _ (by intro _; rfl)).trans (modCar _ _ _ (by intro h; exact h))
    split
    · exact h.trans (beginLeg ..)
    · exact h

theorem startWork (s : State) (n : CarriageName) : Within s (s.startWork n) := by
  unfold State.startWork
  split
  · split
    · exact startOrder ..
    · exact enterHoming ..
    · exact refl s
  · exact refl s

theorem endShift (s : State) (n : CarriageName) : Within s (s.endShift n) := by
  simp only [State.endShift]
  split
  · exact owe ..
  · rename_i w _
    have h : Within s ((s.owe n.corridor).modCar w fun v =>
        { v with task := v.task.map fun k => { k with waitingFor := k.waitingFor.filter fun m => decide (m ≠ n) } }) :=
      (owe s n.corridor).trans (modCar _ _ _ (by intro h; exact h))
    split
    · exact ite (h.trans (startWork ..)) h
    · exact h

theorem becomeIdle (s : State) (n : CarriageName) : Within s (s.becomeIdle n) := by
  simp only [State.becomeIdle]
  have h : Within s (((s.modCar n fun v =>
      { v with state := .idle, remembered := none, task := none, leg := none, docked := none }).convert n).owe n.corridor) :=
    ((modCar _ _ _ (by intro h; exact h)).trans (convert ..)).trans (owe ..)
  exact ite (h.trans (endShift ..)) h

theorem withdraw (s : State) (n : CarriageName) : Within s (s.withdraw n) := by
  unfold State.withdraw
  split
  · exact modCar _ _ _ (by intro h; exact h)
  · exact (withdrawWait ..).trans (becomeIdle ..)
  · exact modCar _ _ _ (by intro h; exact h)
  · exact refl s

theorem cancelClaimant (s : State) (c : Corridor) (b puller : Nat) : Within s (s.cancelClaimant c b puller) := by
  simp only [State.cancelClaimant]
  split
  · split
    · exact refl s
    · split
      · exact ite (endOrder ..) ((endOrder ..).trans (withdraw ..))
      · exact endOrder ..
  · exact refl s

theorem leaveStraddling (s : State) (n : CarriageName) (tr : Transfer) : Within s (s.leaveStraddling n tr) := by
  simp only [State.leaveStraddling]
  refine Within.trans ?_ (((moveBench ..).trans (modCar _ _ _ (by intro h; exact h))).trans (oweAt ..))
  split
  · exact ((cancelClaimant ..).trans (leaveLane ..)).trans (modOrder _ _ _ (by intro _; rfl))
  · exact refl s

theorem faultCore (s : State) (n : CarriageName) (kind : FaultKind) (code : Option Nat) (ending : EndState) :
    Within s (s.faultCore n kind code ending).1 := by
  simp only [State.faultCore]
  split
  · split
    · split
      · exact modCar s n (fun v => { v with faultKind := some kind, faultCode := none }) fun h => h
      · exact refl s
    · exact modCar s n (fun v => { v with faultKind := some kind, faultCode := code }) fun h => h
  · refine Within.trans ?_ (enterFaulted ..)
    split
    · exact (leaveStraddling ..).trans (endOrder ..)
    · split
      · exact endOrder ..
      · exact refl s

theorem faultNotice (n : CarriageName) (r : State × Option (FaultKind × Option Nat)) : Within r.1 (State.faultNotice n r) := by
  unfold State.faultNotice
  split
  · exact notifyAll ..
  · exact refl _

theorem fault (s : State) (n : CarriageName) (kind : FaultKind) (code : Option Nat) : Within s (s.fault n kind code) :=
  (faultCore s n kind code .failed).trans (faultNotice ..)

theorem faultLost (s : State) (n : CarriageName) : Within s (s.faultLost n) :=
  ((faultCore s n .linkLost none .failed).trans (fenceHeld ..)).trans (faultNotice n (_, _))

/-! ## Transfers -/

theorem takeReading (s : State) (n : CarriageName) (number : Nat) : Within s (s.takeReading n number) := by
  simp only [State.takeReading]
  split
  · split
    · exact modCar _ _ _ (by intro h; exact h)
    · exact modCar _ _ _ (by intro h; exact h)
  · exact notifyAll ..

theorem takeByte (n : CarriageName) (s : State) (b : Nat) : Within s (State.takeByte n s b) := by
  simp only [State.takeByte]
  have h : Within s (s.modCar n fun v => { v with recognizer := (recognize (s.car n).recognizer b).1 }) :=
    modCar _ _ _ (by intro h; exact h)
  split
  · exact h.trans (takeReading ..)
  · exact h

theorem takeBytes (s : State) (n : CarriageName) (l : List Nat) : Within s (s.takeBytes n l) := foldl _ (takeByte n) l s

theorem startTransfer (s : State) (n : CarriageName) : Within s (s.startTransfer n) := by
  simp only [State.startTransfer]
  split
  · split
    · exact (modCar s _ _ (by intro h; exact h)).trans (modOrder _ _ _ (by intro _; rfl))
    · exact refl s
  · exact refl s

theorem lockRequest (s : State) (n : CarriageName) : Within s (s.lockRequest n) := by
  unfold State.lockRequest
  split
  · exact refl s
  · split
    · split
      · exact (modLane ..).trans (startTransfer ..)
      · exact modLane ..
    · exact startTransfer ..

theorem releaseLock (s : State) (l : Nat) : Within s (s.releaseLock l) := by
  unfold State.releaseLock
  split
  · split
    · exact (modLane ..).trans (startTransfer ..)
    · exact modLane ..
  · exact refl s

theorem dockAt (s : State) (n : CarriageName) (l : Nat) : Within s (s.dockAt n l) :=
  ((modCar _ _ _ (by intro h; exact h)).trans (convert ..)).trans (lockRequest ..)

theorem setIdentity (s : State) (b : Nat) (i : Identity) : Within s (s.setIdentity b i) := modBench ..

theorem offerIdentity (s : State) (c : Corridor) (l b : Nat) (i : Identity) : Within s (s.offerIdentity c l b i) := by
  unfold State.offerIdentity
  exact ite (refl s) (offer ..)

theorem endTransfer (s : State) (n : CarriageName) : Within s (s.endTransfer n) := modCar _ _ _ (by intro h; exact h)

theorem endAtMouth (s : State) (n : CarriageName) (tr : Transfer) (st : EndState) (reason : Option EndReason) :
    Within s (s.endAtMouth n tr st reason) :=
  ((((endTransfer ..).trans (endOrder ..)).trans (becomeIdle ..)).trans (releaseLock ..)).trans (oweAt ..)

theorem pullDone (s : State) (n : CarriageName) (tr : Transfer) (gearFailed : Bool) : Within s (s.pullDone n tr gearFailed) := by
  simp only [State.pullDone]
  refine Within.trans ?_ (oweAt ..)
  refine Within.trans ?_ (releaseLock ..)
  refine Within.trans ?_ (offer ..)
  refine Within.trans ?_ (offerIdentity ..)
  have hlist : Within s (((s.cancelClaimant n.corridor tr.bench tr.order).leaveLane tr.lane tr.bench).decOutgoing tr.lane) :=
    ((cancelClaimant ..).trans (leaveLane ..)).trans (modLane ..)
  have hbench := (hlist.trans (moveBench _ tr.bench (.aboard n))).trans
    (setIdentity _ tr.bench (State.readIdentity (s.car n).slot tr.bench gearFailed))
  generalize (((((s.cancelClaimant n.corridor tr.bench tr.order).leaveLane tr.lane tr.bench).decOutgoing tr.lane).moveBench tr.bench
    (.aboard n)).setIdentity tr.bench (State.readIdentity (s.car n).slot tr.bench gearFailed)) = s2 at hbench ⊢
  have hclaim : Within s2 (match s2.order? tr.order with
      | some o => (match o.source with
        | .laneEnd _ => s2.modBench tr.bench fun v => { v with claim := some o.id }
        | _ => s2)
      | none => s2) := by
    split
    · split
      · exact modBench ..
      · exact refl s2
    · exact refl s2
  have hcarriage := (((hbench.trans hclaim).trans
    (modOrder _ tr.order (fun o => { o with phase := .carrying, bench := some tr.bench }) (by intro _; rfl))).trans
    (endTransfer _ n)).trans (modCar _ n (fun v => { v with load := .bench tr.bench, state := .running }) (by intro h; exact h))
  split
  · exact hcarriage.trans (beginLeg ..)
  · exact hcarriage

theorem pullNothing (s : State) (n : CarriageName) (tr : Transfer) : Within s (s.pullNothing n tr) :=
  ((setIdentity ..).trans (offerIdentity ..)).trans (endAtMouth ..)

theorem pushDone (s : State) (n : CarriageName) (tr : Transfer) (gearFailed : Bool) : Within s (s.pushDone n tr gearFailed) := by
  simp only [State.pushDone]
  exact (((((((joinAt ..).trans (modLane ..)).trans (moveBench ..)).trans (setIdentity ..)).trans
    (modCar _ _ _ (by intro h; exact h))).trans (offerIdentity ..)).trans (offer ..)).trans (endAtMouth ..)

theorem transferOutcome (s : State) (n : CarriageName) (tr : Transfer) (gearFailed loaded : Bool) :
    Within s (s.transferOutcome n tr gearFailed loaded) := by
  unfold State.transferOutcome
  split
  · exact pullDone ..
  · exact pullNothing ..
  · exact endAtMouth ..
  · exact pushDone ..
  · exact endAtMouth ..
  · exact endAtMouth ..

/-! ## The allocator and the end of an event -/

theorem tryHoming (s : State) (n : CarriageName) : Within s (s.tryHoming n) := by
  simp only [State.tryHoming]
  split
  · split
    · exact refl s
    · split
      · exact refl s
      · split
        · exact refl s
        · exact ite ((modCar s _ _ (by intro h; exact h)).trans (enterHoming ..)) ((modCar s _ _ (by intro h; exact h)).trans (giveShifts ..))
  · exact refl s

theorem tryOrder (s : State) (id : Nat) : Within s (s.tryOrder id) := by
  simp only [State.tryOrder]
  split
  · exact refl s
  · split
    · split
      · exact refl s
      · split
        · exact refl s
        · split
          · exact refl s
          · exact ite
              (((modCar s _ _ (by intro h; exact h)).trans (modOrder _ _ _ (by intro _; rfl))).trans (startOrder ..))
              (((modCar s _ _ (by intro h; exact h)).trans (modOrder _ _ _ (by intro _; rfl))).trans (giveShifts ..))
    · exact refl s

theorem allocate (s : State) (c : Corridor) : Within s (s.allocate c) := by
  simp only [State.allocate]
  exact ite (refl s) ((foldl _ tryHoming _ s).trans (foldl _ tryOrder _ _))

theorem settleRounds (k : Nat) (s : State) : Within s (State.settleRounds k s) := by
  induction k generalizing s with
  | zero => exact tables rfl
  | succ k ih =>
    simp only [State.settleRounds]
    have hnone : Within s { s with owed := ⟨false, false⟩ } := tables rfl
    exact ite (((hnone.trans (ite (allocate _ .f) (refl _))).trans (ite (allocate _ .t) (refl _))).trans (ih _)) (refl s)

theorem settle (s : State) : Within s s.settle := settleRounds 8 s

theorem holdEnded (b s : State) (c : Corridor) : Within s (b.holdEnded s c) := by
  unfold State.holdEnded
  refine ite ((foldl _ (fun t n => modCar t n _ fun h => ?_) _ s).trans (owe ..)) (refl s)
  split <;> exact h

theorem holdBegan (b s : State) (c : Corridor) : Within s (b.holdBegan s c) := by
  unfold State.holdBegan
  exact ite (unwaitAll ..) (refl s)

theorem finish (b s : State) : Within s (b.finish s) :=
  ((((holdEnded b s .f).trans (holdEnded ..)).trans (settle ..)).trans (holdBegan ..)).trans (holdBegan ..)

/-! ## The position tracker -/

theorem setRehome (s : State) (n : CarriageName) : Within s (s.setRehome n) := by
  simp only [State.setRehome]
  exact ite ((modCar s _ _ (by intro h; exact h)).trans (owe ..)) (modCar s _ _ (by intro h; exact h))

/-- The uncertainty computed afresh stays at the ceiling (R97). -/
theorem refreshU (s : State) (n : CarriageName) : Within s (s.refreshU n) := by
  simp only [State.refreshU]
  refine ite (refl s) ?_
  split
  · rename_i h
    exact modCar _ _ _ fun _ => h
  · have hceiling : Within s (s.modCar n fun w => { w with u := Config.maxU }) := modCar _ _ _ fun _ => Nat.le_refl _
    exact ite hceiling (hceiling.trans (fault ..))

theorem trackOdometer (s : State) (n : CarriageName) (odo : BitVec 32) : Within s (s.trackOdometer n odo) := by
  refine modCar _ _ _ fun h => ?_
  simp only
  split
  · exact h
  · exact h
  · split <;> exact h

theorem checkEnds (s : State) (n : CarriageName) : Within s (s.checkEnds n) := by
  simp only [State.checkEnds]
  split
  · split
    · exact refl s
    · exact (modCar _ _ _ (by intro h; exact h)).trans (fault ..)
  · exact refl s

theorem checkRehome (s : State) (n : CarriageName) (before : Nat) : Within s (s.checkRehome n before) := by
  simp only [State.checkRehome]
  exact ite (setRehome ..) (refl s)

theorem missGate (c : Corridor) (s : State) (k : Nat) : Within s (State.missGate c s k) := by
  simp only [State.missGate]
  exact ite (modGate ..) ((modGate ..).trans (notifyAll ..))

theorem markStandstill (s : State) (n : CarriageName) : Within s (s.markStandstill n) := by
  unfold State.markStandstill
  exact ite (tables rfl) (refl s)

theorem track (s : State) (n : CarriageName) (odo : BitVec 32) : Within s (s.track n odo) := by
  simp only [State.track]
  exact ((((((trackOdometer ..).trans (refreshU ..)).trans (checkEnds ..)).trans (checkRehome ..)).trans
    (foldl _ (missGate n.corridor) _ _)).trans (markStandstill ..)).trans (modCar _ _ _ (by intro h; exact h))

theorem shiftPosition (s : State) (n : CarriageName) (e : Int) : Within s (s.shiftPosition n e) := modCar _ _ _ (by intro h; exact h)

theorem homingSucceeds (s : State) (n : CarriageName) (k : Nat) (e : Int) : Within s (s.homingSucceeds n k e) := by
  simp only [State.homingSucceeds]
  have h : Within s (((s.shiftPosition n e).modCar n fun v =>
      { v with
        uBase := Config.homedU, sinceCorrection := 0, u := Config.homedU, sinceHoming := 0, homings := v.homings + 1
        slip := false, rehome := false, homing := none }).modGate n.corridor k fun g => { g with misses := 0, outcome := .homed }) :=
    ((shiftPosition ..).trans (modCar _ _ _ fun _ => show Config.homedU ≤ 1500 by decide)).trans (modGate ..)
  exact ite (h.trans (modCar _ _ _ (by intro h; exact h))) (h.trans (becomeIdle ..))

theorem correct (s : State) (n : CarriageName) (k : Nat) (e : Int) : Within s (s.correct n k e) :=
  (((shiftPosition ..).trans (modCar _ _ _ (by intro h; exact h))).trans (modGate ..)).trans (refreshU ..)

theorem edgeOne (s : State) (c : Corridor) (k : Nat) (n : CarriageName) (e : Int) : Within s (s.edgeOne c k n e) := by
  simp only [State.edgeOne]
  exact ite (modGate ..) (ite (homingSucceeds ..) (ite (correct ..) ((modGate ..).trans (fault ..))))

theorem askBroadcast (s : State) (c : Corridor) : Within s (s.askBroadcast c) := modLine ..

theorem intrude (s : State) (c : Corridor) (k : Nat) : Within s (s.intrude c k) := by
  simp only [State.intrude]
  have h := (modGate s c k fun g => { g with outcome := .intrusion }).trans
    (foldl _ (fun t i => setFence t c i (.auto (.intrusion k))) (s.adjoining c k) _)
  exact (ite (h.trans (askBroadcast ..)) h).trans (notifyAll ..)

theorem risingEdge (s : State) (c : Corridor) (k : Nat) : Within s (s.risingEdge c k) := by
  simp only [State.risingEdge]
  have h : Within s (s.modGate c k fun g => { g with rising := some s.millis, standstill := false, attributed := none }) := modGate ..
  split
  · exact h.trans (intrude ..)
  · split
    · exact h.trans (intrude ..)
    · exact (h.trans (modGate ..)).trans (edgeOne ..)
    · exact h.trans (modGate ..)

theorem setSlip (s : State) (n : CarriageName) : Within s (s.setSlip n) :=
  ((modCar _ _ _ (by intro h; exact h)).trans (refreshU ..)).trans (setRehome ..)

theorem fallingEdge (s : State) (c : Corridor) (k : Nat) : Within s (s.fallingEdge c k) := by
  simp only [State.fallingEdge]
  split
  · refine ite (modGate ..) ?_
    split
    · exact ite ((modGate ..).trans (setSlip ..)) (modGate ..)
    · exact modGate ..
  · exact refl s

/-! ## Answers of drives -/

theorem noteAnswer (s : State) (n : CarriageName) (a : StatusAnswer) : Within s (s.noteAnswer n a) := modCar _ _ _ (by intro h; exact h)

theorem judgeRunning (s : State) (n : CarriageName) (a : StatusAnswer) : Within s (s.judgeRunning n a) := by
  simp only [State.judgeRunning]
  refine ite (becomeIdle ..) (ite (becomeIdle ..) (ite ?_ (refl s)))
  split
  · exact dockAt ..
  · exact refl s

theorem judgeAnswer (s : State) (n : CarriageName) (mode : SetMode) (a : StatusAnswer) : Within s (s.judgeAnswer n mode a) := by
  unfold State.judgeAnswer
  refine ite (fault ..) ?_
  split
  · exact ite (transferOutcome ..) (ite (transferOutcome ..) (refl s))
  · exact judgeRunning ..
  · exact refl s

theorem convertStanding (s : State) (n : CarriageName) (speed : Nat) : Within s (s.convertStanding n speed) := by
  simp only [State.convertStanding]
  exact ite (convert ..) (refl s)

theorem takeAnswer (s : State) (n : CarriageName) (mode : SetMode) (a : StatusAnswer) : Within s (s.takeAnswer n mode a) :=
  ((((((noteAnswer ..).trans (takeBytes ..)).trans (track ..)).trans (judgeAnswer ..)).trans (releaseBehind ..)).trans
    (convertStanding ..)).trans (grantRequest ..)

theorem missExchange (s : State) (n : CarriageName) : Within s (s.missExchange n) := by
  simp only [State.missExchange]
  have h : Within s (s.modCar n fun v => { v with recognizer := .hunt 0 }) := modCar _ _ _ (by intro h; exact h)
  exact ite h (ite (h.trans (modCar _ _ _ (by intro h; exact h))) ((h.trans (modCar _ _ _ (by intro h; exact h))).trans (faultLost ..)))

/-! ## Reading the relation -/

variable {s t : State} (h : Within s t)
include h

theorem powered : t.powered = s.powered := congrArg Still.powered h.fixed
theorem mode : t.mode = s.mode := congrArg Still.mode h.fixed
theorem layout : t.layout = s.layout := congrArg Still.layout h.fixed
theorem saved : t.saved = s.saved := congrArg Still.saved h.fixed
theorem storeBusy : t.storeBusy = s.storeBusy := congrArg Still.storeBusy h.fixed
theorem millis : t.millis = s.millis := congrArg Still.millis h.fixed
theorem inputs : t.inputs = s.inputs := congrArg Still.inputs h.fixed
theorem stops : t.stops = s.stops := congrArg Still.stops h.fixed
theorem starting : t.starting = s.starting := congrArg Still.starting h.fixed
theorem nextId : t.nextId = s.nextId := congrArg Still.nextId h.fixed
theorem pending : t.pending = s.pending := congrArg Still.pending h.fixed
theorem answer (l : LinkId) : (t.link l).answer = (s.link l).answer := congrArg (fun x => x.2.2.2.2.1) (h.ports l)
theorem outstanding (l : LinkId) : (t.link l).outstanding = (s.link l).outstanding := congrArg (fun x => x.2.1) (h.ports l)
theorem overrun (l : LinkId) : (t.link l).overrun = (s.link l).overrun := congrArg (fun x => x.2.2.1) (h.ports l)

end Within

end Sys2Proof.Machine
end

section
/-! PROOFS. What every step keeps, command by command: the drive lines, the layout, the starts, the ports and their requests. -/

namespace Sys2Proof.Machine

/-! ## Ids of orders (R41) -/

theorem idAfter_eq (n : Nat) (hlow : 1 ≤ n) (hhigh : n ≤ 65535) : idAfter n = n % 65535 + 1 := by
  unfold idAfter
  split <;> omega

/-- The i-th value the search for a free id looks at, from one of the range 1 to 65,535. -/
def idAt (n i : Nat) : Nat := (n - 1 + i) % 65535 + 1

theorem idAt_bounds (n i : Nat) : 1 ≤ idAt n i ∧ idAt n i ≤ 65535 := by
  unfold idAt
  omega

theorem idAt_zero (n : Nat) (hlow : 1 ≤ n) (hhigh : n ≤ 65535) : idAt n 0 = n := by
  unfold idAt
  omega

theorem idAfter_idAt (n i : Nat) : idAfter (idAt n i) = idAt n (i + 1) := by
  obtain ⟨hlow, hhigh⟩ := idAt_bounds n i
  rw [idAfter_eq _ hlow hhigh]
  unfold idAt
  omega

theorem idAt_injective (n i j : Nat) (hi : i < 65535) (hj : j < 65535) (h : idAt n i = idAt n j) : i = j := by
  unfold idAt at h
  omega

/-- The search answers one of the values it looks at, and one of no live order unless all of them are of live orders. -/
theorem freeId_idAt (s : State) (n : Nat) : ∀ k i, (∃ j, s.freeId k (idAt n i) = idAt n j) ∧
    (s.order? (s.freeId k (idAt n i)) = none ∨ ∀ j, j < k → (s.order? (idAt n (i + j))).isSome = true) := by
  intro k
  induction k with
  | zero => exact fun i => ⟨⟨i, rfl⟩, .inr fun j hj => absurd hj (Nat.not_lt_zero j)⟩
  | succ k ih =>
    intro i
    rw [State.freeId]
    split
    · rename_i hlive
      rw [idAfter_idAt]
      obtain ⟨hvalue, hfree⟩ := ih (i + 1)
      refine ⟨hvalue, hfree.imp_right fun hall j hj => ?_⟩
      cases j with
      | zero => exact hlive
      | succ j =>
        have := hall j (Nat.lt_of_succ_lt_succ hj)
        rwa [Nat.add_assoc, Nat.add_comm 1] at this
    · rename_i hfree
      exact ⟨⟨i, rfl⟩, .inl (by simpa using hfree)⟩

theorem mem_ids_of_order? (s : State) (id : Nat) (h : (s.order? id).isSome = true) : id ∈ s.book.map (·.id) := by
  obtain ⟨o, ho⟩ := Option.isSome_iff_exists.mp h
  have hid : o.id = id := by simpa using List.find?_some ho
  exact hid ▸ List.mem_map_of_mem (List.mem_of_find?_eq_some ho)

theorem order?_none_iff (s : State) (id : Nat) : s.order? id = none ↔ id ∉ s.book.map (·.id) := by
  simp [State.order?, List.find?_eq_none]

theorem newId_bounds (s : State) (hlow : 1 ≤ s.nextId) (hhigh : s.nextId ≤ 65535) : 1 ≤ s.newId ∧ s.newId ≤ 65535 := by
  obtain ⟨⟨j, hj⟩, -⟩ := freeId_idAt s s.nextId 49 0
  rw [idAt_zero _ hlow hhigh] at hj
  rw [State.newId, hj]
  exact idAt_bounds s.nextId j

/-- 49 different values cannot all be ids of 48 orders. -/
theorem newId_free (s : State) (hlen : s.book.length ≤ 48) (hlow : 1 ≤ s.nextId) (hhigh : s.nextId ≤ 65535) :
    s.order? s.newId = none := by
  obtain ⟨-, hfree⟩ := freeId_idAt s s.nextId 49 0
  rw [idAt_zero _ hlow hhigh] at hfree
  refine hfree.resolve_right fun hall => ?_
  have hnodup : ((List.range 49).map (idAt s.nextId)).Nodup := by
    refine List.pairwise_map.2 (List.pairwise_lt_range.imp_of_mem fun {i j} hi hj hlt h => ?_)
    rw [List.mem_range] at hi hj
    have := idAt_injective s.nextId i j (by omega) (by omega) h
    omega
  have hsubset : (List.range 49).map (idAt s.nextId) ⊆ s.book.map (·.id) := by
    intro x hx
    obtain ⟨j, hj, rfl⟩ := List.mem_map.mp hx
    have := hall j (List.mem_range.mp hj)
    rw [Nat.zero_add] at this
    exact mem_ids_of_order? s _ this
  have := hnodup.length_le_of_subset hsubset
  simp only [List.length_map, List.length_range] at this
  omega

theorem newId_of_free (s : State) (h : s.order? s.nextId = none) : s.newId = s.nextId := by
  simp [State.newId, State.freeId, h]

/-! ## Tables -/

theorem wf_empty {α : Type} : (Table.empty : Table α).wf = true := rfl

namespace Keeps

theorem ite {s t u : State} {p : Prop} [Decidable p] (ht : Keeps s t) (hu : Keeps s u) : Keeps s (if p then t else u) := by
  split
  · exact ht
  · exact hu

theorem atLeast (s : State) (m : Nat) : Keeps s (s.atLeast m) := of_same rfl rfl rfl rfl rfl

theorem modLine (s : State) (c : Corridor) (g : Line → Line) : Keeps s (s.modLine c g) := of_same rfl rfl rfl rfl rfl

/-! ## The drive lines -/

theorem beginExchange (s : State) (c : Corridor) (address : Nat) (n : CarriageName) (rest : List (Nat × CarriageName)) :
    Keeps s (s.beginExchange c address n rest) := by
  simp only [State.beginExchange]
  exact (modCar s n _ (by intro h; exact h)).trans (modLine ..)

theorem nextExchange (s : State) (c : Corridor) : Keeps s (s.nextExchange c) := by
  simp only [State.nextExchange]
  refine ite (refl s) ?_
  split
  · exact refl s
  · exact beginExchange ..

theorem cycleDone (s : State) (c : Corridor) : Keeps s (s.cycleDone c) := by
  simp only [State.cycleDone]
  have hcycle : Keeps s ({ s with starting := s.starting.set c false } : State) := of_same rfl rfl rfl rfl rfl
  exact ite (hcycle.trans ((Within.owe ..).trans (Within.settle _)).keeps) (refl s)

theorem endExchange (s : State) (c : Corridor) : Keeps s (s.endExchange c) :=
  ((modLine ..).trans (nextExchange ..)).trans (cycleDone ..)

theorem beginCycle (s : State) (c : Corridor) : Keeps s (s.beginCycle c) :=
  ((modLine ..).trans (nextExchange ..)).trans (cycleDone ..)

theorem finish (b s : State) : Keeps s (b.finish s) := (Within.finish b s).keeps

theorem answerArrives (s : State) (c : Corridor) (a : StatusAnswer) : Keeps s (s.answerArrives c a) := by
  simp only [State.answerArrives]
  split
  · exact refl s
  · refine ite (refl s) (ite ?_ (modLine ..))
    split
    · exact (ite (refl s) ((Within.takeAnswer ..).keeps.trans (finish ..))).trans (endExchange ..)
    · exact endExchange ..

theorem windowCloses (s : State) (c : Corridor) : Keeps s (s.windowCloses c) := by
  simp only [State.windowCloses]
  split
  · exact refl s
  · split
    · exact (((atLeast ..).trans (Within.missExchange ..).keeps).trans (finish ..)).trans (endExchange ..)
    · exact (atLeast ..).trans (endExchange ..)

theorem sendBroadcast (s : State) (c : Corridor) : Keeps s (s.sendBroadcast c) := by
  unfold State.sendBroadcast
  split
  · simp only [State.endBroadcast]
    have h := (atLeast s ‹Nat›).trans (modLine _ c fun w => { w with broadcastEnds := none })
    exact ite (h.trans (modLine ..)) ((h.trans (nextExchange ..)).trans (cycleDone ..))
  · exact ite (modLine ..) (refl s)

/-! ## The layout -/

theorem layout (s : State) (y : Layout) : Keeps s { s with layout := y } := of_same rfl rfl rfl rfl rfl

theorem relock (s : State) (n : Nat) : Keeps s (s.relock n) := of_same rfl rfl rfl rfl rfl

theorem setGateItem (s : State) (c : Corridor) (k input : Nat) (level : Level) : Keeps s (s.setGateItem c k input level) := by
  simp only [State.setGateItem]
  split
  · exact of_same rfl rfl rfl rfl rfl
  · exact ite (of_same rfl rfl rfl rfl rfl) (of_same rfl rfl rfl rfl rfl)

/-- A created record's uncertainty is the retained one, or the grown one under the ceiling (R68, R97). -/
theorem createRecord (s : State) (n : CarriageName) : Keeps s (s.createRecord n) := by
  refine modCar s n _ fun h => ?_
  simp only
  split
  · exact h
  · rename_i p _
    show (if Config.maxU ≤ (s.car n).u + s.layout.unit.allowance then Config.maxU else (s.car n).u + s.layout.unit.allowance) ≤ 1500
    split
    · exact Nat.le_refl _
    · rename_i hroom
      exact Nat.le_of_lt (Nat.lt_of_not_le hroom)

theorem discardRecord (s : State) (n : CarriageName) : Keeps s (s.discardRecord n) := by
  simp only [State.discardRecord]
  have h : Keeps s (((s.modCar n State.retainedOnly).unwait n).clearLayers n (((s.modCar n State.retainedOnly).unwait n).heldRun n)) :=
    ((modCar s n _ (by intro h; exact h)).trans (Within.unwait ..).keeps).trans (Within.clearLayers ..).keeps
  exact h.trans (of_same rfl rfl rfl rfl rfl)

theorem setCarriageItem (s : State) (n : CarriageName) (it : CarriageItem) : Keeps s (s.setCarriageItem n it) := by
  simp only [State.setCarriageItem]
  split
  · have hstarting : Keeps s ({ s with starting := s.starting.set n.corridor true } : State) := of_same rfl rfl rfl rfl rfl
    exact (hstarting.trans (createRecord ..)).trans (layout ..)
  · exact ite (layout ..) (((modCar s n _ (by intro h; exact h)).trans (modLine ..)).trans (layout ..))

theorem removeItem (s : State) (k : ItemKey) : Keeps s (s.removeItem k) := by
  unfold State.removeItem
  split
  · exact layout ..
  · exact layout ..
  · exact (layout ..).trans (relock ..)
  · exact layout ..
  · rename_i n
    exact (discardRecord s n).trans (of_same rfl rfl rfl rfl rfl)
  · split
    · exact layout ..
    · exact refl s
  · exact refl s

theorem applyEdit (s : State) (e : LayoutEdit) : Keeps s (s.applyEdit e) := by
  unfold State.applyEdit
  split
  · exact removeItem ..
  · exact layout ..
  · exact layout ..
  · exact setGateItem ..
  · exact (layout ..).trans (relock ..)
  · exact layout ..
  · exact setCarriageItem ..
  · split
    · exact layout ..
    · exact refl s
  · exact layout ..
  · exact layout ..
  · exact refl s

/-! ## Starts -/

theorem clearTrack (s : State) (c : Corridor) : Keeps s (s.clearTrack c) :=
  mapSegs s c (fun g => { g with running := none, standing := none, waiting := [] }) rfl
    fun _ _ n _ hn => by simp [Segment.holds] at hn

theorem oneHolder_standing (s : State) (c : Corridor) (k : Nat) (n : CarriageName) (h : (s.seg c k).running = none) :
    ({ s.seg c k with standing := some n } : Segment).OneHolder :=
  oneHolder_of_only _ n fun m hm => by simpa [Segment.holds, h, eq_comm] using hm

theorem startRecord (s : State) (n : CarriageName) : Keeps s (s.startRecord n) := by
  unfold State.startRecord
  exact ite (createRecord ..) (modCar s n _ (by intro h; exact h))

theorem settleMark (s : State) (n : CarriageName) : Keeps s (s.settleMark n) := by
  simp only [State.settleMark]
  split
  · exact refl s
  · have hlanes : ∀ v : Table Lane, Keeps s { s with lanes := v } := fun _ => of_same rfl rfl rfl rfl rfl
    exact ((hlanes _).trans (Within.modBench ..).keeps).trans (modCar _ n _ (by intro h; exact h))

theorem startInventory (s : State) : Keeps s s.startInventory := by
  simp only [State.startInventory]
  have hbenches : ∀ (u : State) (v : Table Bench), Keeps u { u with benches := v } := fun _ _ => of_same rfl rfl rfl rfl rfl
  have hlanes : ∀ (u : State) (v : Table Lane), Keeps u { u with lanes := v } := fun _ _ => of_same rfl rfl rfl rfl rfl
  exact (((hbenches ..).trans (foldl _ settleMark _ _)).trans (hlanes ..)).trans
    (foldl _ (fun t n => ite (relock t n) (refl t)) _ _)

theorem startGates (s : State) (c : Corridor) : Keeps s (s.startGates c) := by
  simp only [State.startGates]
  have hgates : ∀ v : Two (Table Gate), Keeps s { s with gates := v } := fun _ => of_same rfl rfl rfl rfl rfl
  refine (hgates _).trans (foldl _ (fun t k => ?_) _ _)
  split
  · exact of_same rfl rfl rfl rfl rfl
  · exact refl t

end Keeps

/-- No running layer stands on a corridor's segments: so it is from the clearing of its track to the end of its seating (R93). -/
def NoRunning (s : State) (c : Corridor) : Prop := ∀ k, (s.seg c k).running = none

theorem noRunning_clearTrack (s : State) (c : Corridor) : NoRunning (s.clearTrack c) c := by
  intro k
  rw [State.clearTrack, State.seg_mapSegs s c c k (fun g => { g with running := none, standing := none, waiting := [] }) rfl, if_pos rfl]

theorem seg_notify (s : State) (l : LinkId) (b : NoticeBody) (f : Option (List Nat)) (c : Corridor) (k : Nat) :
    (s.notify l b f).seg c k = s.seg c k := rfl

theorem segments_offer (s : State) (o : Offer) : (s.offer o).segments = s.segments := by
  have hone : ∀ (u : State) (l : LinkId), (u.offerOn o l).segments = u.segments := fun u l => by
    simp only [State.offerOn]
    split
    · rfl
    · split <;> rfl
  simp only [State.offer, hone]

theorem seg_setFence (s : State) (c d : Corridor) (k j : Nat) (f : Fence) :
    (s.setFence c k f).seg d j =
      if d = c ∧ j = k then { s.seg c k with fence := some ((s.seg c k).fence.getD f) } else s.seg d j := by
  unfold State.setFence
  cases hf : (s.seg c k).fence with
  | none =>
    simp only [Option.isNone_none, if_true, State.offerFence, State.seg_of_segments (segments_offer _ _), State.seg_modSeg,
      Option.getD_none]
  | some g =>
    simp only [Option.isNone_some, Bool.false_eq_true, if_false, Option.getD_some]
    split
    · rename_i h; obtain ⟨rfl, rfl⟩ := h; rw [← hf]
    · rfl

theorem noRunning_seatWanted (c : Corridor) (s : State) (k : Nat) (h : NoRunning s c) : NoRunning (State.seatWanted c s k) c := by
  intro j
  unfold State.seatWanted
  split
  · exact h j
  · rw [State.seg_modSeg]
    split
    · exact h k
    · exact h j
  · rw [seg_setFence]
    split
    · exact h k
    · exact h j

theorem keeps_seatWanted (c : Corridor) (s : State) (k : Nat) (h : NoRunning s c) : Keeps s (State.seatWanted c s k) := by
  unfold State.seatWanted
  split
  · exact .refl s
  · exact Keeps.setSeg s c k _ fun _ => Keeps.oneHolder_standing s c k _ (h k)
  · exact (Within.setFence ..).keeps

theorem keeps_seatAll (s : State) (c : Corridor) : Keeps s (s.seatAll c) := by
  have hfold : ∀ (l : List Nat) (t : State), NoRunning t c → Keeps t (l.foldl (State.seatWanted c) t) := by
    intro l
    induction l with
    | nil => exact fun t _ => .refl t
    | cons k rest ih => exact fun t h => (keeps_seatWanted c t k h).trans (ih _ (noRunning_seatWanted c t k h))
  exact (Keeps.clearTrack s c).trans (hfold _ _ (noRunning_clearTrack s c))

theorem uncertaintyBounded_clearRetained (s : State) : UncertaintyBounded s.clearRetained := by
  intro n
  cases n <;> exact Nat.zero_le _

theorem oneCarriage_clearRetained (s : State) : OneCarriage s.clearRetained := by
  rw [oneCarriage_iff]
  constructor
  · intro c; cases c <;> rfl
  · intro c k
    have hblank : s.clearRetained.seg c k = Segment.blank := by cases c <;> rfl
    rw [hblank]
    exact oneHolder_blank

theorem linkBounded_start (m : UnitMode) (lost : Bool) : LinkBounded (Link.start (startNotices m lost)) := by
  cases lost <;> simp [LinkBounded, Link.start, startNotices, clearedSlots]

/-- A start brings every link and the book to its start values, and builds the carriages and layers from what is retained (R15, R16). -/
theorem keeps_start (s : State) (pins : Pins) (checked : Bool) : Keeps s (s.start pins checked) := by
  simp only [State.start]
  refine Keeps.trans ?_ (keeps_seatAll _ .t)
  refine Keeps.trans ?_ (keeps_seatAll _ .f)
  refine Keeps.trans ?_ (Keeps.startGates _ .t)
  refine Keeps.trans ?_ (Keeps.startGates _ .f)
  have hretained : ∀ u : State, Keeps u (CarriageName.all.foldl State.startRecord (State.loadLayout u).startInventory) := fun u =>
    ((Keeps.layout u _).trans (Keeps.startInventory _)).trans (Keeps.foldl _ Keeps.startRecord _ _)
  generalize hu : (if (checked && !s.retainedAgrees) = true then s.clearRetained else s) = u
  have hcars : UncertaintyBounded s → UncertaintyBounded u := by
    rw [← hu]
    split
    · exact fun _ => uncertaintyBounded_clearRetained s
    · exact id
  have hlayers : OneCarriage s → OneCarriage u := by
    rw [← hu]
    split
    · exact fun _ => oneCarriage_clearRetained s
    · exact id
  have hrecords := hretained u
  generalize CarriageName.all.foldl State.startRecord (State.loadLayout u).startInventory = r at hrecords ⊢
  refine ⟨fun _ => ?_, fun h => hrecords.uncertainty (hcars h), fun h => hrecords.layers (hlayers h), fun _ => ?_⟩
  · intro l
    cases l <;> exact linkBounded_start ..
  · exact ⟨Nat.zero_le 48, fun _ => Nat.zero_le 24, List.nodup_nil, Nat.le_refl 1, (by decide : 1 ≤ 65535)⟩

/-! ## Ports and requests -/

namespace Keeps

/-- A write of a port that leaves its notice unit (R173). -/
theorem port (s : State) (l : LinkId) (g : Link → Link) (hg : LinkBounded (s.link l) → LinkBounded (g (s.link l))) :
    Keeps s (s.modLink l g) := modLink s l g hg

theorem answer (s : State) (l : LinkId) (w : ReqWord) (r : Reply) : Keeps s (s.answer l w r) := modLink s l _ (by intro h; exact h)

theorem takeLine (s : State) (l : LinkId) (w : ReqWord) : Keeps s (s.takeLine l w) := modLink s l _ (by intro h; exact h)

theorem overrunLine (s : State) (l : LinkId) : Keeps s (s.overrunLine l) := modLink s l _ (by intro h; exact h)

theorem answerIsSent (s : State) (l : LinkId) : Keeps s (s.answerIsSent l) := by
  unfold State.answerIsSent
  split
  · exact refl s
  · refine ite (modLink s l _ fun h => ?_) (refl s)
    split <;> exact h

theorem badLineOn (s : State) (l : LinkId) (cause : BadLineCause) : Keeps s (s.badLineOn l cause) :=
  modLink s l _ fun ⟨hqueue, hlost, _, hslots⟩ => ⟨hqueue, hlost, Nat.min_le_left .., hslots⟩

theorem request {α : Type} (s : State) (l : LinkId) (w : ReqWord) (form : α → Bool) (q : Req α) (serve : State → α → Served)
    (hserve : ∀ (u : State) a, Keeps u (serve u a).state) : Keeps s (request s l w form q serve) := by
  unfold Machine.request
  refine ite (refl s) (ite (overrunLine s l) ?_)
  split
  · exact (takeLine ..).trans (answer ..)
  · simp only [served]
    have h : Keeps s ((s.takeLine l w).finish (serve (s.takeLine l w) ‹α›).state) :=
      ((takeLine ..).trans (hserve ..)).trans (finish ..)
    split
    · exact h.trans (answer ..)
    · exact h

theorem event (s : State) (g : State → State) (hg : ∀ u, Keeps u (g u)) : Keeps s (event s g) := by
  unfold Machine.event
  exact ite ((hg s).trans (finish ..)) (refl s)

end Keeps

/-! ### The inventory -/

theorem keeps_arrive (s : State) (a : ArriveArgs) (r : Readiness) : Keeps s (s.arrive a r) := by
  simp only [State.arrive]
  have hbench : Keeps s (s.setBench a.bench ⟨a.batch, r, a.reference, .inLane a.lane, .verified, none, s.seconds⟩) :=
    .of_same rfl rfl rfl rfl rfl
  exact hbench.trans (((Within.modLane ..).trans (Within.offer ..)).trans (Within.oweMouths ..)).keeps

theorem within_register (s : State) (b : Nat) : Within s (s.register b) := by
  unfold State.register
  exact .ite (.tables rfl) (.refl s)

theorem within_takeOut (l : Nat) (s : State) (b : Nat) : Within s (State.takeOut l s b) := by
  unfold State.takeOut
  split
  · exact .ite (.refl s) ((Within.leaveLane ..).trans (Within.oweMouths ..))
  · exact (Within.modCar s _ _ (by intro h; exact h)).trans (Within.owe ..)
  · exact .refl s

theorem within_placeAt (l : Nat) (old new : List Nat) (s : State) (b : Nat) : Within s (State.placeAt l old new s b) := by
  simp only [State.placeAt]
  exact .ite (Within.modBench ..) (Within.moveBench ..)

theorem within_laneSet (s : State) (l : Nat) (new : List Nat) : Within s (s.laneSet l new) := by
  simp only [State.laneSet]
  have h := ((((Within.foldl _ within_register new s).trans (Within.foldl _ (within_takeOut l) new _)).trans
    (Within.foldl _ (fun t b => Within.moveBench t b .outside) ((s.lane l).benches.filter fun b => !new.contains b) _)).trans
    (Within.modLane _ l fun v => { v with benches := new })).trans
    (Within.foldl _ (within_placeAt l (s.lane l).benches new) new _)
  exact .ite h (h.trans (Within.oweMouths ..))

theorem within_owePlace (s : State) (p : Place) : Within s (s.owePlace p) := by
  unfold State.owePlace
  split
  · exact Within.oweMouths ..
  · exact Within.owe ..
  · exact .refl s

theorem within_swap (s : State) (n m : Nat) (x y : Bench) : Within s (s.swap n m x y) := by
  simp only [State.swap]
  refine Within.trans ?_ (within_owePlace ..)
  refine Within.trans ?_ (within_owePlace ..)
  have hlanes : ∀ v : Table Lane, Within s { s with lanes := v } := fun _ => .tables rfl
  have hloads : ∀ t c, Within t (t.modCar c fun v => { v with load := swapLoad n m v.load }) := fun t c =>
    Within.modCar t c _ (by intro h; exact h)
  have hbench : ∀ (t : State) b v, Within t (t.setBench b v) := fun _ _ _ => .tables rfl
  exact (((hlanes _).trans (Within.foldl _ hloads CarriageName.all _)).trans (hbench ..)).trans (hbench ..)

theorem within_settleBench (s : State) (b : Nat) (w : SettleWhere) (n : CarriageName) (l : Nat) (c : Corridor) :
    Within s (s.settleBench b w n l c) := by
  simp only [State.settleBench]
  refine Within.trans ?_ (((Within.setIdentity ..).trans (Within.releaseLock ..)).trans (Within.owe ..))
  split
  · exact (Within.moveBench ..).trans (Within.modCar _ _ _ (by intro h; exact h))
  · exact (((Within.joinAt ..).trans (Within.moveBench ..)).trans (Within.modCar _ _ _ (by intro h; exact h))).trans
      (Within.oweMouths ..)

/-! ### Orders -/

/-- The book takes an order whose id is new while there is room for it and for one more of its link (R40, R41). -/
theorem bookBounded_append (s : State) (o : Order) (h : BookBounded s) (hroom : s.book.length < 48) (hshare : s.share o.link < 24)
    (hnew : s.order? o.id = none) (hlow : 1 ≤ o.id) (hhigh : o.id ≤ 65535) :
    BookBounded { s with book := s.book ++ [o], nextId := idAfter o.id } := by
  obtain ⟨-, hshares, hids, -, -⟩ := h
  have hafter : 1 ≤ idAfter o.id ∧ idAfter o.id ≤ 65535 := by
    rw [idAfter_eq _ hlow hhigh]
    omega
  refine ⟨?_, fun l => ?_, ?_, hafter⟩
  · rw [List.length_append]
    exact hroom
  · have hl := hshares l
    simp only [State.share, List.filter_append, List.length_append] at hl hshare ⊢
    by_cases he : o.link = l
    · subst he
      simp
      omega
    · simpa [he] using hl
  · rw [List.map_append, List.nodup_append]
    refine ⟨hids, by simp, fun a ha b hb => ?_⟩
    rw [List.map_singleton, List.mem_singleton] at hb
    rw [hb]
    exact fun e => (order?_none_iff s o.id).mp hnew (e ▸ ha)

/-- What an accepted MOVE has been judged by last (R43 row 12). -/
theorem judgeMove_inr_room (s : State) (l : LinkId) (a : MoveArgs) (c : Corridor) (h : s.judgeMove l a = .inr c) :
    s.book.length < 48 ∧ s.share l < 24 := by
  simp only [State.judgeMove] at h
  iterate 6 split at h; exact nomatch h
  split at h
  · exact nomatch h
  · iterate 2 split at h; exact nomatch h
    split at h
    · exact nomatch h
    · rename_i hfull
      simp only [Bool.or_eq_true, decide_eq_true_eq, not_or, Nat.not_le] at hfull
      exact hfull
  · exact nomatch h

/-- The holdings of an accepted MOVE, once the order stands in the book (R44). -/
theorem within_holdings (s : State) (o : Order) :
    Within { s with book := s.book ++ [o], nextId := idAfter o.id } (s.acceptMove o) := by
  simp only [State.acceptMove]
  refine Within.trans ?_ ((Within.modLane ..).trans (Within.owe ..))
  cases o.bench with
  | none =>
    cases o.srcLane with
    | none => exact .refl _
    | some k => exact Within.modLane ..
  | some b =>
    cases o.srcLane with
    | none => exact Within.modBench ..
    | some k => exact (Within.modBench ..).trans (Within.modLane ..)

theorem keeps_acceptMove (s : State) (l : LinkId) (a : MoveArgs) (k : OrderClass) (c : Corridor) (h : s.judgeMove l a = .inr c) :
    Keeps s (s.acceptMove (s.newOrder l a k c)) := by
  obtain ⟨hroom, hshare⟩ := judgeMove_inr_room s l a c h
  have hbook : Keeps s { s with book := s.book ++ [s.newOrder l a k c], nextId := idAfter (s.newOrder l a k c).id } := by
    refine ⟨fun h => h, fun h => h, fun h => h, fun hb => ?_⟩
    obtain ⟨hlen, -, -, hlow, hhigh⟩ := id hb
    obtain ⟨hidlow, hidhigh⟩ := newId_bounds s hlow hhigh
    exact bookBounded_append s (s.newOrder l a k c) hb hroom hshare (newId_free s hlen hlow hhigh) hidlow hidhigh
  exact hbook.trans (within_holdings s (s.newOrder l a k c)).keeps

theorem keeps_serveMove (l : LinkId) (s : State) (a : MoveArgs) : Keeps s (serveMove l s a).state := by
  unfold serveMove
  split
  · exact .refl s
  · exact keeps_acceptMove s l a _ _ ‹_›
  · exact .refl s

theorem within_endAndWithdraw (s : State) (o : Order) (st : EndState) : Within s (s.endAndWithdraw o st) := by
  simp only [State.endAndWithdraw]
  split
  · exact (Within.endOrder ..).trans (Within.withdraw ..)
  · exact Within.endOrder ..

theorem within_abort (s : State) (o : Order) : Within s (s.abort o) := by
  unfold State.abort
  split
  · exact (Within.faultCore ..).trans (Within.faultNotice ..)
  · exact (Within.faultCore ..).trans (Within.faultNotice ..)
  · exact within_endAndWithdraw ..

theorem keeps_age (s : State) (id : Nat) : Keeps s (s.age id) := by
  simp only [State.age]
  split
  · exact .refl s
  · exact .ite ((Keeps.atLeast ..).trans (Within.modOrder _ _ _ (by intro _; rfl)).keeps) (.refl s)

/-! ### Carriages, gates, stops, slots -/

/-- The uncertainty CLEAR leaves is the old one, 0, or grown under the ceiling (R66, R97). -/
theorem clearedRecord_u (s : State) (n : CarriageName) (h : (s.car n).u ≤ 1500) : (s.clearedRecord n).u ≤ 1500 := by
  have hmarks : ∀ (w : Carriage) (b : Prop) [Decidable b], (if b then w else { w with rehome := false, slip := false }).u = w.u :=
    fun w b _ => by split <;> rfl
  simp only [State.clearedRecord]
  split
  · split
    · exact Nat.min_le_left ..
    · rw [hmarks]; exact h
  · exact Nat.zero_le _
  · exact Nat.zero_le _
  · rw [hmarks]; exact h

theorem within_clearCarriage (s : State) (n : CarriageName) : Within s (s.clearCarriage n) := by
  simp only [State.clearCarriage]
  refine Within.trans ?_ (Within.retryAll ..)
  have hrecord : Within s (s.setCar n (s.clearedRecord n)) :=
    ⟨rfl, fun _ => rfl, Keeps.setCar s n _ fun h => clearedRecord_u s n (h n)⟩
  have hlifted := hrecord.trans
    (Within.foldl (fun t k => t.liftFence n.corridor k) (fun t k => Within.liftFence t n.corridor k) (s.lostFences n) _)
  exact .ite (hlifted.trans (Within.becomeIdle ..)) (.ite ((hlifted.trans (Within.seat ..)).trans (Within.owe ..)) hlifted)

theorem within_declare (s : State) (n : CarriageName) (p tolerance : Nat) : Within s (s.declare n p tolerance) := by
  refine ((Within.modCar s n _ fun _ => ?_).trans (Within.seat ..)).trans (Within.owe ..)
  show max 100 (min 1000 tolerance) ≤ 1500
  omega

theorem within_gateOut (s : State) (c : Corridor) (k : Nat) : Within s (s.gateOut c k) := by
  simp only [State.gateOut]
  exact .ite ((Within.modGate ..).trans (Within.notifyAll ..)) (Within.modGate ..)

theorem keeps_filterTo (s : State) (c : Corridor) (k input : Nat) (v mid : Level) : Keeps s (s.filterTo c k input v mid) :=
  .of_same rfl rfl rfl rfl rfl

theorem keeps_edgeUp (s : State) (c : Corridor) (k : Nat) (mid : Level) : Keeps s (s.edgeUp c k mid) := by
  unfold State.edgeUp
  split
  · exact .refl s
  · exact .ite (.refl s) (.ite ((keeps_filterTo ..).trans (Within.risingEdge ..).keeps) (keeps_filterTo ..))

theorem keeps_edgeDown (s : State) (c : Corridor) (k : Nat) (mid : Level) : Keeps s (s.edgeDown c k mid) := by
  unfold State.edgeDown
  split
  · exact .refl s
  · exact .ite (.refl s) (.ite ((keeps_filterTo ..).trans (Within.fallingEdge ..).keeps) (keeps_filterTo ..))

theorem keeps_homingExpires (s : State) (n : CarriageName) : Keeps s (s.homingExpires n) := by
  unfold State.homingExpires
  split
  · exact .refl s
  · exact (Keeps.atLeast ..).trans (Within.fault ..).keeps

theorem keeps_transferExpires (s : State) (n : CarriageName) : Keeps s (s.transferExpires n) := by
  unfold State.transferExpires
  split
  · exact .refl s
  · exact (Keeps.atLeast ..).trans (Within.fault ..).keeps

theorem within_halt (s : State) (n : CarriageName) (r : Remembered) : Within s (s.halt n r) :=
  (Within.unwait ..).trans (Within.modCar _ _ _ (by intro h; exact h))

theorem within_haltOne (s : State) (n : CarriageName) : Within s (s.haltOne n) := by
  unfold State.haltOne
  split
  · exact within_halt ..
  · exact within_halt ..
  · exact (Within.withdrawWait ..).trans (within_halt ..)
  · exact Within.fault ..
  · exact .refl s

theorem keeps_modStop (s : State) (c : Corridor) (g : Stop → Stop) : Keeps s (s.modStop c g) := .of_same rfl rfl rfl rfl rfl

theorem keeps_openLoop (s : State) (c : Corridor) (mid : LoopState) : Keeps s (s.openLoop c mid) := by
  simp only [State.openLoop]
  refine .ite (.refl s) ?_
  exact (((keeps_modStop ..).trans (Keeps.modLine ..)).trans (Within.notifyAll ..).keeps).trans
    (Within.foldl _ within_haltOne _ _).keeps

theorem within_resume (s : State) (n : CarriageName) : Within s (s.resume n) := by
  unfold State.resume
  split
  · exact Within.modCar _ _ _ (by intro h; exact h)
  · exact Within.modCar _ _ _ (by intro h; exact h)
  · exact ((Within.modCar _ _ _ (by intro h; exact h)).trans (Within.convert ..)).trans (Within.lockRequest ..)
  · exact Within.becomeIdle ..
  · exact .refl s

theorem keeps_closeLoop (s : State) (c : Corridor) (mid : LoopState) : Keeps s (s.closeLoop c mid) := by
  simp only [State.closeLoop]
  refine .ite (.refl s) ?_
  exact ((keeps_modStop ..).trans (Within.notifyAll ..).keeps).trans
    ((Within.foldl _ within_resume _ _).trans (Within.owe ..)).keeps

theorem keeps_writeSlot (s : State) (l : LinkId) (i : Nat) (w : WatchSlot) : Keeps s (s.writeSlot l i w) :=
  Keeps.modLink s l _ fun ⟨hqueue, hlost, hbad, hslots⟩ => ⟨hqueue, hlost, hbad, List.length_set.trans hslots⟩

theorem keeps_enterRunning (s : State) : Keeps s s.enterRunning := by
  simp only [State.enterRunning]
  have hmode : ∀ t : State, Keeps t { t with mode := .running } := fun _ => .of_same rfl rfl rfl rfl rfl
  exact (((((Within.dropStaleFences s .f).trans (Within.dropStaleFences _ .t)).keeps.trans (keeps_seatAll _ .f)).trans
    (keeps_seatAll _ .t)).trans (hmode _)).trans ((Within.owe ..).trans (Within.owe ..)).keeps

theorem keeps_saveEnds (s : State) (same : Bool) : Keeps s (s.saveEnds same) := by
  unfold State.saveEnds
  split
  · exact .refl s
  · have hsaved : ∀ y, Keeps s { s with storeBusy := none, saved := y } := fun _ => .of_same rfl rfl rfl rfl rfl
    exact (hsaved _).trans (Keeps.answer ..)

theorem keeps_powerFails (s : State) (cut : Bool) : Keeps s (s.powerFails cut) := .of_same rfl rfl rfl rfl rfl

theorem keeps_restart (s : State) (l : LinkId) (pins : Pins) : Keeps s (s.restart l pins) :=
  (keeps_start s pins false).trans (Keeps.modLink _ l _ (by intro h; exact h))

end Sys2Proof.Machine
end

section
/-! PROOFS. The step (the invariants at reset and under every command): each command's meaning is a request, an event, a start or an
operation of a drive line. -/

namespace Sys2Proof.Machine

/-! ## Requests that read -/

/-- A block that answers without changing a table. -/
def Reads {α : Type} (serve : State → α → Served) : Prop := ∀ s a, (serve s a).state = s

theorem reads_serveStatus (l : LinkId) : Reads (serveStatus l) := fun _ _ => rfl

theorem reads_serveLayoutGet : Reads serveLayoutGet := by
  intro s k
  unfold serveLayoutGet
  split
  · rfl
  · split <;> rfl

theorem reads_serveLaneGet : Reads serveLaneGet := by
  intro s l
  unfold serveLaneGet
  split
  · rfl
  · split <;> rfl

theorem reads_serveBenchGet : Reads serveBenchGet := by
  intro s b
  unfold serveBenchGet
  split
  · rfl
  · split <;> rfl

theorem reads_serveOrderGet : Reads serveOrderGet := by
  intro s id
  unfold serveOrderGet
  split
  · rfl
  · split <;> rfl

theorem reads_serveOrderList : Reads serveOrderList := by
  intro s only
  unfold serveOrderList
  split
  · rfl
  · split <;> rfl

theorem reads_serveCarriageGet : Reads serveCarriageGet := by
  intro s q
  unfold serveCarriageGet
  split
  · rfl
  · split <;> rfl

theorem reads_serveCarriageList : Reads serveCarriageList := by
  intro s q
  unfold serveCarriageList
  split <;> rfl

theorem reads_serveAuthorityGet : Reads serveAuthorityGet := by
  intro s q
  unfold serveAuthorityGet
  split
  · rfl
  · split <;> rfl

theorem reads_serveLineGet : Reads serveLineGet := by
  intro s q
  unfold serveLineGet
  split <;> rfl

theorem reads_serveSegmentGet : Reads serveSegmentGet := by
  intro s a
  unfold serveSegmentGet
  split
  · rfl
  · split <;> rfl

theorem reads_serveSegmentList : Reads serveSegmentList := by
  intro s q
  unfold serveSegmentList
  split <;> rfl

theorem reads_serveGateGet : Reads serveGateGet := by
  intro s a
  unfold serveGateGet
  split
  · rfl
  · split <;> rfl

theorem Reads.keeps {α : Type} {serve : State → α → Served} (h : Reads serve) (s : State) (a : α) : Keeps s (serve s a).state :=
  by rw [h s a]; exact .refl s

/-! ## Requests that write -/

theorem keeps_serveLayoutSet (l : LinkId) (s : State) (e : LayoutEdit) : Keeps s (serveLayoutSet l s e).state := by
  unfold serveLayoutSet
  split
  · exact .refl s
  · split
    · exact .refl s
    · split
      · exact .refl s
      · split
        · exact .refl s
        · exact Keeps.applyEdit s e

theorem keeps_serveModeConfigure (l : LinkId) (s : State) (a : Unit) : Keeps s (serveModeConfigure l s a).state := by
  unfold serveModeConfigure
  split
  · exact .refl s
  · split
    · exact .refl s
    · split
      · exact .refl s
      · have hmode : Keeps s { s with mode := .configuring } := .of_same rfl rfl rfl rfl rfl
        exact hmode.trans ((Within.unwaitAll ..).trans (Within.unwaitAll ..)).keeps

theorem keeps_serveModeRun (l : LinkId) (s : State) (a : Unit) : Keeps s (serveModeRun l s a).state := by
  unfold serveModeRun
  split
  · exact .refl s
  · split
    · exact .refl s
    · split
      · exact .refl s
      · exact keeps_enterRunning s

theorem keeps_serveSave (l : LinkId) (s : State) (a : Unit) : Keeps s (serveSave l s a).state := by
  unfold serveSave
  split
  · exact .refl s
  · split
    · exact .refl s
    · split
      · exact .refl s
      · exact .of_same rfl rfl rfl rfl rfl

theorem keeps_serveArrive (s : State) (a : ArriveArgs) : Keeps s (serveArrive s a).state := by
  unfold serveArrive
  split
  · exact .refl s
  · exact keeps_arrive ..
  · exact .refl s

theorem keeps_serveHandoff (s : State) (b : Nat) : Keeps s (serveHandoff s b).state := by
  unfold serveHandoff
  split
  · exact .refl s
  · split
    · exact .refl s
    · split
      · exact .refl s
      · split
        · exact .refl s
        · exact ((((Within.leaveLane ..).trans (Within.moveBench ..)).trans (Within.offer ..)).trans (Within.oweMouths ..)).keeps

theorem keeps_serveLaneSet (s : State) (a : LaneSetArgs) : Keeps s (serveLaneSet s a).state := by
  unfold serveLaneSet
  split
  · exact .refl s
  · exact (within_laneSet ..).keeps

theorem keeps_serveBenchSet (s : State) (a : BenchSetArgs) : Keeps s (serveBenchSet s a).state := by
  unfold serveBenchSet
  split
  · exact .refl s
  · split
    · exact .refl s
    · exact (Within.modBench ..).keeps

theorem keeps_serveBenchDelete (s : State) (b : Nat) : Keeps s (serveBenchDelete s b).state := by
  unfold serveBenchDelete
  split
  · exact .refl s
  · split
    · exact .refl s
    · split
      · exact .of_same rfl rfl rfl rfl rfl
      · exact .refl s

theorem keeps_serveBenchIdent (s : State) (b : Nat) : Keeps s (serveBenchIdent s b).state := by
  unfold serveBenchIdent
  split
  · exact .refl s
  · split
    · exact .refl s
    · exact (Within.setIdentity ..).keeps

theorem keeps_serveBenchSwap (s : State) (a : BenchSwapArgs) : Keeps s (serveBenchSwap s a).state := by
  unfold serveBenchSwap
  split
  · exact .refl s
  · split
    · split
      · exact .refl s
      · exact (within_swap ..).keeps
    · exact .refl s

theorem keeps_serveBenchSettle (s : State) (a : BenchSettleArgs) : Keeps s (serveBenchSettle s a).state := by
  unfold serveBenchSettle
  split
  · exact .refl s
  · split
    · exact .refl s
    · split
      · exact .refl s
      · split
        · exact (within_settleBench ..).keeps
        · exact .refl s

theorem keeps_serveCancel (l : LinkId) (s : State) (id : Nat) : Keeps s (serveCancel l s id).state := by
  unfold serveCancel
  split
  · exact .refl s
  · split
    · exact .refl s
    · split
      · exact .refl s
      · split
        · exact .refl s
        · exact (within_endAndWithdraw ..).keeps

theorem keeps_serveAbort (s : State) (id : Nat) : Keeps s (serveAbort s id).state := by
  unfold serveAbort
  split
  · exact .refl s
  · split
    · exact .refl s
    · exact (within_abort ..).keeps

theorem keeps_serveClear (s : State) (q : Named CarriageName) : Keeps s (serveClear s q).state := by
  unfold serveClear
  split
  · exact .refl s
  · split
    · exact .refl s
    · split
      · exact .refl s
      · exact (within_clearCarriage ..).keeps

theorem keeps_serveFence (l : LinkId) (s : State) (a : TrackArgs) : Keeps s (serveFence l s a).state := by
  unfold serveFence
  split
  · exact .refl s
  · split
    · exact .refl s
    · split
      · exact .refl s
      · split
        · exact .refl s
        · exact (Within.fence ..).keeps
        · exact (Within.setFence ..).keeps

theorem keeps_serveUnfence (l : LinkId) (s : State) (a : TrackArgs) : Keeps s (serveUnfence l s a).state := by
  unfold serveUnfence
  split
  · exact .refl s
  · split
    · exact .refl s
    · split
      · exact .refl s
      · split
        · exact ((Within.liftFence ..).trans (Within.retry ..)).keeps
        · exact .refl s

theorem keeps_serveHome (s : State) (q : Named CarriageName) : Keeps s (serveHome s q).state := by
  unfold serveHome
  split
  · exact .refl s
  · split
    · exact .refl s
    · split
      · exact .refl s
      · exact .refl s
      · exact .refl s
      · exact .refl s
      · exact (Within.setRehome ..).keeps

theorem keeps_serveDeclare (s : State) (a : DeclareArgs) : Keeps s (serveDeclare s a).state := by
  unfold serveDeclare
  split
  · exact .refl s
  · split
    · exact .refl s
    · split
      · exact .refl s
      · split
        · exact (within_declare ..).keeps
        · exact (within_declare ..).keeps
        · exact .refl s

theorem within_gateIn (s : State) (c : Corridor) (k : Nat) : Within s (s.gateIn c k) := Within.modGate ..

theorem keeps_serveGateService (s : State) (a : GateServiceArgs) : Keeps s (serveGateService s a).state := by
  unfold serveGateService
  split
  · split
    · exact .refl s
    · split
      · exact .refl s
      · split
        · exact (within_gateIn ..).keeps
        · exact (within_gateOut ..).keeps
  · exact .refl s

theorem keeps_serveWatch (l : LinkId) (s : State) (a : WatchArgs) : Keeps s (serveWatch l s a).state := by
  unfold serveWatch
  split
  · exact .refl s
  · split
    · exact .refl s
    · exact keeps_writeSlot ..
    · split
      · exact .refl s
      · exact keeps_writeSlot ..

theorem keeps_serveFetch (l : LinkId) (s : State) (n : Option Nat) : Keeps s (serveFetch l s n).state := by
  refine Keeps.modLink s l (fun k => { k with queue := (s.link l).queue.drop (fetchCount n), lost := 0 }) ?_
  rintro ⟨hqueue, -, hbad, hslots⟩
  refine ⟨?_, Nat.zero_le _, hbad, hslots⟩
  rw [List.length_drop]
  omega

theorem keeps_serveAttention (l : LinkId) (s : State) (w : Named Bool) : Keeps s (serveAttention l s w).state := by
  unfold serveAttention
  split
  · exact .refl s
  · exact Keeps.modLink s l (fun k => { k with attention := _ }) fun h => h

/-! ## Commands -/

theorem keeps_of_next {s u t : State} (h : Host.Outcome.next (φ := Fault) (ρ := Refusal) u = .next t) (hk : Keeps s u) :
    Keeps s t := Host.Outcome.next.inj h ▸ hk

/-- Every command keeps the bounds. -/
theorem keeps_exec (i : Instr) (s t : State) (h : exec i s = .next t) : Keeps s t := by
  cases i with
  | powerOn pins => exact keeps_of_next h ((Keeps.ite (keeps_powerFails ..) (.refl s)).trans (keeps_start ..))
  | status l q => exact keeps_of_next h (Keeps.request _ _ _ _ _ _ (reads_serveStatus l).keeps)
  | layoutGet l q => exact keeps_of_next h (Keeps.request _ _ _ _ _ _ reads_serveLayoutGet.keeps)
  | layoutSet l q => exact keeps_of_next h (Keeps.request _ _ _ _ _ _ (keeps_serveLayoutSet l))
  | modeConfigure l q => exact keeps_of_next h (Keeps.request _ _ _ _ _ _ (keeps_serveModeConfigure l))
  | modeRun l q => exact keeps_of_next h (Keeps.request _ _ _ _ _ _ (keeps_serveModeRun l))
  | save l q => exact keeps_of_next h (Keeps.request _ _ _ _ _ _ (keeps_serveSave l))
  | saveComplete same => exact keeps_of_next h (Keeps.event _ _ fun u => keeps_saveEnds u same)
  | restart l q pins =>
    refine keeps_of_next h (.ite (.refl s) (.ite (Keeps.overrunLine ..) ?_))
    split
    · exact (Keeps.takeLine ..).trans (Keeps.answer ..)
    · exact .ite ((Keeps.takeLine ..).trans (Keeps.answer ..)) ((Keeps.takeLine ..).trans (keeps_restart ..))
  | laneGet l q => exact keeps_of_next h (Keeps.request _ _ _ _ _ _ reads_serveLaneGet.keeps)
  | benchGet l q => exact keeps_of_next h (Keeps.request _ _ _ _ _ _ reads_serveBenchGet.keeps)
  | arrive l q => exact keeps_of_next h (Keeps.request _ _ _ _ _ _ keeps_serveArrive)
  | handoff l q => exact keeps_of_next h (Keeps.request _ _ _ _ _ _ keeps_serveHandoff)
  | laneSet l q => exact keeps_of_next h (Keeps.request _ _ _ _ _ _ keeps_serveLaneSet)
  | benchSet l q => exact keeps_of_next h (Keeps.request _ _ _ _ _ _ keeps_serveBenchSet)
  | benchDelete l q => exact keeps_of_next h (Keeps.request _ _ _ _ _ _ keeps_serveBenchDelete)
  | benchIdent l q => exact keeps_of_next h (Keeps.request _ _ _ _ _ _ keeps_serveBenchIdent)
  | benchSwap l q => exact keeps_of_next h (Keeps.request _ _ _ _ _ _ keeps_serveBenchSwap)
  | benchSettle l q => exact keeps_of_next h (Keeps.request _ _ _ _ _ _ keeps_serveBenchSettle)
  | move l q => exact keeps_of_next h (Keeps.request _ _ _ _ _ _ (keeps_serveMove l))
  | cancel l q => exact keeps_of_next h (Keeps.request _ _ _ _ _ _ (keeps_serveCancel l))
  | abort l q => exact keeps_of_next h (Keeps.request _ _ _ _ _ _ keeps_serveAbort)
  | orderGet l q => exact keeps_of_next h (Keeps.request _ _ _ _ _ _ reads_serveOrderGet.keeps)
  | orderList l q => exact keeps_of_next h (Keeps.request _ _ _ _ _ _ reads_serveOrderList.keeps)
  | clear l q => exact keeps_of_next h (Keeps.request _ _ _ _ _ _ keeps_serveClear)
  | carriageGet l q => exact keeps_of_next h (Keeps.request _ _ _ _ _ _ reads_serveCarriageGet.keeps)
  | carriageList l q => exact keeps_of_next h (Keeps.request _ _ _ _ _ _ reads_serveCarriageList.keeps)
  | fence l q => exact keeps_of_next h (Keeps.request _ _ _ _ _ _ (keeps_serveFence l))
  | unfence l q => exact keeps_of_next h (Keeps.request _ _ _ _ _ _ (keeps_serveUnfence l))
  | segmentGet l q => exact keeps_of_next h (Keeps.request _ _ _ _ _ _ reads_serveSegmentGet.keeps)
  | segmentList l q => exact keeps_of_next h (Keeps.request _ _ _ _ _ _ reads_serveSegmentList.keeps)
  | home l q => exact keeps_of_next h (Keeps.request _ _ _ _ _ _ keeps_serveHome)
  | declare l q => exact keeps_of_next h (Keeps.request _ _ _ _ _ _ keeps_serveDeclare)
  | gateService l q => exact keeps_of_next h (Keeps.request _ _ _ _ _ _ keeps_serveGateService)
  | gateGet l q => exact keeps_of_next h (Keeps.request _ _ _ _ _ _ reads_serveGateGet.keeps)
  | authorityGet l q => exact keeps_of_next h (Keeps.request _ _ _ _ _ _ reads_serveAuthorityGet.keeps)
  | lineGet l q => exact keeps_of_next h (Keeps.request _ _ _ _ _ _ reads_serveLineGet.keeps)
  | watch l q => exact keeps_of_next h (Keeps.request _ _ _ _ _ _ (keeps_serveWatch l))
  | fetch l q => exact keeps_of_next h (Keeps.request _ _ _ _ _ _ (keeps_serveFetch l))
  | attention l q => exact keeps_of_next h (Keeps.request _ _ _ _ _ _ (keeps_serveAttention l))
  | badLine l cause => exact keeps_of_next h (.ite (Keeps.badLineOn ..) (.refl s))
  | overrun l => exact keeps_of_next h (.ite (Keeps.overrunLine ..) (.refl s))
  | answerSent l => exact keeps_of_next h (.ite (Keeps.answerIsSent ..) (.refl s))
  | orderAging id => exact keeps_of_next h (Keeps.event _ _ fun u => keeps_age u id)
  | gateRisingEdge c k mid => exact keeps_of_next h (Keeps.event _ _ fun u => keeps_edgeUp u c k mid)
  | gateFallingEdge c k mid => exact keeps_of_next h (Keeps.event _ _ fun u => keeps_edgeDown u c k mid)
  | stopOpen c mid => exact keeps_of_next h (Keeps.event _ _ fun u => keeps_openLoop u c mid)
  | stopClosed c mid => exact keeps_of_next h (Keeps.event _ _ fun u => keeps_closeLoop u c mid)
  | pollingCycle c => exact keeps_of_next h (.ite ((Keeps.atLeast ..).trans (Keeps.beginCycle ..)) (.refl s))
  | statusAnswer c a => exact keeps_of_next h (.ite (Keeps.answerArrives ..) (.refl s))
  | missedExchange c => exact keeps_of_next h (.ite (Keeps.windowCloses ..) (.refl s))
  | broadcastBrake c => exact keeps_of_next h (.ite (Keeps.sendBroadcast ..) (.refl s))
  | transferTimeout n => exact keeps_of_next h (Keeps.event _ _ fun u => keeps_transferExpires u n)
  | homingTimeout n => exact keeps_of_next h (Keeps.event _ _ fun u => keeps_homingExpires u n)
  | powerLoss cut => exact keeps_of_next h (.ite (keeps_powerFails ..) (.refl s))

/-! ## The clock -/

theorem sample_eq (s : State) : s.sample = { s with gates := s.sample.gates, stops := s.sample.stops } := by
  have hfold : ∀ (c : Corridor) (l : List (Nat × Nat)) (t : State), l.foldl (fun t e =>
      t.modGate c e.1 fun g => { g with samples := g.samples.push (t.inputLevel e.2) }) t =
      { t with gates := (l.foldl (fun t e => t.modGate c e.1 fun g => { g with samples := g.samples.push (t.inputLevel e.2) }) t).gates } := by
    intro c l
    induction l with
    | nil => exact fun _ => rfl
    | cons e rest ih => exact fun t => ih _
  have hcorridor : ∀ (c : Corridor) (t : State), t.sampleOn c = { t with gates := (t.sampleOn c).gates, stops := (t.sampleOn c).stops } := by
    intro c t
    simp only [State.sampleOn]
    rw [hfold]
    rfl
  unfold State.sample
  split
  · rw [hcorridor .t, hcorridor .f]
  · rfl

theorem keeps_tick (s : State) : Keeps s s.tick := by
  simp only [State.tick]
  refine .ite ?_ (.refl s)
  rw [sample_eq]
  exact .of_same rfl rfl rfl rfl rfl

theorem keeps_step (s t : State) (h : step s = .next t) : Keeps s t := by
  unfold step at h
  split at h
  · exact keeps_of_next h (keeps_tick s)
  · have hpending : ∀ l, Keeps s { s with pending := l } := fun _ => .of_same rfl rfl rfl rfl rfl
    exact (hpending _).trans (keeps_exec _ _ _ h)

/-- Settles O5: every write of a link is a notice queued, a port's line or a slot's, each under its bound. -/
theorem linksStayBounded : Obligations.LinksStayBounded := by
  unfold Obligations.LinksStayBounded
  exact fun s t hs h => (keeps_step s t h).links hs

/-- Settles O6: every write of an uncertainty is one kept, one under the ceiling, or a fixed one below it. -/
theorem uncertaintyStaysBounded : Obligations.UncertaintyStaysBounded := by
  unfold Obligations.UncertaintyStaysBounded
  exact fun s t hs h => (keeps_step s t h).uncertainty hs

/-! ## The command at the front -/

/-- Settles O1. -/
theorem stepRunsTheFrontCommand : Obligations.StepRunsTheFrontCommand := by
  unfold Obligations.StepRunsTheFrontCommand
  intro c s
  rfl

end Sys2Proof.Machine
end

section
/-! PROOFS. The inventory requests BENCH SET, BENCH DELETE and BENCH IDENT (R34, R35, R36). -/

namespace Sys2Proof

theorem Table.length_delL_le {α : Type} (l : List (Nat × α)) (n : Nat) : (Table.delL l n).length ≤ l.length := by
  induction l with
  | nil => simp [Table.delL]
  | cons e rest ih =>
    obtain ⟨k, v⟩ := e
    simp only [Table.delL]
    split
    · simp only [List.length_cons]; omega
    · simpa using ih

theorem Table.length_delL_lt {α : Type} (l : List (Nat × α)) (n : Nat) (h : Table.getL l n ≠ none) :
    (Table.delL l n).length < l.length := by
  induction l with
  | nil => exact absurd rfl h
  | cons e rest ih =>
    obtain ⟨k, v⟩ := e
    simp only [Table.getL] at h
    simp only [Table.delL]
    split
    · have := Table.length_delL_le rest n
      simp only [List.length_cons]; omega
    · rename_i hk
      rw [if_neg hk] at h
      simpa using ih h

theorem Table.length_del_lt {α : Type} (t : Table α) (n : Nat) (h : t.get? n ≠ none) :
    (t.del n).entries.length < t.entries.length := Table.length_delL_lt t.entries n h

namespace Machine

/-! ## What a block answers at once -/

/-- A refusal of a block is what the port answers. -/
theorem request_refuses {α : Type} {s : State} {l : LinkId} {w : ReqWord} {form : α → Bool} {serve : State → α → Served} {a : α}
    {st : Status} (h : Asks s l w) (hf : form a = true) (hr : w = .move → s.mode = .running)
    (hs : serve (s.takeLine l w) a = refuse (s.takeLine l w) st) :
    request s l w form (.args a) serve = s.replied l w (.refuse st) :=
  request_replied s l w form serve a _ h hf hr hs

@[simp] theorem State.takeLine_bench? (s : State) (l : LinkId) (w : ReqWord) (b : Nat) : (s.takeLine l w).bench? b = s.bench? b := rfl

theorem State.modBench_of_some {s : State} {b : Nat} {v : Bench} (h : s.bench? b = some v) (g : Bench → Bench) :
    s.modBench b g = s.setBench b (g v) := by
  simp only [State.modBench, h]

/-- A request that answers OK and writes one bench record. -/
theorem request_setsBench {α : Type} {s : State} {l : LinkId} {w : ReqWord} {form : α → Bool} {serve : State → α → Served} {a : α}
    {b : Nat} {v : Bench} {r : Reply} (h : Asks s l w) (hf : form a = true) (hr : w = .move → s.mode = .running)
    (hs : serve (s.takeLine l w) a = ⟨(s.takeLine l w).setBench b v, some r⟩) :
    request s l w form (.args a) serve = (s.setBench b v).replied l w r :=
  request_exact s l w form serve a _ r h hf hr hs h.1.2.2 fun _ => rfl

/-! ## BENCH SET -/

theorem optRange_iff (f : Nat → Bool) (o : Option Nat) : optRange f o = true ↔ ∀ x, o = some x → f x = true := by
  cases o <;> simp [optRange]

theorem benchSetOk_iff (a : BenchSetArgs) : benchSetOk a = true ↔
    (1 ≤ a.bench ∧ a.bench ≤ 4000) ∧ (∀ x, a.batch = some x → x ≤ 65535) ∧ a.readiness ≠ some .unknown ∧ a.reference ≠ some .unknown ∧
    ∀ x, a.reference = some (.known (some x)) → 1 ≤ x ∧ x ≤ 999999 := by
  obtain ⟨bench, batch, readiness, reference⟩ := a
  rcases readiness with _ | _ | r <;> rcases reference with _ | _ | _ | x <;>
    simp [benchSetOk, benchNo_iff, optRange_iff, word16_iff, referenceNo_iff, Named.val?, and_assoc]

theorem benchMarks_eq (a : BenchSetArgs) (v : Bench) : benchMarks a v =
    { v with
      batch := (match a.batch with | some x => x | none => v.batch)
      readiness := (match a.readiness with | some (.known r) => r | _ => v.readiness)
      reference := (match a.reference with | some (.known r) => r | _ => v.reference) } := by
  obtain ⟨bench, batch, readiness, reference⟩ := a
  cases batch <;> rcases readiness with _ | _ | r <;> rcases reference with _ | _ | r <;> rfl

/-- Settles O31: the values of a BENCH SET are judged one by one, and the marks it leaves are the named fields. -/
theorem benchSetChangesTheNamedFields : Obligations.BenchSetChangesTheNamedFields := by
  refine ⟨benchSetOk_iff, fun s l a h hf => congrArg Host.Outcome.next ?_⟩
  by_cases hok : benchSetOk a = true
  · rw [if_neg (by simp [hok])]
    cases hb : s.bench? a.bench with
    | none => exact request_refuses h hf nofun (by simp [serveBenchSet, hok, hb])
    | some v =>
      refine (request_setsBench (v := benchMarks a v) h hf nofun ?_).trans (by rw [benchMarks_eq]; rfl)
      simp [serveBenchSet, okWith, hok, hb, State.modBench_of_some (show (s.takeLine l .benchSet).bench? a.bench = some v from hb)]
  · rw [if_pos (by simpa using hok)]
    exact request_refuses h hf nofun (by simp [serveBenchSet, hok])

/-! ## BENCH DELETE and BENCH IDENT -/

theorem benchNo_of_not {b : Nat} (h : ¬ (b < 1 ∨ 4000 < b)) : benchNo b = true := (benchNo_iff b).mpr (by omega)

/-- Settles O32: by the range, then by the record and its place; a deleted key is gone from the table. -/
theorem benchDeleteRemovesTheRecord : Obligations.BenchDeleteRemovesTheRecord := by
  intro s l b h hf
  refine ⟨congrArg Host.Outcome.next ?_, by simp, fun m hm => by simp [hm], Table.length_del_lt _ _⟩
  by_cases hb : b < 1 ∨ 4000 < b
  · rw [if_pos hb]
    exact request_refuses h hf nofun (by simp [serveBenchDelete, (benchNo_false b).mpr hb])
  rw [if_neg hb]
  cases hv : s.bench? b with
  | none => exact request_refuses h hf nofun (by simp [serveBenchDelete, benchNo_of_not hb, hv])
  | some v =>
    simp only []
    by_cases hp : v.place = .outside
    · rw [if_pos hp]
      exact request_exact s l _ numberOk serveBenchDelete b { s.takeLine l .benchDelete with benches := s.benches.del b } _ h hf nofun
        (by simp [serveBenchDelete, benchNo_of_not hb, hv, hp, okWith]; rfl) h.1.2.2 fun _ => rfl
    · rw [if_neg hp]
      exact request_refuses h hf nofun (by simp [serveBenchDelete, benchNo_of_not hb, hv, hp])

/-- Settles O33: by the range, then by the record; VERIFIED stands in its identity. -/
theorem benchIdentVerifies : Obligations.BenchIdentVerifies := by
  intro s l b h hf
  refine congrArg Host.Outcome.next ?_
  by_cases hb : b < 1 ∨ 4000 < b
  · rw [if_pos hb]
    exact request_refuses h hf nofun (by simp [serveBenchIdent, (benchNo_false b).mpr hb])
  rw [if_neg hb]
  cases hv : s.bench? b with
  | none => exact request_refuses h hf nofun (by simp [serveBenchIdent, benchNo_of_not hb, hv])
  | some v =>
    exact request_setsBench h hf nofun
      (by simp [serveBenchIdent, State.setIdentity, okWith, benchNo_of_not hb, hv,
        State.modBench_of_some (show (s.takeLine l .benchIdent).bench? b = some v from hv)])

end Machine
end Sys2Proof
end

section
/-! PROOFS. ARRIVE and HANDOFF (R31, R32): their refusals in order, and what an accepted one writes and offers. -/

namespace Sys2Proof.Machine

/-! ## Tables of refusals -/

/-- One row of a table of refusals, as a test decides it. -/
theorem FirstRefusal.row {w : Status} {p b : Prop} [Decidable b] {rest : List (Status × Prop)} {r : Option Status} (hb : b ↔ p)
    (h : ¬ p → FirstRefusal rest r) : FirstRefusal ((w, p) :: rest) (if b then some w else r) :=
  ⟨fun hp => if_pos (hb.mpr hp), fun hp => by rw [if_neg (mt hb.mp hp)]; exact h hp⟩

theorem optRange_false (f : Nat → Bool) (o : Option Nat) : optRange f o = false ↔ ∃ x, o = some x ∧ f x = false := by
  cases o <;> simp [optRange]

theorem word16_false (n : Nat) : word16 n = false ↔ 65535 < n := by simp [word16, inRange]

theorem referenceNo_false (n : Nat) : referenceNo n = false ↔ n < 1 ∨ 999999 < n := inRange_false ..

theorem laneFull_iff (s : State) (k : Nat) : s.laneFull k = true ↔ ∃ it, s.laneItem k = some it ∧
    it.capacity ≤ (s.lane k).benches.length + (s.straddlers k).length + (s.lane k).incoming := by
  unfold State.laneFull State.held
  split <;> simp_all

theorem isStation_iff (s : State) (k : Nat) (r : StationRole) : s.isStation k r = true ↔
    ∃ it, s.laneItem k = some it ∧ it.kind = .station ∧ it.role = some r := by
  unfold State.isStation
  split <;> simp_all

theorem claimOf_isSome_iff (s : State) (b : Nat) : (s.claimOf b).isSome = true ↔ ∃ v, s.bench? b = some v ∧ v.claim ≠ none := by
  unfold State.claimOf
  cases s.bench? b <;> simp [Option.isSome_iff_ne_none]

/-! ## Runs owed at the mouths of a lane -/

theorem State.mouth_of_layout {s t : State} (h : t.layout = s.layout) (k : Nat) (c : Corridor) : t.mouth k c = s.mouth k c := by
  simp only [State.mouth, h]

/-- Where nothing was owed before, just the corridors on which the lane has a mouth are owed a run (R69). -/
theorem oweMouths_eq (s : State) (k : Nat) (h : NothingOwed s) :
    s.oweMouths k = { s with owed := ⟨decide (s.mouth k .f ≠ none), decide (s.mouth k .t ≠ none)⟩ } := by
  have hs : s = { s with owed := ⟨false, false⟩ } := by rw [← h]
  have ht : (s.owe .f).mouth k .t = s.mouth k .t := rfl
  have howed : s.owed = ⟨false, false⟩ := h
  unfold State.oweMouths
  cases hf : s.mouth k .f <;> cases hm : s.mouth k .t <;>
    simp only [ht, hm, Option.isSome_none, Option.isSome_some, Bool.false_eq_true, if_true, if_false, ne_eq, not_true_eq_false,
      reduceCtorEq, not_false_eq_true, decide_true, decide_false]
  · exact hs
  all_goals simp only [State.owe, howed, Two.set]

theorem stationCorridor_eq (s : State) (k : Nat) : s.stationCorridor k =
    if s.mouth k .f ≠ none then some .f else if s.mouth k .t ≠ none then some .t else none := by
  simp only [State.stationCorridor, Option.isSome_iff_ne_none]

/-- Only the links' queues and lost counts change when an event is offered (R166). -/
theorem offer_fields (s : State) (o : Offer) : s.offer o = { s with links := (s.offer o).links } := by
  have hone (t : State) (l : LinkId) : t.offerOn o l = { t with links := (t.offerOn o l).links } := by
    unfold State.offerOn
    split
    · rfl
    · simp only []
      split <;> rfl
  unfold State.offer
  rw [hone ((s.offerOn o .l1).offerOn o .l2), hone (s.offerOn o .l1), hone s]

theorem val?_isSome_false {α : Type} (w : Named α) : w.val?.isSome = false ↔ w = .unknown := by
  cases w <;> simp [Named.val?]

/-! ## ARRIVE -/

theorem arriveRefusal_spec (s : State) (a : ArriveArgs) : FirstRefusal (arriveTable s a) (arriveRefusal s a) := by
  refine .row ?_ fun hrange => .row ?_ fun hitem => .row ?_ fun hsource => .row ?_ fun _ => .row ?_ fun _ => .row ?_ fun _ => ?_
  · simp only [Bool.not_eq_true', Bool.and_eq_false_iff, benchNo_false, laneNo_false, word16_false, optRange_false, referenceNo_false,
      val?_isSome_false, or_assoc]
  · simp
  · rw [Bool.not_eq_true', ← Bool.not_eq_true, isStation_iff]
    cases hl : s.laneItem a.lane with
    | none => exact absurd hl hitem
    | some it => simp; grind
  · exact claimOf_isSome_iff ..
  · cases s.bench? a.bench <;> simp
  · exact laneFull_iff ..
  · refine .row ?_ fun _ => rfl
    rw [Bool.and_eq_true, Option.isNone_iff_eq_none, decide_eq_true_iff]
    rfl

/-- A request that its block serves: the port answers after the block's event ends. -/
theorem request_serves {α : Type} {s : State} {l : LinkId} {w : ReqWord} {form : α → Bool} {serve : State → α → Served} {a : α}
    {u : State} {r : Reply} (h : Asks s l w) (hf : form a = true) (hr : w = .move → s.mode = .running)
    (hs : serve (s.takeLine l w) a = ⟨u, some r⟩) :
    request s l w form (.args a) serve = ((s.takeLine l w).finish u).answer l w r := by
  rw [request_served s l w form serve _ a h.1 (portJudges_ok (s.takeLine l w) l w form a hf h.2 hr)]
  simp only [served, hs]

theorem runsOnly_finish_answer {s t u : State} {l : LinkId} {w : ReqWord} {r : Reply} (h : RunsOnly s u) :
    RunsOnly (s.answer l w r) ((t.finish u).answer l w r) := (h.trans (.finish t u)).answer l w r

/-- What ARRIVE writes: the record and the lane's list (R31). -/
def State.withArrived (s : State) (a : ArriveArgs) (r : Readiness) : State :=
  { s with
    benches := s.benches.put a.bench ⟨a.batch, r, a.reference, .inLane a.lane, .verified, none, s.seconds⟩
    lanes := s.lanes.put a.lane { s.lane a.lane with benches := (s.lane a.lane).benches ++ [a.bench] } }

theorem arrive_eq (s : State) (a : ArriveArgs) (r : Readiness) : s.arrive a r =
    ((s.withArrived a r).offer ⟨.arrived a.lane a.bench, s.stationCorridor a.lane, some a.lane, some a.bench, none⟩).oweMouths a.lane :=
  rfl

/-- ARRIVE is refused, or accepted with a readiness in its words. -/
theorem arriveRefusal_eq_none (s : State) (a : ArriveArgs) (r : Readiness) (it : LaneItem)
    (hb : 1 ≤ a.bench ∧ a.bench ≤ 4000) (hk : 1 ≤ a.lane ∧ a.lane ≤ 120) (hbatch : a.batch ≤ 65535) (hr : a.readiness = .known r)
    (href : ∀ x, a.reference = some x → 1 ≤ x ∧ x ≤ 999999) (hit : s.laneItem a.lane = some it) (hkind : it.kind = .station)
    (hrole : it.role = some .source) (hv : ∀ v, s.bench? a.bench = some v → v.claim = none ∧ v.place = .outside)
    (hroom : (s.lane a.lane).benches.length + (s.straddlers a.lane).length + (s.lane a.lane).incoming < it.capacity)
    (hfull : s.bench? a.bench ≠ none ∨ s.benches.entries.length < 2000) : arriveRefusal s a = none := by
  obtain ⟨-, h⟩ := arriveRefusal_spec s a
  obtain ⟨-, h⟩ := h (by
    rintro (h | h | h | h | h | h | ⟨x, hx, h⟩)
    · omega
    · omega
    · omega
    · omega
    · omega
    · simp [hr] at h
    · have := href x hx; omega)
  obtain ⟨-, h⟩ := h (by simp [hit])
  obtain ⟨-, h⟩ := h (fun h => by have := h it hit; simp [hkind, hrole] at this)
  obtain ⟨-, h⟩ := h (fun ⟨v, hb, hc⟩ => hc (hv v hb).1)
  obtain ⟨-, h⟩ := h (fun ⟨v, hb, hp⟩ => hp (hv v hb).2)
  obtain ⟨-, h⟩ := h (fun ⟨it', hit', hc⟩ => by
    obtain rfl : it = it' := Option.some.inj (hit.symm.trans hit')
    omega)
  exact h fun ⟨hn, hc⟩ => hfull.elim (fun h => h hn) (fun h => by omega)

theorem serveArrive_accepted {s : State} {a : ArriveArgs} {r : Readiness} (h : arriveRefusal s a = none) (hr : a.readiness = .known r) :
    serveArrive s a = okWith (s.arrive a r) [.num (s.lane a.lane).benches.length] := by
  simp only [serveArrive, h, hr]

/-- An event offered after the tables are written, and the runs it owes at the lane's mouths. -/
theorem offer_oweMouths_eq (s v : State) (o : Offer) (k : Nat) (hs : NothingOwed v) (hl : v.layout = s.layout) :
    (v.offer o).oweMouths k =
      { v.offer o with owed := ⟨decide (s.mouth k .f ≠ none), decide (s.mouth k .t ≠ none)⟩ } := by
  have hlayout : (v.offer o).layout = s.layout := by rw [offer_fields]; exact hl
  rw [oweMouths_eq _ _ (by rw [NothingOwed, offer_fields]; exact hs), State.mouth_of_layout hlayout, State.mouth_of_layout hlayout]

/-- Settles O28: the refusals row by row; an accepted ARRIVE writes, offers ARRIVED and owes the runs at the lane's mouths. -/
theorem arriveRegistersTheBench : Obligations.ArriveRegistersTheBench := by
  refine ⟨arriveRefusal_spec, fun s l a h hf => ⟨fun w hw => congrArg Host.Outcome.next ?_, ?_⟩⟩
  · have hserve : serveArrive (s.takeLine l .arrive) a = refuse (s.takeLine l .arrive) w := by
      have hrefusal : arriveRefusal (s.takeLine l .arrive) a = some w := hw
      simp only [serveArrive, hrefusal]
    exact request_refuses h hf nofun hserve
  · intro r it h1 h2 h3 h4 h5 hr h6 hit hkind hrole hv hroom hfull
    have hnone : arriveRefusal (s.takeLine l .arrive) a = none :=
      arriveRefusal_eq_none s a r it ⟨h1, h2⟩ ⟨h3, h4⟩ h5 hr h6 hit hkind hrole hv hroom hfull
    have hserves := request_serves h hf nofun (serveArrive_accepted hnone hr)
    refine ⟨_, congrArg Host.Outcome.next hserves, ?_, runsOnly_finish_answer ((RunsOnly.offer _ _).trans (.oweMouths _ _))⟩
    rintro u v c rfl rfl rfl
    rw [arrive_eq, offer_oweMouths_eq s _ _ _ (by exact h.1.2.2) (by rfl), stationCorridor_eq]
    rfl

/-! ## HANDOFF -/

theorem sinkOf_of_inLane {s : State} {b : Nat} {v : Bench} {k : Nat} (hv : s.bench? b = some v) (hp : v.place = .inLane k) :
    s.sinkOf b = if s.isStation k .sink then some k else none := by
  simp only [State.sinkOf, hv, Option.map_some, hp]

theorem sinkOf_eq_none {s : State} {b : Nat} {v : Bench} (hv : s.bench? b = some v)
    (hp : ∀ k, v.place = .inLane k → s.isStation k .sink = false) : s.sinkOf b = none := by
  cases hplace : v.place with
  | inLane k => rw [sinkOf_of_inLane hv hplace, hp k hplace]; rfl
  | _ => simp only [State.sinkOf, hv, Option.map_some, hplace]

/-- What HANDOFF writes: the bench OUTSIDE with a fresh stamp, out of the lane's list (R32). -/
def State.withDeparted (s : State) (k b : Nat) (v : Bench) : State :=
  { s with
    benches := s.benches.put b { v with place := .outside, lastMoved := s.seconds }
    lanes := s.lanes.put k { s.lane k with benches := (s.lane k).benches.erase b } }

theorem leaveLane_moveBench_outside {s : State} {k b : Nat} {v : Bench} (hv : s.bench? b = some v) :
    (s.leaveLane k b).moveBench b .outside = s.withDeparted k b v :=
  State.modBench_of_some (show (s.leaveLane k b).bench? b = some v from hv) _

/-- Settles O29: by range, record, place and the bars; an accepted HANDOFF writes, offers DEPARTED and owes the runs
at the station's mouths. -/
theorem handoffTakesTheBenchOut : Obligations.HandoffTakesTheBenchOut := by
  intro s l b h hf
  refine ⟨fun hb => congrArg Host.Outcome.next (request_refuses h hf nofun ?_), fun h1 h2 => ?_⟩
  · simp [serveHandoff, (benchNo_false b).mpr hb]
  have hbench : benchNo b = true := (benchNo_iff b).mpr ⟨h1, h2⟩
  refine ⟨fun hnone => congrArg Host.Outcome.next (request_refuses h hf nofun ?_), fun v hv => ⟨fun hplace => ?_, fun k hk hstation => ?_⟩⟩
  · simp [serveHandoff, hbench, hnone]
  · have hsink : (s.takeLine l .handoff).sinkOf b = none := sinkOf_eq_none (s := s.takeLine l .handoff) hv hplace
    exact congrArg Host.Outcome.next (request_refuses h hf nofun (by simp [serveHandoff, hbench, hv, hsink]))
  have hsink : (s.takeLine l .handoff).sinkOf b = some k := by
    rw [sinkOf_of_inLane (s := s.takeLine l .handoff) hv hk]; exact if_pos hstation
  have hclaim : (s.takeLine l .handoff).claimOf b = v.claim := by
    rw [State.claimOf, State.takeLine_bench?, hv]; rfl
  have htransfer : (s.takeLine l .handoff).transferringAt k = s.transferringAt k := rfl
  have hlane : (s.takeLine l .handoff).lane k = s.lane k := rfl
  refine ⟨fun hbar => congrArg Host.Outcome.next (request_refuses h hf nofun ?_), fun hc ht ho => ?_⟩
  · have hbar' : v.claim.isSome = true ∨ s.transferringAt k = true ∨ (s.lane k).outgoing = (s.lane k).benches.length := by
      rwa [Option.isSome_iff_ne_none]
    simp [serveHandoff, hbench, hv, hsink, hclaim, htransfer, hlane, or_assoc, hbar']
  · have hserve : serveHandoff (s.takeLine l .handoff) b =
        okWith ((((s.takeLine l .handoff).withDeparted k b v).offer
          ⟨.departed k b, s.stationCorridor k, some k, some b, none⟩).oweMouths k) [] := by
      rw [← leaveLane_moveBench_outside (s := s.takeLine l .handoff) hv]
      simp [serveHandoff, hbench, hv, hsink, hclaim, htransfer, hlane, hc, ht, ho]
      rfl
    refine ⟨_, congrArg Host.Outcome.next (request_serves h hf nofun hserve), ?_,
      runsOnly_finish_answer ((RunsOnly.offer _ _).trans (.oweMouths _ _))⟩
    rintro u w c rfl rfl rfl
    rw [offer_oweMouths_eq s _ _ _ (by exact h.1.2.2) (by rfl), stationCorridor_eq]
    rfl

end Sys2Proof.Machine
end

section
/-! PROOFS. BENCH SWAP and BENCH SETTLE (R37, R38): what an accepted request writes, read off the unit after its event ends. -/

namespace Sys2Proof

theorem Table.putL_putL {α : Type} (l : List (Nat × α)) (n : Nat) (v w : α) :
    Table.putL (Table.putL l n v) n w = Table.putL l n w := by
  induction l with
  | nil => simp [Table.putL]
  | cons e rest ih =>
    obtain ⟨k, x⟩ := e
    by_cases hlt : n < k
    · simp [Table.putL, hlt]
    · by_cases heq : n = k
      · simp [Table.putL, heq]
      · simp [Table.putL, hlt, heq, ih]

/-- The later of two entries put under one key stands. -/
theorem Table.put_put {α : Type} (t : Table α) (n : Nat) (v w : α) : (t.put n v).put n w = t.put n w :=
  congrArg Table.mk (Table.putL_putL t.entries n v w)

namespace Machine

/-! ## What is read off an accepted request -/

/-- An accepted request: the unit after it, seen from the state its block wrote. -/
theorem request_accepted {α : Type} {s : State} {l : LinkId} {w : ReqWord} {form : α → Bool} {serve : State → α → Served} {a : α}
    {u v : State} {r : Reply} (h : Asks s l w) (hf : form a = true) (hr : w = .move → s.mode = .running)
    (hs : serve (s.takeLine l w) a = ⟨v, some r⟩) (huv : RunsOnly u v) :
    RunsOnly (u.answer l w r) (request s l w form (.args a) serve) := by
  rw [request_serves h hf hr hs]
  exact runsOnly_finish_answer huv

/-- The answer that stands on the line (R175, R179). -/
theorem RunsOnly.answer_line {u t : State} {l : LinkId} {w : ReqWord} {r : Reply} (h : RunsOnly (u.answer l w r) t) :
    (t.link l).answer = some ⟨w, r.status, r.fields, (u.link l).overrun, r.notices⟩ := by
  rw [h.calm.answer l]
  simp only [State.answer, State.link, State.modLink, Three.get_set, if_true]

@[simp] theorem State.answer_still (s : State) (l : LinkId) (w : ReqWord) (r : Reply) : (s.answer l w r).still = s.still := rfl
@[simp] theorem State.answer_lane (s : State) (l : LinkId) (w : ReqWord) (r : Reply) (k : Nat) : (s.answer l w r).lane k = s.lane k := rfl
@[simp] theorem State.answer_car (s : State) (l : LinkId) (w : ReqWord) (r : Reply) (n : CarriageName) :
    (s.answer l w r).car n = s.car n := rfl
@[simp] theorem State.answer_book (s : State) (l : LinkId) (w : ReqWord) (r : Reply) : (s.answer l w r).book = s.book := rfl
@[simp] theorem State.takeLine_lane (s : State) (l : LinkId) (w : ReqWord) (k : Nat) : (s.takeLine l w).lane k = s.lane k := rfl
@[simp] theorem State.takeLine_car (s : State) (l : LinkId) (w : ReqWord) (n : CarriageName) : (s.takeLine l w).car n = s.car n := rfl
@[simp] theorem State.takeLine_laneItem (s : State) (l : LinkId) (w : ReqWord) (k : Nat) :
    (s.takeLine l w).laneItem k = s.laneItem k := rfl
@[simp] theorem State.takeLine_isBay (s : State) (l : LinkId) (w : ReqWord) (k : Nat) : (s.takeLine l w).isBay k = s.isBay k := rfl

theorem State.takeLine_overrun (s : State) (l : LinkId) (w : ReqWord) : ((s.takeLine l w).link l).overrun = (s.link l).overrun := by
  simp only [State.takeLine, State.link, State.modLink, Three.get_set, if_true]

/-! ## BENCH SWAP -/

/-- Every carriage record of a list rewritten, one after another. -/
def rewriteCars (g : Carriage → Carriage) (l : List CarriageName) (x : Six Carriage) : Six Carriage :=
  l.foldl (fun y c => y.set c (g (y.get c))) x

/-- Carriage records written one after another change no other table. -/
theorem foldl_modCar_fields (g : Carriage → Carriage) (l : List CarriageName) (s : State) :
    l.foldl (fun t c => t.modCar c g) s = { s with carriages := rewriteCars g l s.carriages } := by
  induction l generalizing s with
  | nil => rfl
  | cons c rest ih => exact ih (s.modCar c g)

theorem rewriteCars_get (g : Carriage → Carriage) (l : List CarriageName) (x : Six Carriage) (n : CarriageName) (hl : l.Nodup) :
    (rewriteCars g l x).get n = if n ∈ l then g (x.get n) else x.get n := by
  induction l generalizing x with
  | nil => rfl
  | cons c rest ih =>
    rw [List.nodup_cons] at hl
    have hrest := ih (x.set c (g (x.get c))) hl.2
    rw [rewriteCars, List.foldl_cons, ← rewriteCars, hrest, Six.get_set]
    by_cases hc : n = c
    · subst hc; simp [hl.1]
    · simp [hc]

theorem rewriteCars_all (g : Carriage → Carriage) (x : Six Carriage) (n : CarriageName) :
    (rewriteCars g CarriageName.all x).get n = g (x.get n) := by
  rw [rewriteCars_get g _ x n (by decide), if_pos (by cases n <;> decide)]

theorem RunsOnly.owePlace (s : State) (p : Place) : RunsOnly s (s.owePlace p) := by
  cases p with
  | inLane l => exact .oweMouths s l
  | aboard n => exact .owe s _
  | _ => exact .refl s

/-- What BENCH SWAP writes: numbers exchanged in lists and loads, places exchanged in the records (R37). -/
def State.withSwapped (s : State) (n m : Nat) (x y : Bench) (i j : Nat) : State :=
  { s with
    lanes := s.lanes.mapValues fun _ v => { v with benches := v.benches.map (swapNumber n m) }
    carriages := rewriteCars (fun v => { v with load := swapLoad n m v.load }) CarriageName.all s.carriages
    benches := (s.benches.put n { x with place := y.place, identity := .verified, lastMoved := i }).put m
      { y with place := x.place, identity := .verified, lastMoved := j } }

/-- The stamp of a swapped bench: the seconds count, where one of the two had a place (R26). -/
def swapStamp (now : Nat) (x y : Bench) (old : Nat) : Nat := if x.place = .outside ∧ y.place = .outside then old else now

theorem swap_eq (s : State) (n m : Nat) (x y : Bench) : s.swap n m x y =
    ((s.withSwapped n m x y (swapStamp s.seconds x y x.lastMoved) (swapStamp s.seconds x y y.lastMoved)).owePlace x.place).owePlace
      y.place := by
  simp only [State.swap]
  rw [foldl_modCar_fields]
  rfl

theorem withSwapped_lane (s : State) (n m : Nat) (x y : Bench) (i j k : Nat) : (s.withSwapped n m x y i j).lane k =
    { s.lane k with benches := (s.lane k).benches.map (swapNumber n m) } := by
  simp only [State.lane, State.withSwapped, Table.get?_mapValues]
  cases s.lanes.get? k <;> rfl

theorem withSwapped_car (s : State) (n m : Nat) (x y : Bench) (i j : Nat) (c : CarriageName) :
    (s.withSwapped n m x y i j).car c = { s.car c with load := swapLoad n m (s.car c).load } := by
  exact rewriteCars_all _ s.carriages c

/-- Settles O34: by range, records and bars; an accepted BENCH SWAP is read off the state it writes. -/
theorem benchSwapExchangesPlaces : Obligations.BenchSwapExchangesPlaces := by
  intro s l n m h hn hm
  have hf : BenchSwapArgs.form ⟨n, m⟩ = true := by simp [BenchSwapArgs.form, hn, hm]
  refine ⟨fun hrange => congrArg Host.Outcome.next (request_refuses h hf nofun ?_), fun hn1 hn2 hm1 hm2 hne => ?_⟩
  · have hbad : (!benchNo n || !benchNo m || decide (n = m)) = true := by
      simp only [Bool.or_eq_true, Bool.not_eq_true', benchNo_false, decide_eq_true_eq]; grind
    simp only [serveBenchSwap, hbad, if_true]
  have hok : (!benchNo n || !benchNo m || decide (n = m)) = false := by
    simp [(benchNo_iff n).mpr ⟨hn1, hn2⟩, (benchNo_iff m).mpr ⟨hm1, hm2⟩, hne]
  refine ⟨fun hnone => congrArg Host.Outcome.next (request_refuses h hf nofun ?_), fun x y hx hy => ⟨fun hbar => ?_, fun hxb hyb => ?_⟩⟩
  · rcases hnone with hnone | hnone
    · simp [serveBenchSwap, hok, hnone]
    · cases hv : s.bench? n <;> simp [serveBenchSwap, hok, hnone, hv]
  · have hbars : ((s.takeLine l .benchSwap).swapBars x || (s.takeLine l .benchSwap).swapBars y) = true := by
      rw [Bool.or_eq_true]; exact hbar
    exact congrArg Host.Outcome.next (request_refuses h hf nofun (by simp [serveBenchSwap, hok, hx, hy, hbars]))
  · have hbars : ((s.takeLine l .benchSwap).swapBars x || (s.takeLine l .benchSwap).swapBars y) = false := by
      rw [Bool.or_eq_false_iff]; exact ⟨hxb, hyb⟩
    have hserve : serveBenchSwap (s.takeLine l .benchSwap) ⟨n, m⟩ = okWith ((s.takeLine l .benchSwap).swap n m x y) [] := by
      simp [serveBenchSwap, hok, hx, hy, hbars]
    rw [swap_eq] at hserve
    have hruns := request_accepted h hf nofun hserve ((RunsOnly.owePlace _ x.place).trans (.owePlace _ y.place))
    refine ⟨_, _, _, congrArg Host.Outcome.next rfl, hruns.calm.still, ?_, ?_, ?_, hruns.calm.orders, fun k => ?_, fun c => ?_⟩
    · intro hp
      have : ¬ (x.place = .outside ∧ y.place = .outside) := by grind
      exact ⟨if_neg this, if_neg this⟩
    · exact fun hx hy => ⟨if_pos ⟨hx, hy⟩, if_pos ⟨hx, hy⟩⟩
    · exact hruns.answer_line.trans (by rw [← s.takeLine_overrun l .benchSwap]; rfl)
    · have hlane := withSwapped_lane (s.takeLine l .benchSwap) n m x y
      exact ⟨(hruns.calm.list k).trans (by rw [State.answer_lane, hlane]; rfl), (hruns.calm.incoming k).trans (by rw [State.answer_lane, hlane]; rfl),
        (hruns.calm.outgoing k).trans (by rw [State.answer_lane, hlane]; rfl), (hruns.calm.lock k).trans (by rw [State.answer_lane, hlane]; rfl)⟩
    · refine (hruns.calm.cars c).trans ?_
      rw [State.answer_car, withSwapped_car, State.takeLine_car]
      cases hload : (s.car c).load <;> simp [Carriage.stand, swapLoad, swapNumber, hload]

/-! ## The lane lock -/

theorem map_stand_of_modified (id : Nat) (book : List Order) (g : Order → Order) (hg : ∀ o, (g o).stand = o.stand) :
    (book.map fun o => if o.id = id then g o else o).map Order.stand = book.map Order.stand := by
  rw [List.map_map]
  refine List.map_congr_left fun o _ => ?_
  simp only [Function.comp]
  split
  · exact hg o
  · rfl

/-- A transfer that starts writes carriage records, their loads kept, and phases of orders (R132). -/
theorem startTransfer_shape (s : State) (n : CarriageName) :
    ∃ cars book, s.startTransfer n = { s with carriages := cars, book := book } ∧ (∀ m, (cars.get m).load = (s.car m).load) ∧
      book.map Order.stand = s.book.map Order.stand := by
  simp only [State.startTransfer]
  split
  · split
    · refine ⟨_, _, rfl, fun m => ?_, ?_⟩
      · simp only [State.car, State.modCar, State.setCar, Six.get_set]
        split
        · rename_i h; rw [h]
        · rfl
      · exact map_stand_of_modified _ s.book _ (by intro _; rfl)
    · exact ⟨_, _, rfl, fun _ => rfl, rfl⟩
  · exact ⟨_, _, rfl, fun _ => rfl, rfl⟩

theorem State.lane_setLane (s : State) (k j : Nat) (v : Lane) : (s.setLane k v).lane j = if j = k then v else s.lane j := by
  simp only [State.lane, State.setLane, Table.get?_put]
  split <;> rfl

/-- The release of a lane's lock writes the lock and the waiting carriage of a BAY lane, and what the start of a transfer writes (R130). -/
theorem releaseLock_shape (s : State) (k : Nat) :
    ∃ cars book lanes, s.releaseLock k = { s with carriages := cars, book := book, lanes := lanes } ∧
      (∀ m, (cars.get m).load = (s.car m).load) ∧ book.map Order.stand = s.book.map Order.stand ∧
      ∀ j, (lanes.get? j).getD Lane.blank =
        if j = k ∧ s.isBay k = true then
          { s.lane k with lock := (s.lane k).waiting.map CarriageName.corridor, waiting := none }
        else s.lane j := by
  have hput (v : Lane) (j : Nat) : ((s.lanes.put k v).get? j).getD Lane.blank = if j = k then v else s.lane j := s.lane_setLane k j v
  unfold State.releaseLock
  split
  · rename_i hbay
    split
    · rename_i w hw
      obtain ⟨cars, book, heq, hload, hbook⟩ :=
        startTransfer_shape (s.modLane k fun v => { v with lock := some w.corridor, waiting := none }) w
      refine ⟨cars, book, _, heq.trans rfl, hload, hbook, fun j => (hput _ j).trans ?_⟩
      simp [hbay, hw]
    · rename_i hw
      refine ⟨_, _, _, rfl, fun _ => rfl, rfl, fun j => (hput _ j).trans ?_⟩
      simp [hbay, hw]
  · rename_i hbay
    exact ⟨_, _, _, rfl, fun _ => rfl, rfl, fun j => by simp [hbay, State.lane]⟩

/-! ## BENCH SETTLE -/

theorem isBay_iff (s : State) (k : Nat) : s.isBay k = true ↔ ∃ it, s.laneItem k = some it ∧ it.kind = .bay := by
  unfold State.isBay
  split <;> simp_all

/-- A bench joins a BAY lane at its T mouth at the end, and every other lane at index 0 (R19). -/
theorem joinAt_eq (s : State) (k : Nat) (c : Corridor) (b : Nat) : s.joinAt k c b =
    s.modLane k fun v => { v with
      benches := if s.isBay k = true ∧ c = .t then v.benches ++ [b] else b :: v.benches } := by
  have hkind : frontEnd (((s.laneItem k).map (·.kind)).getD .buffer) c = !decide (s.isBay k = true ∧ c = .t) := by
    cases hit : s.laneItem k with
    | none => simp [State.isBay, hit, frontEnd]
    | some it => simp [State.isBay, hit, frontEnd]
  simp only [State.joinAt, hkind]
  by_cases h : s.isBay k = true ∧ c = .t <;> simp [h]

/-- What BENCH SETTLE writes before the lane lock is released (R38). -/
def State.withSettled (s : State) (b : Nat) (v : Bench) (w : SettleWhere) (n : CarriageName) (k : Nat) (c : Corridor) (x : Two Bool) :
    State :=
  { s with
    benches := s.benches.put b
      { v with place := (match w with | .aboard => .aboard n | .inLane => .inLane k), identity := .unread, lastMoved := s.seconds }
    carriages := s.carriages.set n { s.car n with load := (match w with | .aboard => .bench b | .inLane => .empty) }
    lanes := (match w with
      | .aboard => s.lanes
      | .inLane => s.lanes.put k { s.lane k with
          benches := if s.isBay k = true ∧ c = .t then (s.lane k).benches ++ [b] else b :: (s.lane k).benches })
    owed := x }

theorem withSettled_load (s : State) (b : Nat) (v : Bench) (w : SettleWhere) (n : CarriageName) (k : Nat) (c : Corridor) (x : Two Bool)
    (m : CarriageName) : ((s.withSettled b v w n k c x).car m).load =
      if m = n then (match w with | .aboard => .bench b | .inLane => .empty) else (s.car m).load := by
  simp only [State.car, State.withSettled, Six.get_set]
  split
  · cases w <;> rfl
  · rfl

theorem withSettled_lane (s : State) (b : Nat) (v : Bench) (w : SettleWhere) (n : CarriageName) (k : Nat) (c : Corridor) (x : Two Bool)
    (j : Nat) : (s.withSettled b v w n k c x).lane j =
      if w = .inLane ∧ j = k then
        { s.lane k with benches := if s.isBay k = true ∧ c = .t then (s.lane k).benches ++ [b] else b :: (s.lane k).benches }
      else s.lane j := by
  cases w with
  | aboard => rfl
  | inLane =>
    refine (s.lane_setLane k j _).trans ?_
    simp

theorem oweMouths_fields (s : State) (k : Nat) : ∃ x, s.oweMouths k = { s with owed := x } := by
  simp only [State.oweMouths]
  split <;> split <;> exact ⟨_, rfl⟩

theorem moveBench_of_some {s : State} {b : Nat} {v : Bench} (h : s.bench? b = some v) (pl : Place) :
    s.moveBench b pl = s.setBench b { v with place := pl, lastMoved := s.seconds } := State.modBench_of_some h _

/-- An identity set on the record that was written last. -/
theorem setIdentity_of_put {s : State} {b : Nat} {v : Bench} {x : Table Bench} (h : s.benches = x.put b v) (i : Identity) :
    s.setIdentity b i = { s with benches := x.put b { v with identity := i } } := by
  have hv : s.bench? b = some v := by simp [State.bench?, h]
  refine (State.modBench_of_some hv _).trans ?_
  rw [State.setBench, h, Table.put_put]

theorem settleBench_eq (s : State) (b : Nat) (v : Bench) (w : SettleWhere) (n : CarriageName) (k : Nat) (c : Corridor)
    (hv : s.bench? b = some v) :
    ∃ x, s.settleBench b w n k c = ((s.withSettled b v w n k c x).releaseLock k).owe n.corridor := by
  cases w with
  | aboard =>
    refine ⟨s.owed, congrArg (fun t : State => (t.releaseLock k).owe n.corridor) ?_⟩
    simp only []
    rw [moveBench_of_some hv, setIdentity_of_put (x := s.benches) (by rfl)]
    rfl
  | inLane =>
    have hjoin : (s.joinAt k c b).bench? b = some v := hv
    obtain ⟨x, hx⟩ := oweMouths_fields ((((s.joinAt k c b).moveBench b (.inLane k)).modCar n fun v => { v with load := .empty })) k
    refine ⟨x, congrArg (fun t : State => (t.releaseLock k).owe n.corridor) ?_⟩
    simp only []
    rw [hx, moveBench_of_some hjoin, setIdentity_of_put (x := s.benches) (by rfl), joinAt_eq]
    rfl

/-- Settles O35: by range, words, record and place; an accepted BENCH SETTLE is read off what it writes and the lane lock's release. -/
theorem benchSettleEndsStraddling : Obligations.BenchSettleEndsStraddling := by
  intro s l b h hb
  have hf (w : Named SettleWhere) : BenchSettleArgs.form ⟨b, w⟩ = true := hb
  refine ⟨fun w hrange => congrArg Host.Outcome.next (request_refuses h (hf w) nofun ?_), congrArg Host.Outcome.next
    (request_refuses h (hf .unknown) nofun ?_), fun h1 h2 w => ?_⟩
  · simp [serveBenchSettle, (benchNo_false b).mpr hrange]
  · simp only [serveBenchSettle]; split <;> rfl
  have hbench : benchNo b = true := (benchNo_iff b).mpr ⟨h1, h2⟩
  refine ⟨fun hnone => congrArg Host.Outcome.next (request_refuses h (hf _) nofun ?_), fun v hv => ⟨fun hplace => ?_, fun n k c hplace => ?_⟩⟩
  · simp [serveBenchSettle, hbench, hnone]
  · refine congrArg Host.Outcome.next (request_refuses h (hf _) nofun ?_)
    simp only [serveBenchSettle, hbench, State.takeLine_bench?, hv, Bool.not_true, Bool.false_eq_true, if_false]
  · obtain ⟨x, hsettle⟩ := settleBench_eq (s.takeLine l .benchSettle) b v w n k c hv
    have hserve : serveBenchSettle (s.takeLine l .benchSettle) ⟨b, .known w⟩ =
        okWith ((((s.takeLine l .benchSettle).withSettled b v w n k c x).releaseLock k).owe n.corridor) [] := by
      rw [← hsettle]
      simp [serveBenchSettle, hbench, hv, hplace]
    obtain ⟨cars, book, lanes, hrelease, hload, hbook, hlanes⟩ :=
      releaseLock_shape ((s.takeLine l .benchSettle).withSettled b v w n k c x) k
    have hplain : ((s.takeLine l .benchSettle).withSettled b v w n k c x).isBay k = s.isBay k := rfl
    rw [hrelease] at hserve
    have hruns := request_accepted h (hf (.known w)) nofun hserve (.refl _)
    refine ⟨_, congrArg Host.Outcome.next rfl, hruns.calm.still, ?_, ?_, fun m hm => ?_, ?_, ?_, fun j hj => ?_⟩
    · exact hruns.answer_line.trans (by rw [← s.takeLine_overrun l .benchSettle]; rfl)
    · exact (hruns.calm.load n).trans ((hload n).trans ((withSettled_load ..).trans (if_pos rfl)))
    · exact (hruns.calm.load m).trans ((hload m).trans ((withSettled_load ..).trans (if_neg hm)))
    · refine (hruns.calm.list k).trans ((congrArg Lane.benches (hlanes k)).trans ?_)
      rw [withSettled_lane]
      by_cases hbay : s.isBay k = true <;> cases w <;> simp [hbay, hplain]
    · refine (hruns.calm.lock k).trans ((congrArg Lane.lock (hlanes k)).trans ?_)
      rw [withSettled_lane]
      by_cases hbay : s.isBay k = true <;> cases w <;> simp [hbay, hplain]
    · have hlane := (hlanes j).trans ((if_neg (by simp [hj])).trans ((withSettled_lane ..).trans (if_neg (by simp [hj]))))
      refine (hruns.calm.lanes j).trans ?_
      exact congrArg (fun x : Lane => (x.benches, x.incoming, x.outgoing, x.lock)) hlane

end Machine
end Sys2Proof
end

section
/-! PROOFS. LANE SET (R33): its refusals in order, and what each of its steps writes. -/

namespace Sys2Proof.Machine

/-! ## The refusals -/

theorem hasRepeat_iff (l : List Nat) : hasRepeat l = true ↔ ¬ l.Nodup := by
  induction l with
  | nil => simp [hasRepeat]
  | cons b rest ih => simp only [hasRepeat, Bool.or_eq_true, ih, List.nodup_cons, List.contains_iff_mem]; grind

theorem mem_carriageName_all (n : CarriageName) : n ∈ CarriageName.all := by cases n <;> decide

theorem dockedAt_iff (s : State) (k : Nat) : s.dockedAt k = true ↔ ∃ n, (s.car n).state = .docked ∧ (s.car n).docked = some k := by
  simp [State.dockedAt, mem_carriageName_all]

theorem transferringAt_iff (s : State) (k : Nat) : s.transferringAt k = true ↔
    ∃ n, (s.car n).state = .transferring ∧ (s.car n).transfer.map (·.lane) = some k := by
  simp [State.transferringAt, mem_carriageName_all]

theorem quiet_iff (s : State) (k : Nat) : s.quiet k = true ↔ QuietLane s k := by
  simp only [State.quiet, QuietLane, Bool.and_eq_true, decide_eq_true_eq, Option.isNone_iff_eq_none, List.isEmpty_iff,
    Bool.not_eq_true', ← Bool.not_eq_true (s.transferringAt k), ← Bool.not_eq_true (s.dockedAt k), dockedAt_iff, transferringAt_iff,
    not_exists, forall_and]
  grind

theorem benchBars_iff (s : State) (k b : Nat) : s.benchBars k b = true ↔ ∃ v, s.bench? b = some v ∧
    (v.claim ≠ none ∨ (∃ n j c, v.place = .straddling n j c) ∨ ∃ j, j ≠ k ∧ v.place = .inLane j ∧ ¬ QuietLane s j) := by
  unfold State.benchBars
  cases hb : s.bench? b with
  | none => simp
  | some v =>
    simp only [Bool.or_eq_true, Option.isSome_iff_ne_none, Option.some.injEq, exists_eq_left']
    refine or_congr Iff.rfl ?_
    cases hp : v.place with
    | inLane j =>
      simp only [Bool.and_eq_true, decide_eq_true_eq, Bool.not_eq_true', ← quiet_iff, Bool.not_eq_true, Place.inLane.injEq, reduceCtorEq,
        exists_false, false_or]
      exact ⟨fun ⟨hj, hq⟩ => ⟨j, hj, rfl, hq⟩, fun ⟨_, hj, he, hq⟩ => he ▸ ⟨hj, hq⟩⟩
    | _ => simp

theorem laneSetRefusal_spec (s : State) (a : LaneSetArgs) : FirstRefusal (laneSetTable s a) (laneSetRefusal s a) := by
  refine .row ?_ fun _ => .row ?_ fun _ => .row ?_ fun _ => .row Iff.rfl fun _ => rfl
  · have hbenches : a.benches.all benchNo = false ↔ ∃ b ∈ a.benches, b < 1 ∨ 4000 < b := by
      simp only [← benchNo_false, List.all_eq_false, Bool.not_eq_true]
    have hcap : ((s.laneItem a.lane).any fun it => decide (it.capacity < a.benches.length)) = true ↔
        ∃ it, s.laneItem a.lane = some it ∧ it.capacity < a.benches.length := by
      cases s.laneItem a.lane <;> simp
    simp only [Bool.or_eq_true, Bool.not_eq_true', laneNo_false, hbenches, hasRepeat_iff, hcap, or_assoc]
  · simp
  · simp only [Bool.or_eq_true, Bool.not_eq_true', ← Bool.not_eq_true (s.quiet a.lane), quiet_iff, List.any_eq_true, benchBars_iff]

/-! ## The steps -/

/-- Bench records rewritten one by one, each in a way that a second time adds nothing to. -/
theorem foldl_benches_shape (step : State → Nat → State) (f : Nat → Option Bench → Option Bench)
    (hf : ∀ b v, f b (f b v) = f b v) (now : Nat)
    (hstep : ∀ t b, t.seconds = now →
      ∃ y, step t b = { t with benches := y } ∧ ∀ m, y.get? m = if m = b then f b (t.bench? b) else t.bench? m)
    (l : List Nat) (s : State) (hs : s.seconds = now) :
    ∃ x, l.foldl step s = { s with benches := x } ∧ ∀ b, x.get? b = if b ∈ l then f b (s.bench? b) else s.bench? b := by
  induction l generalizing s with
  | nil => exact ⟨_, rfl, fun _ => rfl⟩
  | cons c rest ih =>
    obtain ⟨y, hy, hget⟩ := hstep s c hs
    obtain ⟨x, hx, hxget⟩ := ih { s with benches := y } hs
    refine ⟨x, by rw [List.foldl_cons, hy, hx], fun b => (hxget b).trans ?_⟩
    have hyb : ({ s with benches := y } : State).bench? b = _ := hget b
    rw [hyb]
    by_cases hbc : b = c
    · subst hbc; simp [hf]
    · simp [hbc]

theorem modBench_shape (s : State) (b : Nat) (g : Bench → Bench) :
    ∃ y, s.modBench b g = { s with benches := y } ∧ ∀ m, y.get? m = if m = b then (s.bench? b).map g else s.bench? m := by
  cases hv : s.bench? b with
  | none => exact ⟨s.benches, by simp only [State.modBench, hv], fun m => by split <;> simp_all [State.bench?]⟩
  | some v => exact ⟨_, State.modBench_of_some hv g, fun m => Table.get?_put ..⟩

/-- The record that LANE SET gives a number without one (R33). -/
def freshBench : Bench := ⟨0, .growing, none, .outside, .unread, none, 0⟩

theorem register_shape (s : State) (b : Nat) :
    ∃ y, s.register b = { s with benches := y } ∧
      ∀ m, y.get? m = if m = b then some ((s.bench? b).getD freshBench) else s.bench? m := by
  cases hv : s.bench? b with
  | none => exact ⟨_, by rw [State.register, hv]; rfl, fun m => Table.get?_put ..⟩
  | some v => exact ⟨s.benches, by rw [State.register, hv]; rfl, fun m => by split <;> simp_all [State.bench?]⟩

/-- A list with some of its members taken out, one after the other. -/
def without (x gone : List Nat) : List Nat := gone.foldl List.erase x

theorem without_of_nodup (gone : List Nat) {x : List Nat} (hx : x.Nodup) : without x gone = x.filter fun b => !gone.contains b := by
  induction gone generalizing x with
  | nil => exact (List.filter_eq_self.2 fun _ _ => rfl).symm
  | cons c rest ih =>
    rw [without, List.foldl_cons]
    refine (ih (hx.erase c)).trans ?_
    rw [hx.erase_eq_filter, List.filter_filter]
    refine List.filter_congr fun b _ => ?_
    simp only [List.contains_cons, Bool.not_or, bne, Bool.and_comm]

/-- The named benches that stand in a lane other than the one set. -/
def State.namedIn (s : State) (l j : Nat) (new : List Nat) : List Nat :=
  new.filter fun b => decide (j ≠ l) && decide ((s.bench? b).map Bench.place = some (.inLane j))

/-- Some named bench is aboard a carriage. -/
def State.namedAboard (s : State) (n : CarriageName) (new : List Nat) : Prop :=
  ∃ b ∈ new, (s.bench? b).map Bench.place = some (.aboard n)

theorem namedIn_cons (s : State) (l j c : Nat) (rest : List Nat) : s.namedIn l j (c :: rest) =
    if j ≠ l ∧ (s.bench? c).map Bench.place = some (.inLane j) then c :: s.namedIn l j rest else s.namedIn l j rest := by
  simp [State.namedIn, List.filter_cons]

theorem namedAboard_cons (s : State) (n : CarriageName) (c : Nat) (rest : List Nat) : s.namedAboard n (c :: rest) ↔
    (s.bench? c).map Bench.place = some (.aboard n) ∨ s.namedAboard n rest := by
  simp [State.namedAboard]

/-- One named bench taken out of another lane's list or a carriage's load. -/
theorem takeOut_shape (l : Nat) (s : State) (c : Nat) :
    ∃ lanes cars x, s.takeOut l c = { s with lanes := lanes, carriages := cars, owed := x } ∧
      (∀ j, (lanes.get? j).getD Lane.blank = if j ≠ l ∧ (s.bench? c).map Bench.place = some (.inLane j) then
        { s.lane j with benches := (s.lane j).benches.erase c } else s.lane j) ∧
      ∀ n, cars.get n = if (s.bench? c).map Bench.place = some (.aboard n) then { s.car n with load := .empty } else s.car n := by
  unfold State.takeOut
  split
  · rename_i k hk
    split
    · rename_i hkl
      refine ⟨_, _, _, rfl, fun j => ?_, fun n => (if_neg (by simp [hk])).symm⟩
      rw [hk, if_neg (by rintro ⟨hj, hp⟩; injection hp with hp; injection hp with hp; omega)]
      rfl
    · rename_i hkl
      obtain ⟨x, hx⟩ := oweMouths_fields (s.leaveLane k c) k
      refine ⟨_, _, x, hx, fun j => (s.lane_setLane k j _).trans ?_, fun n => (if_neg (by simp [hk])).symm⟩
      rw [hk]
      by_cases hj : j = k
      · subst hj; simp [hkl]
      · simp [hj, Ne.symm hj]
  · rename_i m hm
    refine ⟨_, _, _, rfl, fun j => (if_neg (by simp [hm])).symm, fun n => ?_⟩
    simp only [State.modCar, State.setCar, Six.get_set, hm, State.car]
    by_cases hn : n = m
    · subst hn; simp
    · simp [hn, Ne.symm hn]
  · rename_i hlane haboard
    exact ⟨_, _, _, rfl, fun j => (if_neg (by rintro ⟨-, h⟩; exact hlane _ h)).symm, fun n => (if_neg (haboard n)).symm⟩

/-- Step 2 takes each named bench out of another lane's list or a carriage's load. -/
theorem foldl_takeOut_shape (l : Nat) (new : List Nat) (s : State) :
    ∃ lanes cars x, new.foldl (State.takeOut l) s = { s with lanes := lanes, carriages := cars, owed := x } ∧
      (∀ j, (lanes.get? j).getD Lane.blank = { s.lane j with benches := without (s.lane j).benches (s.namedIn l j new) }) ∧
      ∀ n, (s.namedAboard n new → (cars.get n).load = .empty) ∧ (¬ s.namedAboard n new → (cars.get n).load = (s.car n).load) := by
  induction new generalizing s with
  | nil => exact ⟨_, _, _, rfl, fun j => rfl, fun n => ⟨by simp [State.namedAboard], fun _ => rfl⟩⟩
  | cons c rest ih =>
    obtain ⟨lanes, cars, x, hc, hlane, hcar⟩ := takeOut_shape l s c
    obtain ⟨lanes', cars', x', hrest, hlane', hload'⟩ := ih { s with lanes := lanes, carriages := cars, owed := x }
    refine ⟨lanes', cars', x', by rw [List.foldl_cons, hc, hrest], fun j => (hlane' j).trans ?_, fun n => ?_⟩
    · have hj : ({ s with lanes := lanes, carriages := cars, owed := x } : State).lane j = _ := hlane j
      have hnamed : ({ s with lanes := lanes, carriages := cars, owed := x } : State).namedIn l j rest = s.namedIn l j rest := rfl
      rw [hj, hnamed, namedIn_cons]
      by_cases hin : j ≠ l ∧ (s.bench? c).map Bench.place = some (.inLane j)
      · simp only [if_pos hin, without, List.foldl_cons]
      · simp only [if_neg hin]
    · have hn : ({ s with lanes := lanes, carriages := cars, owed := x } : State).car n = _ := hcar n
      have hsame : ({ s with lanes := lanes, carriages := cars, owed := x } : State).namedAboard n rest ↔ s.namedAboard n rest := Iff.rfl
      obtain ⟨hyes, hno⟩ := hload' n
      rw [hsame] at hyes hno
      rw [hn] at hno
      rw [namedAboard_cons]
      by_cases hab : s.namedAboard n rest
      · exact ⟨fun _ => hyes hab, fun h => absurd (.inr hab) h⟩
      · by_cases hcn : (s.bench? c).map Bench.place = some (.aboard n)
        · exact ⟨fun _ => (hno hab).trans (by rw [if_pos hcn]), fun h => absurd (.inl hcn) h⟩
        · exact ⟨fun h => absurd h (by grind), fun _ => (hno hab).trans (by rw [if_neg hcn])⟩

/-- The stamp of a bench that LANE SET lists: kept where it stood at the same index (R26, log 39). -/
def listedStamp (old new : List Nat) (now b : Nat) (v : Bench) : Nat :=
  if b ∈ old ∧ indexIn b old = indexIn b new then v.lastMoved else now

/-- The record a bench number has after LANE SET (R33). -/
def laneSetBench (s : State) (l : Nat) (new : List Nat) (b : Nat) : Option Bench :=
  let old := (s.lane l).benches
  let moved := fun v : Bench => { v with place := .outside, lastMoved := s.seconds }
  if b ∈ new then
    let v := (s.bench? b).getD freshBench
    some { v with place := .inLane l, lastMoved := listedStamp old new s.seconds b v }
  else if b ∈ old then (s.bench? b).map moved
  else s.bench? b

theorem placeAt_shape (l : Nat) (old new : List Nat) (s : State) (b : Nat) :
    ∃ y, s.placeAt l old new b = { s with benches := y } ∧ ∀ m, y.get? m = if m = b then
      (s.bench? b).map fun v => { v with place := .inLane l, lastMoved := listedStamp old new s.seconds b v } else s.bench? m := by
  simp only [State.placeAt, State.moveBench, listedStamp]
  split
  · rename_i h
    simp only [Bool.and_eq_true, List.contains_iff_mem, decide_eq_true_eq] at h
    simp only [if_pos h]
    exact modBench_shape ..
  · rename_i h
    simp only [Bool.and_eq_true, List.contains_iff_mem, decide_eq_true_eq] at h
    simp only [if_neg h]
    exact modBench_shape ..

/-- A number registered on the way stands nowhere, so what step 2 takes out is told by the records before LANE SET. -/
theorem place_of_registered {s : State} {x : Table Bench} {new : List Nat}
    (hx : ∀ b, x.get? b = if b ∈ new then some ((s.bench? b).getD freshBench) else s.bench? b) (p : Place) (hp : p ≠ .outside) (b : Nat) :
    (x.get? b).map Bench.place = some p ↔ (s.bench? b).map Bench.place = some p := by
  rw [hx b]
  split
  · cases s.bench? b with
    | none => simpa [freshBench] using hp.symm
    | some v => simp
  · rfl

/-- The tables that LANE SET writes. -/
def State.withInventory (s : State) (benches : Table Bench) (lanes : Table Lane) (cars : Six Carriage) (x : Two Bool) : State :=
  { s with benches := benches, lanes := lanes, carriages := cars, owed := x }

/-- Steps 1 and 2: the registered records, the lists and the loads the named benches leave. -/
theorem register_takeOut_shape (s : State) (l : Nat) (new : List Nat) :
    ∃ benches lanes cars x,
      new.foldl (State.takeOut l) (new.foldl State.register s) = s.withInventory benches lanes cars x ∧
      (∀ b, benches.get? b = if b ∈ new then some ((s.bench? b).getD freshBench) else s.bench? b) ∧
      (∀ j, (lanes.get? j).getD Lane.blank = { s.lane j with benches := without (s.lane j).benches (s.namedIn l j new) }) ∧
      ∀ n, (s.namedAboard n new → (cars.get n).load = .empty) ∧ (¬ s.namedAboard n new → (cars.get n).load = (s.car n).load) := by
  obtain ⟨x1, h1, hget⟩ := foldl_benches_shape State.register (fun _ v => some (v.getD freshBench)) (by simp) s.seconds
    (fun t b _ => register_shape t b) new s rfl
  obtain ⟨lanes, cars, x, h2, hlane, hload⟩ := foldl_takeOut_shape l new { s with benches := x1 }
  have hin (j : Nat) : ({ s with benches := x1 } : State).namedIn l j new = s.namedIn l j new :=
    List.filter_congr fun b _ => by
      simp only [show ({ s with benches := x1 } : State).bench? b = x1.get? b from rfl, place_of_registered hget (.inLane j) nofun]
  have haboard (n : CarriageName) : ({ s with benches := x1 } : State).namedAboard n new ↔ s.namedAboard n new :=
    exists_congr fun b => and_congr_right fun _ => place_of_registered hget (.aboard n) nofun b
  refine ⟨x1, lanes, cars, x, by rw [h1, h2]; rfl, hget, fun j => ?_, fun n => ?_⟩
  · rw [← hin j]; exact hlane j
  · rw [← haboard n]; exact hload n

/-- Steps 3 to 5: the benches no longer named, the list, and the places of the benches named. -/
theorem unname_placeAt_shape (s : State) (l : Nat) (old new : List Nat) :
    ∃ benches,
      new.foldl (State.placeAt l old new)
        (((old.filter fun b => !new.contains b).foldl (fun t b => t.moveBench b .outside) s).modLane l fun v => { v with benches := new }) =
        s.withInventory benches (s.lanes.put l { s.lane l with benches := new }) s.carriages s.owed ∧
      ∀ b, benches.get? b =
        if b ∈ new then (s.bench? b).map fun v => { v with place := .inLane l, lastMoved := listedStamp old new s.seconds b v }
        else if b ∈ old then (s.bench? b).map fun v => { v with place := .outside, lastMoved := s.seconds } else s.bench? b := by
  obtain ⟨x, hx, hget⟩ := foldl_benches_shape (fun t b => t.moveBench b .outside)
    (fun _ v => v.map fun v => { v with place := .outside, lastMoved := s.seconds })
    (fun _ v => by cases v <;> rfl) s.seconds
    (fun t b ht => by rw [← ht]; exact modBench_shape ..) (old.filter fun b => !new.contains b) s rfl
  obtain ⟨y, hy, hget'⟩ := foldl_benches_shape (State.placeAt l old new)
    (fun b v => v.map fun v => { v with place := .inLane l, lastMoved := listedStamp old new s.seconds b v })
    (fun b v => by cases v <;> simp only [Option.map_none, Option.map_some, listedStamp]; split <;> rfl) s.seconds
    (fun t b ht => by rw [← ht]; exact placeAt_shape ..) new
    (s.withInventory x (s.lanes.put l { s.lane l with benches := new }) s.carriages s.owed) rfl
  refine ⟨y, by rw [hx]; exact hy, fun b => ?_⟩
  rw [hget' b, show (s.withInventory x _ _ _).bench? b = x.get? b from rfl, hget b]
  by_cases hb : b ∈ new <;> simp [hb]

/-- What an accepted LANE SET writes, record by record, list by list and load by load. -/
theorem laneSet_shape (s : State) (l : Nat) (new : List Nat) :
    ∃ benches lanes cars x, RunsOnly (s.withInventory benches lanes cars x) (s.laneSet l new) ∧
      (∀ b, benches.get? b = laneSetBench s l new b) ∧
      (∀ j, (lanes.get? j).getD Lane.blank =
        if j = l then { s.lane l with benches := new } else { s.lane j with benches := without (s.lane j).benches (s.namedIn l j new) }) ∧
      ∀ n, (s.namedAboard n new → (cars.get n).load = .empty) ∧ (¬ s.namedAboard n new → (cars.get n).load = (s.car n).load) := by
  obtain ⟨x, lanes, cars, o, h12, hget, hlane, hload⟩ := register_takeOut_shape s l new
  obtain ⟨y, h35, hget'⟩ := unname_placeAt_shape (s.withInventory x lanes cars o) l (s.lane l).benches new
  refine ⟨y, lanes.put l { (s.withInventory x lanes cars o).lane l with benches := new }, cars, o, ?_, fun b => ?_, fun j => ?_, hload⟩
  · simp only [State.laneSet, h12, h35]
    split
    · exact .refl _
    · exact .oweMouths _ _
  · rw [hget' b, show (s.withInventory x lanes cars o).bench? b = x.get? b from rfl, hget b]
    unfold laneSetBench
    by_cases hb : b ∈ new
    · simp only [if_pos hb, Option.map_some]; rfl
    · simp only [if_neg hb]; rfl
  · refine ((s.withInventory x lanes cars o).lane_setLane l j _).trans ?_
    split
    · rename_i hj
      rw [show (s.withInventory x lanes cars o).lane l = _ from hlane l]
    · exact hlane j

theorem laneSetBench_named {s : State} {l : Nat} {new : List Nat} {b : Nat} (hb : b ∈ new) {v : Bench}
    (hv : (s.bench? b).getD freshBench = v) : laneSetBench s l new b =
      some { v with place := .inLane l, lastMoved := listedStamp (s.lane l).benches new s.seconds b v } := by
  subst hv; exact if_pos hb

theorem without_namedIn_of_none {s : State} {l j : Nat} {new : List Nat} (h : ∀ b ∈ new, ∀ v, s.bench? b = some v → v.place ≠ .inLane j)
    (x : List Nat) : without x (s.namedIn l j new) = x := by
  have hnil : s.namedIn l j new = [] := by
    refine List.filter_eq_nil_iff.mpr fun b hb => ?_
    cases hv : s.bench? b with
    | none => simp
    | some v => simp [h b hb v hv]
  rw [hnil]
  rfl

theorem without_namedIn_of_nodup {s : State} {l j : Nat} {new : List Nat} (hj : j ≠ l) (x : List Nat) (hx : x.Nodup) :
    without x (s.namedIn l j new) =
      x.filter fun b => !(new.contains b && decide ((s.bench? b).map (·.place) = some (.inLane j))) := by
  rw [without_of_nodup _ hx]
  refine List.filter_congr fun b _ => ?_
  rw [Bool.eq_iff_iff]
  simp [State.namedIn, hj]

theorem serveLaneSet_accepted {s : State} {a : LaneSetArgs} (h : laneSetRefusal s a = none) :
    serveLaneSet s a = okWith (s.laneSet a.lane a.benches) [] := by
  simp only [serveLaneSet, h]

/-- Settles O30: the refusals row by row; an accepted LANE SET is read off what its steps write. -/
theorem laneSetWritesTheList : Obligations.LaneSetWritesTheList := by
  refine ⟨laneSetRefusal_spec, fun s l a h hf => ⟨fun w hw => congrArg Host.Outcome.next ?_, fun hnone => ?_⟩⟩
  · have hrefusal : laneSetRefusal (s.takeLine l .laneSet) a = some w := hw
    exact request_refuses h hf nofun (by simp only [serveLaneSet, hrefusal])
  obtain ⟨benches, lanes, cars, x, hruns, hbench, hlane, hload⟩ := laneSet_shape (s.takeLine l .laneSet) a.lane a.benches
  have hrefusal : laneSetRefusal (s.takeLine l .laneSet) a = none := hnone
  have hall := request_accepted h hf nofun (serveLaneSet_accepted hrefusal) hruns
  have hlist (j : Nat) := (hall.calm.list j).trans (congrArg Lane.benches (hlane j))
  have hget (b : Nat) : (request s l .laneSet LaneSetArgs.form (.args a) serveLaneSet).bench? b = laneSetBench s a.lane a.benches b := by
    rw [State.bench?, hall.calm.benches]; exact hbench b
  refine ⟨_, congrArg Host.Outcome.next rfl, ?_, hall.calm.orders, ?_, ?_, fun b hb v hv => ?_, fun b hb hv hold => ?_,
    fun b hb hv => ?_, fun b hold hb v hv => ?_, fun b hb hold => ?_, fun k => ⟨?_, ?_, ?_⟩, fun k hk hnot => ?_, fun k hk hx => ?_,
    fun n hn => ?_, fun n hn => ?_⟩
  · rw [hall.calm.benches]; exact hall.calm.still
  · exact hall.answer_line.trans (by rw [← s.takeLine_overrun l .laneSet]; rfl)
  · rw [hlist, if_pos rfl]
  · rw [hget, laneSetBench_named hb (by rw [hv])]
    rfl
  · rw [hget, laneSetBench_named hb (by rw [hv]), listedStamp, if_neg (by grind)]
    rfl
  · rw [hget, laneSetBench_named hb (by rw [hv])]; exact ⟨_, rfl⟩
  · rw [hget, laneSetBench]; simp only [if_neg hb, if_pos hold, hv, Option.map_some]
  · rw [hget, laneSetBench]; simp only [if_neg hb, if_neg hold]
  · refine (hall.calm.incoming k).trans ((congrArg Lane.incoming (hlane k)).trans ?_)
    split
    · rename_i hk; subst hk; rfl
    · rfl
  · refine (hall.calm.outgoing k).trans ((congrArg Lane.outgoing (hlane k)).trans ?_)
    split
    · rename_i hk; subst hk; rfl
    · rfl
  · refine (hall.calm.lock k).trans ((congrArg Lane.lock (hlane k)).trans ?_)
    split
    · rename_i hk; subst hk; rfl
    · rfl
  · rw [hlist, if_neg hk]; exact without_namedIn_of_none hnot _
  · rw [hlist, if_neg hk]; exact without_namedIn_of_nodup hk _ hx
  · refine (hall.calm.load n).trans ((hload n).2 ?_)
    rintro ⟨b, hb, hp⟩
    obtain ⟨v, hv, hvp⟩ := Option.map_eq_some_iff.mp hp
    exact hn b hb v hv hvp
  · obtain ⟨b, hb, v, hv, hp⟩ := hn
    exact (hall.calm.load n).trans ((hload n).1 ⟨b, hb, Option.map_eq_some_iff.mpr ⟨v, hv, hp⟩⟩)

end Sys2Proof.Machine
end

section
/-! PROOFS. The clock and the power (log 2, log 5), the invariants at reset, and what a port does with a request line before any block
serves it (R175, R176). -/

namespace Sys2Proof.Machine

/-! ## A request line at its port -/

/-- What the port alone does with a command that is a request line of a link, with the word it is answered by and its form. -/
structure AskedAs (c : Instr) (l : LinkId) (w : ReqWord) (ok : Bool) : Prop where
  unpowered : ∀ s : State, s.powered = false → exec c s = .next s
  overrun : ∀ s : State, s.powered = true → (s.link l).outstanding ≠ none → exec c s = .next (s.overrunLine l)
  malformed : ∀ s : State, s.powered = true → (s.link l).outstanding = none → ok = false →
    exec c s = .next (s.replied l w (.refuse .badForm))
  refused : ∀ (s : State) (st : Status), s.powered = true → (s.link l).outstanding = none → ok = true → s.portRefusal l w = some st →
    exec c s = .next (s.replied l w (.refuse st))

theorem portJudges_of_not_form {α : Type} {s : State} {l : LinkId} {w : ReqWord} {form : α → Bool} {q : Req α}
    (h : (q.fields form).isSome = false) : portJudges s l w form q = .inl .badForm := by
  rw [Option.isSome_eq_false_iff, Option.isNone_iff_eq_none] at h
  simp only [portJudges, h]

theorem portJudges_of_refusal {α : Type} {s : State} {l : LinkId} {w : ReqWord} {form : α → Bool} {q : Req α} {st : Status}
    (h : (q.fields form).isSome = true) (hr : s.portRefusal l (answeredAs w q) = some st) :
    portJudges s l w form q = .inl st := by
  obtain ⟨a, ha⟩ := Option.isSome_iff_exists.mp h
  rw [answeredAs_of_fields w form q a ha] at hr
  simp only [portJudges, ha, hr]

theorem askedAs_request {α : Type} {c : Instr} {l : LinkId} {w : ReqWord} {form : α → Bool} {q : Req α} {serve : State → α → Served}
    (h : ∀ s, exec c s = .next (request s l w form q serve)) : AskedAs c l (answeredAs w q) (q.fields form).isSome where
  unpowered s hp := by rw [h, request_unpowered _ _ _ _ _ _ hp]
  overrun s hp ho := by rw [h, request_overrun _ _ _ _ _ _ hp ho]
  malformed s hp ho hf := by
    rw [h]
    simp only [request, hp, ho, portJudges_of_not_form hf]
    rfl
  refused s st hp ho hf hr := by
    have hj : portJudges (s.takeLine l w) l w form q = .inl st := portJudges_of_refusal hf hr
    rw [h]
    simp only [request, hp, ho, hj]
    rfl

theorem askedAs_restart (l : LinkId) (q : Req Unit) (pins : Pins) :
    AskedAs (.restart l q pins) l (answeredAs .restart q) (q.fields fun _ => true).isSome where
  unpowered s hp := by simp [exec, execRestart, hp]
  overrun s hp ho := by
    obtain ⟨w, hw⟩ := Option.ne_none_iff_exists'.mp ho
    simp [exec, execRestart, hp, hw]
  malformed s hp ho hf := by
    simp only [exec, execRestart, hp, ho, portJudges_of_not_form hf]
    rfl
  refused s st hp ho hf hr := by
    have hj : portJudges (s.takeLine l .restart) l .restart (fun _ => true) q = .inl st := portJudges_of_refusal hf hr
    simp only [exec, execRestart, hp, ho, hj]
    rfl

/-- Every command that is a request line is taken, refused and overrun by its port alike. -/
theorem askedAs_of_asked {c : Instr} {l : LinkId} {w : ReqWord} {ok : Bool} (h : asked c = some (l, w, ok)) : AskedAs c l w ok := by
  cases c
  all_goals simp only [asked, reduceCtorEq, Option.some.injEq, Prod.mk.injEq] at h
  all_goals obtain ⟨rfl, rfl, rfl⟩ := h
  case restart => exact askedAs_restart ..
  all_goals exact askedAs_request fun _ => rfl

/-- Settles O15. -/
theorem lineDuringARequestIsAnOverrun : Obligations.LineDuringARequestIsAnOverrun := by
  intro s l hp
  refine ⟨fun ho => ⟨fun c w ok hc => (askedAs_of_asked hc).overrun s hp ho, ?_⟩, fun ho => ?_⟩
  · obtain ⟨w, hw⟩ := Option.ne_none_iff_exists'.mp ho
    exact congrArg Host.Outcome.next (if_pos (by simp [hp, hw]))
  · simp [exec, execOverrun, ho]

/-! ## The clock -/

/-- An unpowered unit takes no command but POWER_ON (log 5). -/
theorem exec_unpowered (c : Instr) (s : State) (hp : s.powered = false) (hc : ∀ pins, c ≠ .powerOn pins) : exec c s = .next s := by
  cases hask : asked c with
  | some x => exact (askedAs_of_asked (l := x.1) (w := x.2.1) (ok := x.2.2) hask).unpowered s hp
  | none =>
    cases c
    case powerOn pins => exact absurd rfl (hc pins)
    all_goals simp only [asked, reduceCtorEq] at hask
    all_goals exact congrArg Host.Outcome.next (if_neg (by simp [hp]))

theorem gate_modGate (s : State) (c d : Corridor) (k j : Nat) (g : Gate → Gate) :
    (s.modGate c k g).gate d j = if d = c ∧ j = k then g (s.gate c k) else s.gate d j := by
  simp only [State.modGate, State.setGate, State.gate, Two.get_set]
  by_cases hd : d = c
  · subst hd
    by_cases hj : j = k <;> simp [hj]
  · simp [hd]

/-- Of a gate, the second record has other samples at most. -/
def SampledFrom (g h : Gate) : Prop := { h with samples := g.samples } = g

theorem SampledFrom.refl (g : Gate) : SampledFrom g g := rfl

theorem SampledFrom.trans {g h i : Gate} (hg : SampledFrom g h) (hh : SampledFrom h i) : SampledFrom g i := by
  unfold SampledFrom at *
  rw [← hg, ← hh]

/-- Of two units, the second has other samples at most, and those at gates in use alone. -/
def GatesSampled (s t : State) : Prop :=
  (∀ c k, SampledFrom (s.gate c k) (t.gate c k)) ∧ (∀ c k, s.gateInput c k = none → t.gate c k = s.gate c k) ∧ t.layout = s.layout

theorem GatesSampled.trans {s t u : State} (h : GatesSampled s t) (k : GatesSampled t u) : GatesSampled s u := by
  obtain ⟨hs, hu, hl⟩ := h
  obtain ⟨ks, ku, kl⟩ := k
  refine ⟨fun c j => (hs c j).trans (ks c j), fun c j hn => ?_, kl.trans hl⟩
  rw [ku c j (by rw [State.gateInput, hl]; exact hn), hu c j hn]

theorem getL_ne_none_of_mem {α : Type} {l : List (Nat × α)} {e : Nat × α} (h : e ∈ l) : Table.getL l e.1 ≠ none := by
  induction l with
  | nil => cases h
  | cons a rest ih =>
    obtain ⟨k, v⟩ := a
    simp only [Table.getL]
    split
    · simp
    · rename_i hk
      rcases List.mem_cons.mp h with rfl | h
      · exact absurd rfl hk
      · exact ih h

theorem gatesSampled_foldl (s : State) (c : Corridor) (l : List (Nat × Nat)) (hl : ∀ e ∈ l, e ∈ (s.layout.gates.get c).entries) :
    GatesSampled s (l.foldl (fun t e => t.modGate c e.1 fun g => { g with samples := g.samples.push (t.inputLevel e.2) }) s) := by
  induction l generalizing s with
  | nil => exact ⟨fun _ _ => .refl _, fun _ _ _ => rfl, rfl⟩
  | cons e rest ih =>
    refine GatesSampled.trans ?_ (ih _ fun x hx => hl x (List.mem_cons_of_mem _ hx))
    refine ⟨fun d j => ?_, fun d j hn => ?_, rfl⟩
    · rw [gate_modGate]
      split
      · rename_i h; obtain ⟨rfl, rfl⟩ := h; rfl
      · exact .refl _
    · rw [gate_modGate]
      refine if_neg ?_
      rintro ⟨rfl, rfl⟩
      exact getL_ne_none_of_mem (hl e (.head _)) hn

theorem gatesSampled_sampleOn (s : State) (c : Corridor) : GatesSampled s (s.sampleOn c) :=
  gatesSampled_foldl s c _ fun _ he => he

theorem gatesSampled_sample (s : State) : GatesSampled s s.sample := by
  unfold State.sample
  split
  · exact (gatesSampled_sampleOn s .f).trans (gatesSampled_sampleOn _ .t)
  · exact ⟨fun _ _ => .refl _, fun _ _ _ => rfl, rfl⟩

theorem foldl_modGate_stops (c : Corridor) (l : List (Nat × Nat)) (s : State) :
    (l.foldl (fun t e => t.modGate c e.1 fun g => { g with samples := g.samples.push (t.inputLevel e.2) }) s).stops = s.stops := by
  induction l generalizing s with
  | nil => rfl
  | cons e rest ih => exact ih _

theorem stop_sampleOn (s : State) (c d : Corridor) : (s.sampleOn c).stop d =
    if d = c then { s.stop c with samples := (s.stop c).samples.push (s.stop c).input } else s.stop d := by
  simp only [State.sampleOn, State.modStop, State.stop, Two.get_set, foldl_modGate_stops]

theorem stop_sample (s : State) (c : Corridor) : s.sample.stop c =
    { s.stop c with samples := if s.millis % 2 = 0 then (s.stop c).samples.push (s.stop c).input else (s.stop c).samples } := by
  unfold State.sample
  split
  · cases c <;> simp [stop_sampleOn]
  · rfl

/-- Settles O2: an idle step samples the inputs at even counts and takes what falls due; an unpowered unit does nothing. -/
theorem idleStepsAndPower : Obligations.IdleStepsAndPower := by
  refine ⟨fun s hs => ⟨fun hp => ?_, fun hp u hu => ?_⟩, exec_unpowered⟩
  · simp only [step, hs, State.tick, hp, Bool.false_eq_true, if_false]
  · obtain ⟨hsampled, hunused, -⟩ := gatesSampled_sample { s with millis := s.millis + 1 }
    have heq := sample_eq { s with millis := s.millis + 1 }
    have hstop := stop_sample { s with millis := s.millis + 1 }
    rw [← hu] at hsampled hunused heq hstop
    refine ⟨?_, heq, hsampled, hunused, hstop, fun hodd => ?_⟩
    · subst hu
      simp only [step, hs, State.tick, hp, if_true]
    · have hsame : ({ s with millis := s.millis + 1 } : State).sample = { s with millis := s.millis + 1 } :=
        if_neg (by change ¬ (s.millis + 1) % 2 = 0; omega)
      rw [hu, hsame]

/-! ## Reset -/

/-- Settles O3: at reset every table is empty and every record blank. -/
theorem invariantsHoldAtReset : Obligations.InvariantsHoldAtReset := by
  refine ⟨rfl, fun l => ?_, fun n => ?_, fun c => ⟨?_, fun k n m h => ?_⟩, by decide, fun l => ?_, by decide, by decide, by decide⟩
  · cases l <;> decide
  · cases n <;> decide
  · cases c <;> rfl
  · cases c <;> exact absurd h (by simp [State.seg, State.reset, Two.get, Table.get?, Table.empty, Table.getL, Segment.blank, Segment.holds])
  · cases l <;> decide

end Sys2Proof.Machine
end

section
/-! PROOFS. Orders: MOVE (R42 to R44), ids (R41), what an order gives back (R53) and aging (R45). -/

namespace Sys2Proof.Machine

/-! ## Lanes and benches under a write -/

theorem State.lane_modLane (s : State) (k j : Nat) (g : Lane → Lane) : (s.modLane k g).lane j = if j = k then g (s.lane k) else s.lane j :=
  s.lane_setLane k j _

theorem State.bench?_modBench (s : State) (b m : Nat) (g : Bench → Bench) :
    (s.modBench b g).bench? m = if m = b then (s.bench? b).map g else s.bench? m := by
  obtain ⟨y, hy, hget⟩ := modBench_shape s b g
  rw [hy]; exact hget m

theorem State.lane_modBench (s : State) (b k : Nat) (g : Bench → Bench) : (s.modBench b g).lane k = s.lane k := by
  obtain ⟨y, hy, -⟩ := modBench_shape s b g
  rw [hy]; rfl

/-! ## What an order gives back -/

theorem lane_decOutgoing (s : State) (l k : Nat) :
    (s.decOutgoing l).lane k = { s.lane k with outgoing := (s.lane k).outgoing - if l = k then 1 else 0 } := by
  rw [State.decOutgoing, State.lane_modLane]
  by_cases h : k = l
  · subst h; simp
  · simp [h, Ne.symm h]

theorem lane_decIncoming (s : State) (l k : Nat) :
    (s.decIncoming l).lane k = { s.lane k with incoming := (s.lane k).incoming - if l = k then 1 else 0 } := by
  rw [State.decIncoming, State.lane_modLane]
  by_cases h : k = l
  · subst h; simp
  · simp [h, Ne.symm h]

/-- What an order still holds of a lane's outgoing count (R53). -/
def Order.outgoingAt (o : Order) (k : Nat) : Nat :=
  if o.srcLane = some k ∧ (o.phase = .queued ∨ o.phase = .assigned ∨ o.phase = .fetching ∨ o.phase = .pulling) then 1 else 0

/-- The claim an order gives back at its end (R53). -/
def State.unclaimed (s : State) (o : Order) : State :=
  match o.bench with
  | some b => s.unclaim b o.id
  | none => s

/-- The outgoing count an order gives back at its end (R53). -/
def State.unheld (s : State) (o : Order) : State :=
  match o.phase, o.srcLane with
  | .queued, some l | .assigned, some l | .fetching, some l | .pulling, some l => s.decOutgoing l
  | _, _ => s

theorem giveBack_eq (s : State) (o : Order) (st : EndState) : s.giveBack o st =
    if st = .done then (s.unclaimed o).unheld o else ((s.unclaimed o).unheld o).decIncoming o.dest := rfl

theorem lane_unclaimed (s : State) (o : Order) (k : Nat) : (s.unclaimed o).lane k = s.lane k := by
  unfold State.unclaimed
  split
  · exact s.lane_modBench _ k _
  · rfl

theorem lane_unheld (s : State) (o : Order) (k : Nat) :
    (s.unheld o).lane k = { s.lane k with outgoing := (s.lane k).outgoing - o.outgoingAt k } := by
  unfold State.unheld Order.outgoingAt
  cases o.srcLane with
  | none => cases o.phase <;> simp
  | some l => cases o.phase <;> simp [lane_decOutgoing]

theorem giveBack_lane (s : State) (o : Order) (st : EndState) (k : Nat) : (s.giveBack o st).lane k =
    { s.lane k with
      outgoing := (s.lane k).outgoing - o.outgoingAt k
      incoming := (s.lane k).incoming - (if o.dest = k ∧ st ≠ .done then 1 else 0) } := by
  have hheld := lane_unheld (s.unclaimed o) o k
  rw [lane_unclaimed] at hheld
  rw [giveBack_eq]
  split
  · rename_i hdone; simp [hheld, hdone]
  · rename_i hdone; simp [lane_decIncoming, hheld, hdone]

theorem giveBack_bench? (s : State) (o : Order) (st : EndState) (b : Nat) : (s.giveBack o st).bench? b =
    (s.bench? b).map fun v => if o.bench = some b ∧ v.claim = some o.id then { v with claim := none } else v := by
  have hsame : (s.giveBack o st).bench? b = (s.unclaimed o).bench? b := by
    rw [giveBack_eq]
    unfold State.unheld
    cases o.srcLane <;> cases o.phase <;> cases st <;> rfl
  rw [hsame, State.unclaimed]
  cases o.bench with
  | none => cases s.bench? b <;> simp
  | some c =>
    refine (s.bench?_modBench c b _).trans ?_
    by_cases h : b = c
    · subst h; simp
    · cases s.bench? b <;> simp [h, Ne.symm h]

/-- Settles O37: the id search finds a free id, every step keeps the book's bounds, and an end gives back claim and counts. -/
theorem idsAndHoldingsOfOrders : Obligations.IdsAndHoldingsOfOrders := by
  refine ⟨fun s hlen hlow hhigh => ⟨newId_free s hlen hlow hhigh, (newId_bounds s hlow hhigh).1, (newId_bounds s hlow hhigh).2,
    newId_of_free s⟩, fun s t hs h => (keeps_step s t h).book hs, fun s o st => ⟨giveBack_bench? s o st, fun k => ?_⟩⟩
  have hlane := giveBack_lane s o st k
  rw [hlane]
  exact ⟨rfl, rfl, rfl, rfl⟩

/-! ## Aging -/

theorem event_of_same {s : State} {g : State → State} (hp : s.powered = true) (ho : NothingOwed (g s))
    (hh : ∀ c, s.hold c = (g s).hold c) : event s g = g s := by
  simp only [event, hp, if_true, State.finish_of_same s (g s) ho hh]

theorem Order.ages_iff (o : Order) : o.ages = true ↔ (o.phase = .queued ∨ o.phase = .assigned) ∧ o.eff ≠ .urgent := by
  simp [Order.ages]

/-- An order that does not age, or none, leaves the unit as it is (log 4). -/
theorem age_of_not_ages {s : State} {id : Nat} (h : ∀ o, s.order? id = some o → o.ages = false) : s.age id = s := by
  unfold State.age
  cases ho : s.order? id with
  | none => rfl
  | some o => simp [h o ho]

theorem exec_orderAging_of_not_ages {s : State} {id : Nat} (hp : s.powered = true) (ho : NothingOwed s)
    (h : ∀ o, s.order? id = some o → o.ages = false) : exec (.orderAging id) s = .next s := by
  have hage := age_of_not_ages h
  exact congrArg Host.Outcome.next ((event_of_same hp (by rw [hage]; exact ho) (by rw [hage]; exact fun _ => rfl)).trans hage)

/-- Settles O40. -/
theorem agingRaisesOneClass : Obligations.AgingRaisesOneClass := by
  refine fun s id hp howed => ⟨fun o ho hphase heff => ?_, fun hnone => ?_, fun o ho hold => ?_⟩
  · have hage : s.age id = (s.atLeast (1000 * (o.raisedAt + s.layout.unit.aging))).modOrder id fun q =>
        { q with eff := raise q.eff, raisedAt := (s.atLeast (1000 * (o.raisedAt + s.layout.unit.aging))).seconds } := by
      simp only [State.age, ho, (Order.ages_iff o).mpr ⟨hphase, heff⟩, if_true]
    refine congrArg Host.Outcome.next ((event_of_same hp (by rw [hage]; exact howed) (by rw [hage]; exact fun _ => rfl)).trans ?_)
    rw [hage]
    rfl
  · exact exec_orderAging_of_not_ages hp howed fun o ho => absurd ho (by simp [hnone])
  · refine exec_orderAging_of_not_ages hp howed fun q hq => ?_
    obtain rfl : o = q := Option.some.inj (ho.symm.trans hq)
    rw [← Bool.not_eq_true, Order.ages_iff]
    grind

end Sys2Proof.Machine
end

section
/-! PROOFS. MOVE (R42 to R44): its refusals in order, and the order an accepted one adds to the book. -/

namespace Sys2Proof.Machine

/-! ## The refusals -/

theorem moveOk_false (a : MoveArgs) : moveOk a = false ↔
    (match a.source with
      | .bench n => n < 1 ∨ 4000 < n
      | .laneEnd k c => k < 1 ∨ 120 < k ∨ c = .unknown
      | .aboard n => n = .unknown)
    ∨ a.dest < 1 ∨ 120 < a.dest ∨ a.corridor = some .unknown ∨ a.cls = .unknown := by
  obtain ⟨source, dest, corridor, cls⟩ := a
  cases source <;> rcases corridor with _ | c | _ <;>
    simp only [moveOk, Bool.and_eq_false_iff, benchNo_false, laneNo_false, val?_isSome_false, or_assoc, reduceCtorEq, Option.some.injEq,
      false_or, true_or, or_true]

theorem moveUnknown_iff (s : State) (a : MoveArgs) : s.moveUnknown a = true ↔
    (match a.source with
      | .bench n => s.bench? n = none
      | .laneEnd k _ => s.laneItem k = none
      | .aboard w => ∀ n, w = .known n → s.item n = none)
    ∨ s.laneItem a.dest = none := by
  obtain ⟨source, dest, corridor, cls⟩ := a
  rcases source with n | ⟨k, c⟩ | n | _ <;> simp [State.moveUnknown]

theorem movesBench_iff (s : State) (a : MoveArgs) (v : Bench) :
    MovesBench s a v ↔ (s.sourceBench a.source).bind s.bench? = some v := by
  obtain ⟨source, dest, corridor, cls⟩ := a
  rcases source with n | ⟨k, c⟩ | n | _
  · simp [MovesBench, State.sourceBench]
  · simp [MovesBench, State.sourceBench]
  · simp only [MovesBench, State.sourceBench]
    cases hload : (s.car n).load <;> simp [Load.bench?, hload]
  · simp [MovesBench, State.sourceBench]

theorem doubtful_iff (v : Bench) : v.doubtful = true ↔ ∃ r, v.identity = .doubtful r := by
  unfold Bench.doubtful
  cases v.identity <;> simp

theorem moveState_iff (s : State) (a : MoveArgs) : s.moveState a.source = true ↔
    match a.source with
    | .bench n => ∀ v k, s.bench? n = some v → v.place ≠ .inLane k
    | .laneEnd _ _ => False
    | .aboard w => ∀ n, w = .known n → (s.car n).state ≠ .idle ∨ (s.car n).load = .empty ∨ (s.car n).load = .straddled := by
  obtain ⟨source, dest, corridor, cls⟩ := a
  rcases source with n | ⟨k, c⟩ | n | _
  · simp only [State.moveState, State.sourceLane]
    cases hv : s.bench? n with
    | none => simp
    | some v =>
      have hone : (∀ w k, some v = some w → w.place ≠ .inLane k) ↔ ∀ k, v.place ≠ .inLane k :=
        ⟨fun h k => h v k rfl, fun h w k e => by cases e; exact h k⟩
      rw [hone]
      cases hp : v.place <;> simp [hp]
  · simp [State.moveState]
  · simp only [State.moveState]
    cases hload : (s.car n).load <;> simp [Load.bench?, hload]
  · simp [State.moveState]

theorem openTo_iff (s : State) (a : MoveArgs) (c : Corridor) :
    OpenTo s a c ↔ (s.openToSource a.source c && (s.mouth a.dest c).isSome) = true := by
  obtain ⟨source, dest, corridor, cls⟩ := a
  simp only [OpenTo, Bool.and_eq_true, Option.isSome_iff_ne_none]
  rw [and_comm]
  refine and_congr ?_ Iff.rfl
  rcases source with n | ⟨k, w⟩ | n | _
  · simp only [State.openToSource, State.sourceLane]
    cases hv : s.bench? n with
    | none => simp
    | some v => cases hp : v.place <;> simp [hp, Option.isSome_iff_ne_none]
  · simp [State.openToSource, Option.isSome_iff_ne_none]
  · simp [State.openToSource]
  · simp [State.openToSource]

theorem mem_openCorridors (s : State) (a : MoveArgs) (c : Corridor) : c ∈ s.openCorridors a ↔ OpenTo s a c := by
  rw [openTo_iff, State.openCorridors, List.mem_filter]
  exact and_iff_right (by cases c <;> decide)

theorem openCorridors_sublist (s : State) (a : MoveArgs) : (s.openCorridors a).Sublist [.f, .t] := List.filter_sublist

theorem mem_corridorChoices (s : State) (a : MoveArgs) (c : Corridor) :
    c ∈ s.corridorChoices a ↔ OpenTo s a c ∧ ∀ w, a.corridor = some w → w = .known c := by
  rw [← mem_openCorridors]
  unfold State.corridorChoices
  split
  · rename_i d hd
    simp only [List.mem_filter, decide_eq_true_eq, hd, Option.some.injEq, forall_eq', Named.known.injEq]
    exact and_congr_right fun _ => eq_comm
  · rename_i hd; simp [hd]
  · rename_i hd; simp [hd]

theorem corridorChoices_sublist (s : State) (a : MoveArgs) : (s.corridorChoices a).Sublist [.f, .t] := by
  unfold State.corridorChoices
  split
  · exact List.filter_sublist.trans (openCorridors_sublist s a)
  · exact List.nil_sublist _
  · exact openCorridors_sublist s a

theorem corridorChoices_eq_nil (s : State) (a : MoveArgs) (h : a.corridor ≠ some .unknown) : s.corridorChoices a = [] ↔
    (∀ c, ¬ OpenTo s a c) ∨ ∃ c, a.corridor = some (.known c) ∧ ¬ OpenTo s a c := by
  simp only [List.eq_nil_iff_forall_not_mem, mem_corridorChoices]
  rcases hc : a.corridor with _ | c | _
  · simp
  · simp only [Option.some.injEq, forall_eq', Named.known.injEq, exists_eq_left', not_and]
    constructor
    · exact fun hnone => .inr fun hopen => hnone c hopen rfl
    · rintro (hnone | hnot) d hopen rfl
      · exact hnone _ hopen
      · exact hnot hopen
  · exact absurd hc h

theorem corridorChoices_both (s : State) (a : MoveArgs) (x y : Corridor) (rest : List Corridor) (h : s.corridorChoices a = x :: y :: rest) :
    a.corridor = none ∧ OpenTo s a .f ∧ OpenTo s a .t := by
  have hboth : s.corridorChoices a = [.f, .t] := by
    have hsub := corridorChoices_sublist s a
    rw [h] at hsub ⊢
    exact hsub.eq_of_length_le (by simp)
  have hf := (mem_corridorChoices s a .f).mp (by simp [hboth])
  have ht := (mem_corridorChoices s a .t).mp (by simp [hboth])
  refine ⟨?_, hf.1, ht.1⟩
  cases hc : a.corridor with
  | none => rfl
  | some w => exact absurd ((hf.2 w hc).symm.trans (ht.2 w hc)) nofun

/-- A row of a table of refusals, where the judgement goes on with the rest. -/
theorem FirstRefusal.judge {α : Type} {w : Status} {p b : Prop} [Decidable b] {rest : List (Status × Prop)} {r : Status ⊕ α} (hb : b ↔ p)
    (h : ¬ p → FirstRefusal rest r.getLeft?) : FirstRefusal ((w, p) :: rest) (if b then .inl w else r : Status ⊕ α).getLeft? :=
  ⟨fun hp => by rw [if_pos (hb.mpr hp)]; rfl, fun hp => by rw [if_neg (mt hb.mp hp)]; exact h hp⟩

theorem isStationSource_iff (s : State) (k : Nat) : s.isStationSource k = true ↔
    ∃ it, s.laneItem k = some it ∧ it.kind = .station ∧ it.role = some .source := isStation_iff s k .source

/-- The rows of MOVE's table after that of the paths (R43 rows 9 to 12), for the corridor that is left. -/
theorem judgeMove_rest (s : State) (l : LinkId) (a : MoveArgs) (c : Corridor) :
    FirstRefusal
      [(.laneFull, ∃ it, s.laneItem a.dest = some it ∧
          it.capacity ≤ (s.lane a.dest).benches.length + (s.straddlers a.dest).length + (s.lane a.dest).incoming),
       (.laneEmpty, ∃ k, s.sourceLane a.source = some k ∧ (s.lane k).benches.length ≤ (s.lane k).outgoing),
       (.full, 48 ≤ s.book.length ∨ 24 ≤ s.share l)]
      (if s.laneFull a.dest then .inl .laneFull
       else if (s.sourceLane a.source).any fun k => decide ((s.lane k).benches.length ≤ (s.lane k).outgoing) then .inl .laneEmpty
       else if decide (Config.maxOrders ≤ s.book.length) || decide (Config.maxShare ≤ s.share l) then .inl .full
       else .inr c : Status ⊕ Corridor).getLeft? := by
  refine .judge (laneFull_iff s a.dest) fun _ => .judge ?_ fun _ => .judge ?_ fun _ => rfl
  · cases s.sourceLane a.source <;> simp
  · rw [Bool.or_eq_true, decide_eq_true_iff, decide_eq_true_iff]
    rfl

theorem judgeMove_spec (s : State) (l : LinkId) (a : MoveArgs) : FirstRefusal (moveTable s l a) (s.judgeMove l a).getLeft? := by
  unfold State.judgeMove
  refine .judge ?_ fun hrange => .judge (moveUnknown_iff s a) fun _ => .judge ?_ fun _ => .judge ?_ fun _ => .judge (moveState_iff s a) fun _ => ?_
  · rw [Bool.not_eq_true']; exact moveOk_false a
  · simp only [movesBench_iff]
    cases (s.sourceBench a.source).bind s.bench? <;> simp [doubtful_iff]
  · simp only [movesBench_iff]
    cases (s.sourceBench a.source).bind s.bench? <;> simp [Option.isSome_iff_ne_none]
  have hcorridor : a.corridor ≠ some .unknown := fun h => hrange (.inr (.inr (.inr (.inl h))))
  have hpaths : ((∃ it, s.laneItem a.dest = some it ∧ it.kind = .station ∧ it.role = some .source) ∨
      s.sourceLane a.source = some a.dest ∨ (∀ c, ¬ OpenTo s a c) ∨ ∃ c, a.corridor = some (.known c) ∧ ¬ OpenTo s a c) ↔
      (s.isStationSource a.dest || decide (s.sourceLane a.source = some a.dest)) = true ∨ s.corridorChoices a = [] := by
    rw [Bool.or_eq_true, isStationSource_iff, decide_eq_true_iff, corridorChoices_eq_nil s a hcorridor, or_assoc]
  have hmem := mem_corridorChoices s a
  by_cases hpath : (s.isStationSource a.dest || decide (s.sourceLane a.source = some a.dest)) = true
  · rw [if_pos hpath]
    exact ⟨fun _ => rfl, fun h => absurd (hpaths.mpr (.inl hpath)) h⟩
  rw [if_neg hpath]
  have hchoices := hpaths.trans (or_iff_right hpath)
  split
  · rename_i hnil
    exact ⟨fun _ => rfl, fun h => absurd (hchoices.mpr hnil) h⟩
  · rename_i c hone
    refine ⟨fun h => absurd (hchoices.mp h) (by simp [hone]), fun _ => ⟨?_, fun _ => judgeMove_rest s l a c⟩⟩
    rintro ⟨hnone, hf, ht⟩
    have hcf : Corridor.f = c := by simpa [hone] using (hmem .f).mpr ⟨hf, by simp [hnone]⟩
    have hct : Corridor.t = c := by simpa [hone] using (hmem .t).mpr ⟨ht, by simp [hnone]⟩
    exact absurd (hcf.trans hct.symm) nofun
  · rename_i x y rest htwo
    have hboth := corridorChoices_both s a x y rest htwo
    exact ⟨fun h => absurd (hchoices.mp h) (by simp [htwo]), fun _ => ⟨fun _ => rfl, fun h => absurd hboth h⟩⟩

/-- An accepted MOVE has its fields in their ranges and one corridor left to it. -/
theorem judgeMove_eq_inr {s : State} {l : LinkId} {a : MoveArgs} {c : Corridor} (h : s.judgeMove l a = .inr c) :
    moveOk a = true ∧ s.corridorChoices a = [c] := by
  simp only [State.judgeMove] at h
  split at h
  · exact nomatch h
  rename_i hok
  refine ⟨by simpa using hok, ?_⟩
  iterate 5 split at h; exact nomatch h
  split at h
  · exact nomatch h
  · rename_i d hone
    iterate 3 split at h; exact nomatch h
    injection h with h
    rw [hone, h]
  · exact nomatch h

/-! ## The accepted MOVE -/

/-- The claim an order takes on its bench (R44). -/
def State.claimedBy (s : State) (o : Order) : State :=
  match o.bench with
  | some b => s.modBench b fun v => { v with claim := some o.id }
  | none => s

/-- The outgoing count an order takes at its source lane (R44). -/
def State.drawnBy (s : State) (o : Order) : State :=
  match o.srcLane with
  | some k => s.modLane k fun v => { v with outgoing := v.outgoing + 1 }
  | none => s

theorem acceptMove_eq (s : State) (o : Order) : s.acceptMove o =
    (((({ s with book := s.book ++ [o], nextId := idAfter o.id } : State).claimedBy o).drawnBy o).modLane o.dest
      fun v => { v with incoming := v.incoming + 1 }).owe o.corridor := rfl

theorem claimedBy_shape (s : State) (o : Order) : ∃ x, s.claimedBy o = { s with benches := x } ∧
    ∀ b, x.get? b = if o.bench = some b then (s.bench? b).map fun v => { v with claim := some o.id } else s.bench? b := by
  unfold State.claimedBy
  cases o.bench with
  | none => exact ⟨_, rfl, fun b => (if_neg nofun).symm⟩
  | some c =>
    obtain ⟨x, hx, hget⟩ := modBench_shape s c fun v => { v with claim := some o.id }
    refine ⟨x, hx, fun b => (hget b).trans ?_⟩
    by_cases h : b = c
    · subst h; simp
    · simp [h, Ne.symm h]

theorem drawnBy_shape (s : State) (o : Order) : ∃ lanes, s.drawnBy o = { s with lanes := lanes } ∧
    ∀ j, (lanes.get? j).getD Lane.blank =
      { s.lane j with outgoing := (s.lane j).outgoing + if o.srcLane = some j then 1 else 0 } := by
  unfold State.drawnBy
  cases o.srcLane with
  | none => exact ⟨_, rfl, fun j => rfl⟩
  | some k =>
    refine ⟨_, rfl, fun j => (s.lane_setLane k j _).trans ?_⟩
    by_cases h : j = k
    · subst h; simp
    · simp [h, Ne.symm h]

/-- What an accepted MOVE writes: the order at the tail of the book, the next id, the claim and the two counts (R44). -/
theorem acceptMove_shape (s : State) (o : Order) :
    ∃ x lanes, s.acceptMove o =
      { s with book := s.book ++ [o], nextId := idAfter o.id, benches := x, lanes := lanes, owed := s.owed.set o.corridor true } ∧
      (∀ b, x.get? b = if o.bench = some b then (s.bench? b).map fun v => { v with claim := some o.id } else s.bench? b) ∧
      ∀ j, (lanes.get? j).getD Lane.blank = { s.lane j with
        outgoing := (s.lane j).outgoing + (if o.srcLane = some j then 1 else 0)
        incoming := (s.lane j).incoming + (if o.dest = j then 1 else 0) } := by
  obtain ⟨x, hx, hbench⟩ := claimedBy_shape { s with book := s.book ++ [o], nextId := idAfter o.id } o
  obtain ⟨y, hy, hlane⟩ :=
    drawnBy_shape { s with book := s.book ++ [o], nextId := idAfter o.id, benches := x } o
  refine ⟨x, _, by rw [acceptMove_eq, hx, hy]; rfl, hbench, fun j => (State.lane_setLane _ _ _ _).trans ?_⟩
  have hj : ({ s with book := s.book ++ [o], nextId := idAfter o.id, benches := x, lanes := y } : State).lane j =
      { s.lane j with outgoing := (s.lane j).outgoing + if o.srcLane = some j then 1 else 0 } := hlane j
  by_cases h : j = o.dest
  · subst h; rw [if_pos rfl, hj]; simp
  · rw [if_neg h, hj]; simp [Ne.symm h]

theorem serveMove_accepted {s : State} {l : LinkId} {a : MoveArgs} {c : Corridor} {k : OrderClass} (h : s.judgeMove l a = .inr c)
    (hk : a.cls = .known k) : serveMove l s a = okWith (s.acceptMove (s.newOrder l a k c)) [.num s.newId] := by
  simp only [serveMove, h, hk]

/-- Settles O36: the refusals row by row; an accepted MOVE is read off what it writes. -/
theorem moveCreatesAnOrder : Obligations.MoveCreatesAnOrder := by
  refine ⟨fun s l a => ⟨judgeMove_spec s l a, fun c hc => (mem_corridorChoices s a c).mp (by simp [(judgeMove_eq_inr hc).2])⟩,
    fun s l a h hmode hf => ⟨fun w hw => congrArg Host.Outcome.next ?_, fun c hc => ?_⟩⟩
  · have hjudge : (s.takeLine l .move).judgeMove l a = .inl w := hw
    exact request_refuses h hf (fun _ => hmode) (by simp only [serveMove, hjudge])
  obtain ⟨k, hk⟩ : ∃ k, a.cls = .known k := by
    have hok := (judgeMove_eq_inr hc).1
    cases hcls : a.cls with
    | known k => exact ⟨k, rfl⟩
    | unknown => exact absurd ((moveOk_false a).mpr (by simp [hcls])) (by simp [hok])
  obtain ⟨x, lanes, hshape, hbench, hlane⟩ := acceptMove_shape (s.takeLine l .move) ((s.takeLine l .move).newOrder l a k c)
  have hserve : serveMove l (s.takeLine l .move) a = _ := serveMove_accepted hc hk
  rw [hshape] at hserve
  have hruns := request_accepted h hf (fun _ => hmode) hserve (.refl _)
  refine ⟨_, k, hk, congrArg Host.Outcome.next rfl, ?_, ?_, ?_, fun b => ?_, fun j => ⟨?_, ?_, ?_, ?_⟩, hruns.calm.cars⟩
  · rw [hruns.calm.benches]; exact hruns.calm.still
  · exact hruns.answer_line.trans (by rw [← s.takeLine_overrun l .move]; rfl)
  · refine hruns.calm.orders.trans ?_
    exact List.map_append
  · rw [State.bench?, hruns.calm.benches]; exact hbench b
  · have hlist := congrArg Lane.benches (hlane j)
    exact (hruns.calm.list j).trans hlist
  · have hlock := congrArg Lane.lock (hlane j)
    exact (hruns.calm.lock j).trans hlock
  · have hout := congrArg Lane.outgoing (hlane j)
    exact (hruns.calm.outgoing j).trans hout
  · have hin := congrArg Lane.incoming (hlane j)
    exact (hruns.calm.incoming j).trans hin

end Sys2Proof.Machine
end

section
/-! PROOFS. HOME (R113), GATE SERVICE (R107), FENCE and UNFENCE (R87 to R90), WATCH (R167). -/

namespace Sys2Proof.Machine

/-! ## HOME -/

@[simp] theorem State.takeLine_hasRecord (s : State) (l : LinkId) (w : ReqWord) (n : CarriageName) :
    (s.takeLine l w).hasRecord n = s.hasRecord n := rfl

theorem isNone_false {α : Type} {o : Option α} (h : o ≠ none) : o.isNone = false := by
  rw [← Bool.not_eq_true, Option.isNone_iff_eq_none]; exact h

theorem hasRecord_iff (s : State) (n : CarriageName) : s.hasRecord n = true ↔ s.item n ≠ none := Option.isSome_iff_ne_none

theorem setRehome_runs (s : State) (n : CarriageName) :
    RunsOnly { s with carriages := s.carriages.set n { s.car n with rehome := true } } (s.setRehome n) := by
  unfold State.setRehome
  simp only []
  split
  · exact .owe _ _
  · exact .refl _

/-- Settles O42: by name, record and state; setting the mark can owe a run of the corridor. -/
theorem homeAsksForAHoming : Obligations.HomeAsksForAHoming := by
  refine fun s l h => ⟨congrArg Host.Outcome.next (request_refuses h rfl nofun rfl), fun n =>
    ⟨fun hn => congrArg Host.Outcome.next (request_refuses h rfl nofun ?_), fun hn => ?_⟩⟩
  · have hrecord : s.hasRecord n = false := by simp [State.hasRecord, hn]
    simp [serveHome, hrecord]
  have hrecord := (hasRecord_iff s n).mpr hn
  refine ⟨fun hstate => congrArg Host.Outcome.next (request_refuses h rfl nofun ?_),
    fun hstate => congrArg Host.Outcome.next (request_replied s l .home _ serveHome _ _ h rfl nofun ?_), fun hstate => ?_⟩
  · rcases hstate with hs | hs <;> simp [serveHome, hrecord, hs]
  · rcases hstate with hs | hs <;> simp [serveHome, hrecord, hs, okWith]
  · have hserve : serveHome (s.takeLine l .home) (.known n) = okWith ((s.takeLine l .home).setRehome n) [] := by
      rcases hstate with hs | hs | hs | hs | hs <;> simp [serveHome, hrecord, hs]
    have hruns := request_accepted (form := fun _ => true) h rfl nofun hserve (setRehome_runs (s.takeLine l .home) n)
    exact ⟨_, congrArg Host.Outcome.next rfl, hruns⟩

/-! ## GATE SERVICE -/

@[simp] theorem State.takeLine_gateInput (s : State) (l : LinkId) (w : ReqWord) (c : Corridor) (k : Nat) :
    (s.takeLine l w).gateInput c k = s.gateInput c k := rfl

theorem numberOk_of_le {k m : Nat} (h : k ≤ m) (hm : m < 10000000000) : numberOk k = true := by
  simp only [numberOk, decide_eq_true_eq]; omega

theorem gateOut_runs (s : State) (c : Corridor) (k : Nat) :
    RunsOnly (s.modGate c k fun g => { g with service := .outOfService, misses := 0, attributed := none }) (s.gateOut c k) := by
  simp only [State.gateOut]
  split
  · exact .notifyAll _ _
  · exact .refl _

theorem gateOut_owed (s : State) (c : Corridor) (k : Nat) : (s.gateOut c k).owed = s.owed := by
  simp only [State.gateOut]
  split <;> rfl

theorem gateOut_hold (s : State) (c d : Corridor) (k : Nat) : s.hold d = (s.gateOut c k).hold d := by
  simp only [State.gateOut]
  split <;> rfl

/-- Settles O44: by name, range, words and item; a gate going out of service is told to every link. -/
theorem gateServiceSetsTheService : Obligations.GateServiceSetsTheService := by
  refine fun s l h => ⟨fun c k w hk hbad => congrArg Host.Outcome.next (request_refuses h hk nofun ?_), fun c k hk => ?_⟩
  · rcases c with c | _
    · rcases w with w | _
      · have hgate : gateNo k = false := (gateNo_false k).mpr (by simpa using hbad)
        simp [serveGateService, hgate]
      · rfl
    · rfl
  have hf (w : ServiceWord) : GateServiceArgs.form ⟨.known c, k, .known w⟩ = true := numberOk_of_le hk (by decide)
  have hgate : gateNo k = true := (gateNo_iff k).mpr hk
  refine ⟨fun w hnone => congrArg Host.Outcome.next (request_refuses h (hf w) nofun ?_), fun hsome => ⟨congrArg Host.Outcome.next
    (request_exact s l .gateService GateServiceArgs.form serveGateService _ ((s.takeLine l .gateService).gateIn c k) _ h (hf .putIn)
      nofun ?_ h.1.2.2 fun _ => rfl), ?_⟩⟩
  · simp [serveGateService, hgate, hnone]
  · have hitem : (s.gateInput c k).isNone = false := isNone_false hsome
    simp [serveGateService, hgate, hitem, okWith, Service.word]
  · have hitem : (s.gateInput c k).isNone = false := isNone_false hsome
    have hserve : serveGateService (s.takeLine l .gateService) ⟨.known c, k, .known .takeOut⟩ =
        okWith ((s.takeLine l .gateService).gateOut c k) [.word "OUT_OF_SERVICE"] := by
      simp [serveGateService, hgate, hitem, Service.word]
    have hruns := request_accepted h (hf .takeOut) nofun hserve (gateOut_runs _ c k)
    refine ⟨_, congrArg Host.Outcome.next rfl, ?_, hruns⟩
    rintro u rfl
    refine (request_exact s l .gateService GateServiceArgs.form serveGateService _ _ _ h (hf .takeOut) nofun hserve
      (by rw [NothingOwed, gateOut_owed]; exact h.1.2.2) fun d => gateOut_hold (s.takeLine l .gateService) c d k).trans ?_
    rfl

/-! ## FENCE -/

theorem setFence_standing {s : State} {c : Corridor} {k : Nat} {f : Fence} (h : (s.seg c k).fence ≠ none) : s.setFence c k f = s := by
  have hsome : (s.seg c k).fence.isNone = false := isNone_false h
  simp only [State.setFence, hsome, Bool.false_eq_true, if_false]

theorem setFence_fresh {s : State} {c : Corridor} {k : Nat} {f : Fence} (h : (s.seg c k).fence = none) : s.setFence c k f =
    ({ s with segments := s.segments.set c ((s.segments.get c).put k { s.seg c k with fence := some f }) } : State).offer
      ⟨.fence c k true f, some c, none, none, none⟩ := by
  have hnone : (s.seg c k).fence.isNone = true := by simp [h]
  simp only [State.setFence, hnone, if_true]
  rfl

@[simp] theorem State.takeLine_seg (s : State) (l : LinkId) (w : ReqWord) (c : Corridor) (k : Nat) : (s.takeLine l w).seg c k = s.seg c k :=
  rfl

@[simp] theorem State.takeLine_segInUse (s : State) (l : LinkId) (w : ReqWord) (c : Corridor) (k : Nat) :
    (s.takeLine l w).segInUse c k = s.segInUse c k := rfl

theorem offer_owed (s : State) (o : Offer) : (s.offer o).owed = s.owed := by rw [offer_fields]

theorem offer_hold (s : State) (o : Offer) (c : Corridor) : s.hold c = (s.offer o).hold c := by rw [offer_fields]; rfl

/-- What FENCE does where the segment's fence is none of the unit's own (R88). -/
theorem serveFence_sets {s : State} {l : LinkId} {c : Corridor} {k : Nat} (hk : k ≤ 39) (huse : s.segInUse c k = true)
    (hfence : ∀ r, (s.seg c k).fence ≠ some (.auto r)) (u : State)
    (hu : u = { s with segments := s.segments.set c ((s.segments.get c).put k { s.seg c k with fence := some (.operator l) }) }) :
    serveFence l s ⟨.known c, k⟩ = okWith
      (if (s.seg c k).fence = none then u.offer ⟨.fence c k true (.operator l), some c, none, none, none⟩ else u) [] := by
  subst hu
  have hseg : segmentNo k = true := (segmentNo_iff k).mpr hk
  simp only [serveFence, hseg, huse, Bool.not_true, Bool.false_eq_true, if_false]
  cases hf : (s.seg c k).fence with
  | none => simp only [setFence_fresh hf, if_true]
  | some f =>
    cases f with
    | auto r => exact absurd hf (hfence r)
    | operator m => rfl

/-- Settles O45: by name, range, item and the fence that stands; a fence set where none stood is offered. -/
theorem fenceSetsAnOperatorFence : Obligations.FenceSetsAnOperatorFence := by
  refine ⟨fun s c k f => ⟨setFence_standing, setFence_fresh⟩, fun s l k h hk => ⟨congrArg Host.Outcome.next (request_refuses h hk nofun rfl),
    fun c => ⟨fun hfar => congrArg Host.Outcome.next (request_refuses h hk nofun ?_), fun hnear =>
      ⟨fun hunused => congrArg Host.Outcome.next (request_refuses h hk nofun ?_), fun huse =>
        ⟨fun r hr => congrArg Host.Outcome.next (request_refuses h hk nofun ?_), fun hfence => ?_⟩⟩⟩⟩⟩
  · simp [serveFence, (segmentNo_false k).mpr hfar]
  · simp [serveFence, (segmentNo_iff k).mpr hnear, hunused]
  · simp [serveFence, (segmentNo_iff k).mpr hnear, huse, hr]
  · have hserve := serveFence_sets (s := s.takeLine l .fence) (l := l) hnear huse hfence _ rfl
    have howed : NothingOwed (s.takeLine l .fence) := h.1.2.2
    refine ⟨_, congrArg Host.Outcome.next (request_exact s l .fence TrackArgs.form (serveFence l) _ _ _ h hk nofun hserve ?_ ?_), ?_, ?_⟩
    · split
      · rw [NothingOwed, offer_owed]; exact howed
      · exact howed
    · intro d
      split
      · rw [← offer_hold]; rfl
      · rfl
    · rintro u rfl
      rfl
    · refine RunsOnly.answer ?_ l .fence _
      split
      · exact .offer _ _
      · exact .refl _

/-! ## UNFENCE -/

theorem liftFence_of_fenced {s : State} {c : Corridor} {k : Nat} {f : Fence} (h : (s.seg c k).fence = some f) : s.liftFence c k =
    ({ s with segments := s.segments.set c ((s.segments.get c).put k { s.seg c k with fence := none }) } : State).offer
      ⟨.fence c k false f, some c, none, none, none⟩ := by
  simp only [State.liftFence, h]
  rfl

theorem laneSelMatches_congr {s t : State} (hy : t.layout = s.layout) (sel : LaneSel) (x : Option Nat) :
    laneSelMatches t sel x = laneSelMatches s sel x := by
  cases sel <;> cases x <;> simp [laneSelMatches, State.laneItem, hy]

/-- A slot judges an event by the layout and the event's bench alone (R168). -/
theorem slotMatches_congr {s t : State} {o : Offer} (hy : t.layout = s.layout) (hb : o.bench.bind t.bench? = o.bench.bind s.bench?) :
    slotMatches t o = slotMatches s o := by
  funext w
  simp only [slotMatches, hb, laneSelMatches_congr hy]

theorem offerOn_links_congr {s t : State} {o : Offer} (hy : t.layout = s.layout) (hb : o.bench.bind t.bench? = o.bench.bind s.bench?)
    (hl : t.links = s.links) (hm : t.millis = s.millis) (l : LinkId) : (t.offerOn o l).links = (s.offerOn o l).links := by
  have hnotify (b : NoticeBody) (f : Option (List Nat)) : (t.notify l b f).links = (s.notify l b f).links := by
    simp only [State.notify, State.modLink, State.seconds, hl, hm]
  simp only [State.offerOn, slotMatches_congr hy hb, show t.link l = s.link l from congrArg (Three.get · l) hl]
  by_cases hown : o.own = some l
  · simp only [if_pos hown, hnotify]
  · by_cases hempty : (firedSet (slotMatches s o) (s.link l).slots).isEmpty = true
    · simp only [if_neg hown, if_pos hempty, hl]
    · simp only [if_neg hown, if_neg hempty, hnotify]

theorem offerOn_fields (s : State) (o : Offer) (l : LinkId) : s.offerOn o l = { s with links := (s.offerOn o l).links } := by
  simp only [State.offerOn]
  split
  · rfl
  · split <;> rfl

/-- What an event writes on the links is told by the layout, its bench, the links and the clock. -/
theorem offer_links_congr {s t : State} {o : Offer} (hy : t.layout = s.layout) (hb : o.bench.bind t.bench? = o.bench.bind s.bench?)
    (hl : t.links = s.links) (hm : t.millis = s.millis) : (t.offer o).links = (s.offer o).links := by
  have hstep (u v : State) (l : LinkId) (h : u.layout = v.layout ∧ o.bench.bind u.bench? = o.bench.bind v.bench? ∧
      u.links = v.links ∧ u.millis = v.millis) : (u.offerOn o l).layout = (v.offerOn o l).layout ∧
      o.bench.bind (u.offerOn o l).bench? = o.bench.bind (v.offerOn o l).bench? ∧ (u.offerOn o l).links = (v.offerOn o l).links ∧
      (u.offerOn o l).millis = (v.offerOn o l).millis := by
    obtain ⟨h1, h2, h3, h4⟩ := h
    have hlinks := offerOn_links_congr h1 h2 h3 h4 l
    rw [offerOn_fields u, offerOn_fields v]
    exact ⟨h1, h2, hlinks, h4⟩
  exact (hstep _ _ .l3 (hstep _ _ .l2 (hstep t s .l1 ⟨hy, hb, hl, hm⟩))).2.2.1

theorem retry_of_none {s : State} {c : Corridor} {k : Nat} (h : (s.seg c k).waiting = []) : s.retry c k = s := by
  simp only [State.retry, h]

theorem seg_offer (s : State) (o : Offer) (c : Corridor) (k : Nat) : (s.offer o).seg c k = s.seg c k := by rw [offer_fields]; rfl

theorem mayLift_eq (s : State) (l : LinkId) (f : Fence) :
    s.mayLift l f = s.permits l (match f with | .operator _ => .fence | .auto _ => .override) := by
  cases f <;> rfl

/-- An answer composed on both sides. -/
theorem Calm.answered {s t : State} (h : Calm s t) (l : LinkId) (w : ReqWord) (r : Reply) : Calm (s.answer l w r) (t.answer l w r) := by
  refine ⟨h.still, h.lanes, fun m => ?_, h.cars, h.orders⟩
  have ho := h.overrun l
  have hm := h.ports m
  simp only [State.portStand, State.link, State.answer, State.modLink, Three.get_set] at ho hm ⊢
  split
  · rename_i e; subst e
    simp only [Prod.mk.injEq] at hm ⊢
    exact ⟨hm.1, hm.2.1, hm.2.2.1, hm.2.2.2.1, by rw [ho], hm.2.2.2.2.2⟩
  · exact hm

/-- Settles O46: by name, range, fence and permission; a lift is offered, and the carriages waiting at the segment retry. -/
theorem unfenceLiftsTheFence : Obligations.UnfenceLiftsTheFence := by
  refine ⟨fun s l k h hk => ⟨congrArg Host.Outcome.next (request_refuses h hk nofun rfl), fun c =>
    ⟨fun hfar => congrArg Host.Outcome.next (request_refuses h hk nofun ?_), fun hnear =>
      ⟨fun hnone => congrArg Host.Outcome.next (request_refuses h hk nofun ?_), fun f hfence =>
        ⟨fun hdenied => congrArg Host.Outcome.next (request_refuses h hk nofun ?_), fun hmay => ?_⟩⟩⟩⟩,
    fun s c k f hfence => ?_, fun s c k => ⟨retry_of_none, fun n hn => by simp only [State.retry, hn], fun n m hnm => ?_⟩⟩
  · simp [serveUnfence, (segmentNo_false k).mpr hfar]
  · simp [serveUnfence, (segmentNo_iff k).mpr hnear, hnone]
  · have hlift : (s.takeLine l .unfence).mayLift l f = false := (mayLift_eq ..).trans hdenied
    simp [serveUnfence, (segmentNo_iff k).mpr hnear, hfence, hlift]
  · have hlift : (s.takeLine l .unfence).mayLift l f = true := (mayLift_eq ..).trans hmay
    have hserve : serveUnfence l (s.takeLine l .unfence) ⟨.known c, k⟩ =
        okWith (((s.takeLine l .unfence).liftFence c k).retry c k) [] := by
      simp [serveUnfence, (segmentNo_iff k).mpr hnear, hfence, hlift]
    have hserves := request_serves (form := TrackArgs.form) (a := ⟨.known c, k⟩) h hk nofun hserve
    refine ⟨_, congrArg Host.Outcome.next hserves, rfl, ?_, fun hwait => ?_⟩
    · exact Calm.answered (((Calm.liftFence _ c k).trans (.retry _ c k)).trans (.finish _ _)) l .unfence _
    · refine runsOnly_finish_answer ?_
      rw [liftFence_of_fenced (s := s.takeLine l .unfence) hfence, retry_of_none]
      · exact .offer _ _
      · rw [seg_offer]
        simp [State.seg, Two.get_set]
        exact hwait
  · rw [liftFence_of_fenced hfence, offer_fields]
    have hlinks := offer_links_congr (s := s)
      (t := { s with segments := s.segments.set c ((s.segments.get c).put k { s.seg c k with fence := none }) })
      (o := ⟨.fence c k false f, some c, none, none, none⟩) rfl rfl rfl rfl
    rw [hlinks]
  · simp only [State.retry, hnm]
    split
    · exact .inr rfl
    · exact .inl rfl

/-! ## WATCH -/

theorem namedAll_eq_some {α : Type} (l : List (Named α)) (x : List α) : namedAll l = some x ↔ l = x.map .known := by
  induction l generalizing x with
  | nil => cases x <;> simp [namedAll]
  | cons a rest ih =>
    cases a with
    | unknown => cases x <;> simp [namedAll]
    | known a =>
      cases x with
      | nil => simp [namedAll]
      | cons b y =>
        simp only [namedAll, Option.map_eq_some_iff, ih, List.map_cons, List.cons.injEq, Named.known.injEq]
        constructor
        · rintro ⟨z, hz, rfl, rfl⟩; exact ⟨rfl, hz⟩
        · rintro ⟨rfl, hrest⟩; exact ⟨y, hrest, rfl, rfl⟩

theorem namedAll_eq_none {α : Type} (l : List (Named α)) : namedAll l = none ↔ .unknown ∈ l := by
  induction l with
  | nil => simp [namedAll]
  | cons a rest ih => cases a <;> simp [namedAll, ih]

theorem mem_of_namedAll {α : Type} [DecidableEq α] {l : List (Named α)} {x : List α} (h : namedAll l = some x) (defs : List α) :
    defs.filter x.contains = defs.filter fun k => decide (.known k ∈ l) := by
  rw [(namedAll_eq_some l x).mp h]
  exact List.filter_congr fun k _ => by simp

theorem laneSelOf_eq_some (a : LaneSelArg) (sel : LaneSel) : laneSelOf a = some sel ↔
    match a with
    | .any => sel = .any
    | .number n => 1 ≤ n ∧ n ≤ 120 ∧ sel = .number n
    | .kind k => sel = .kind k
    | .unknown => False := by
  cases a with
  | any => simp [laneSelOf, eq_comm]
  | number n =>
    simp only [laneSelOf]
    split
    · rename_i h; rw [laneNo_iff] at h; simp [h.1, h.2, eq_comm]
    · rename_i h; rw [laneNo_iff] at h; simp; grind
  | kind k => simp [laneSelOf, eq_comm]
  | unknown => simp [laneSelOf]

theorem slotOf_eq_some (a : SlotArgs) (w : WatchSlot) : slotOf a = some w ↔
    w.enabled = a.enabled ∧ a.andPrev = .known w.andPrev ∧ .unknown ∉ a.events ∧
    w.events = [EventKind.arrived, .departed, .ended, .identity, .fence].filter (fun k => decide (.known k ∈ a.events)) ∧
    a.corridor = .known w.corridor ∧ laneSelOf a.lane = some w.lane ∧
    a.batchValue ≤ 65535 ∧ w.batchValue = a.batchValue ∧ a.batchMask ≤ 65535 ∧ w.batchMask = a.batchMask ∧ .unknown ∉ a.readiness ∧
    w.readiness = [Readiness.growing, .ready, .held, .empty].filter (fun r => decide (.known r ∈ a.readiness)) ∧
    w.reference = a.reference ∧ ∀ v, a.reference = .equal v → 1 ≤ v ∧ v ≤ 999999 := by
  obtain ⟨enabled, andPrev, events, corridor, lane, batchValue, batchMask, readiness, reference⟩ := a
  obtain ⟨wenabled, wprev, wevents, wcorridor, wlane, wvalue, wmask, wready, wref⟩ := w
  have hreference (b : Bool) (hb : b = (match reference with | .equal v => referenceNo v | _ => true)) :
      b = true ↔ ∀ v, reference = .equal v → 1 ≤ v ∧ v ≤ 999999 := by
    subst hb; cases reference <;> simp [referenceNo_iff]
  rcases andPrev with p | _
  rotate_left
  · simp [slotOf, Named.val?]
  rcases corridor with c | _
  rotate_left
  · simp only [slotOf, Named.val?]
    simp
  cases hev : namedAll events with
  | none => simp [slotOf, hev, (namedAll_eq_none events).mp hev]
  | some ev =>
    cases hrd : namedAll readiness with
    | none => simp [slotOf, hrd, (namedAll_eq_none readiness).mp hrd]
    | some rd =>
      cases hsel : laneSelOf lane with
      | none => simp [slotOf, hsel]
      | some sel =>
        have hevents : .unknown ∉ events := fun h => by simp [(namedAll_eq_none events).mpr h] at hev
        have hready : .unknown ∉ readiness := fun h => by simp [(namedAll_eq_none readiness).mpr h] at hrd
        simp only [slotOf, Named.val?, hev, hrd, hsel, ← mem_of_namedAll hev, ← mem_of_namedAll hrd]
        rw [Option.ite_none_right_eq_some, Bool.and_eq_true, Bool.and_eq_true, word16_iff, word16_iff]
        refine Iff.trans (and_congr (and_congr Iff.rfl (hreference _ rfl)) Iff.rfl) ?_
        simp only [Named.known.injEq, Option.some.injEq, WatchSlot.mk.injEq]
        constructor
        · rintro ⟨⟨⟨hvalue, hmask⟩, href⟩, rfl, rfl, rfl, rfl, rfl, rfl, rfl, rfl, rfl⟩
          exact ⟨rfl, rfl, hevents, rfl, rfl, rfl, hvalue, rfl, hmask, rfl, hready, rfl, rfl, href⟩
        · rintro ⟨rfl, rfl, -, rfl, rfl, rfl, hvalue, rfl, hmask, rfl, -, rfl, rfl, href⟩
          exact ⟨⟨⟨hvalue, hmask⟩, href⟩, rfl, rfl, rfl, rfl, rfl, rfl, rfl, rfl, rfl⟩

theorem slotFields_eq (w : WatchSlot) : slotFields w =
    [.word (if w.enabled = true then "YES" else "NO"), .word (if w.andPrev = true then "SET" else "CLEAR"),
     .words (w.events.map fun k => match k with
       | .arrived => "ARRIVED" | .departed => "DEPARTED" | .ended => "ENDED" | .identity => "IDENTITY" | .fence => "FENCE"),
     match w.corridor with | some c => .word (Corridor.word c) | none => .word "ANY",
     match w.lane with | .any => .word "ANY" | .number n => .num n | .kind k => .word (LaneKind.word k),
     .num w.batchValue, .num w.batchMask, .words (w.readiness.map Readiness.word)]
    ++ match w.reference with
      | .any => [.word "ANY"] | .present => [.word "PRESENT"] | .absent => [.word "ABSENT"] | .equal v => [.word "EQUAL", .num v] := by
  have hword : EventKind.word = fun k => match k with
      | .arrived => "ARRIVED" | .departed => "DEPARTED" | .ended => "ENDED" | .identity => "IDENTITY" | .fence => "FENCE" := by
    funext k; cases k <;> rfl
  rw [slotFields, hword]
  rfl

theorem slotAt_takeLine (s : State) (l : LinkId) (w : ReqWord) (i : Nat) : (s.takeLine l w).slotAt l i = s.slotAt l i := by
  cases l <;> rfl

/-- A WATCH that writes its slot. -/
theorem watch_writes {s : State} {l : LinkId} {i : Nat} {op : WatchOp} (h : Ready s l) (hf : (WatchArgs.mk i op).form = true) (w : WatchSlot)
    (hs : ∀ t : State, serveWatch l t ⟨i, op⟩ = okWith (t.writeSlot l i w) (slotFields w)) :
    exec (.watch l (.args ⟨i, op⟩)) s = .next ((s.writeSlot l i w).replied l .watch (.ok (slotFields w))) :=
  congrArg Host.Outcome.next (request_modLink s l .watch WatchArgs.form (serveWatch l) ⟨i, op⟩ (fun k => { k with slots := k.slots.set i w })
    _ ⟨h, rfl⟩ hf nofun (fun _ => rfl) (hs _))

/-- Settles O47: by the index and the three forms; a slot is written as its fields spell it. -/
theorem watchReadsAndWritesASlot : Obligations.WatchReadsAndWritesASlot := by
  refine ⟨fun a w => ?_, slotFields_eq, fun s l i h hi => ⟨fun op hf hfar => ?_, fun hnear => ⟨?_, ?_, fun b hb => ⟨fun hnone => ?_, fun w hw => ?_⟩⟩⟩⟩
  · simp only [slotOf_eq_some, laneSelOf_eq_some] <;> rfl
  · exact congrArg Host.Outcome.next (request_refuses (serve := serveWatch l) ⟨h, rfl⟩ hf nofun (if_pos hfar))
  · refine congrArg Host.Outcome.next (request_replied s l .watch _ (serveWatch l) _ _ ⟨h, rfl⟩ (by simp [WatchArgs.form, hi]) nofun ?_)
    simp [serveWatch, Nat.not_le.mpr hnear, slotAt_takeLine, okWith]
  · exact watch_writes h (by simp [WatchArgs.form, hi]) _ fun t => by simp [serveWatch, Nat.not_le.mpr hnear, WatchSlot.cleared]
  · refine congrArg Host.Outcome.next (request_refuses (serve := serveWatch l) ⟨h, rfl⟩ (by simp [WatchArgs.form, hi, hb]) nofun ?_)
    simp [serveWatch, Nat.not_le.mpr hnear, hnone]
  · exact watch_writes h (by simp [WatchArgs.form, hi, hb]) w fun t => by simp [serveWatch, Nat.not_le.mpr hnear, hw]

end Sys2Proof.Machine
end

section
/-! PROOFS. The reading requests (R5, R30, R58, R76, R95, R108, R127, R154). -/

namespace Sys2Proof.Machine

/-- A read whose operand has a range answers RANGE outside it, and else what stands there. -/
theorem request_reads_in_range {α : Type} {s : State} {l : LinkId} {w : ReqWord} {form : α → Bool} {serve : State → α → Served} {a : α}
    {ok : Bool} {out : Prop} [Decidable out] {r : Reply} (h : Asks s l w) (hf : form a = true) (hr : w = .move → s.mode = .running)
    (hrange : ok = false ↔ out)
    (hs : serve (s.takeLine l w) a = if ok then ⟨s.takeLine l w, some r⟩ else refuse (s.takeLine l w) .range) :
    request s l w form (.args a) serve = s.replied l w (if out then .refuse .range else r) := by
  refine request_replied s l w form serve a _ h hf hr ?_
  cases ok with
  | false => rw [hs, if_pos (hrange.mp rfl)]; rfl
  | true => rw [hs, if_neg fun ho => Bool.noConfusion (hrange.mpr ho)]; rfl

theorem ofNumber_isSome_iff (n : Nat) : (LinkId.ofNumber n).isSome = true ↔ 1 ≤ n ∧ n ≤ 3 := by
  match n with
  | 0 => simp [LinkId.ofNumber]
  | 1 => simp [LinkId.ofNumber]
  | 2 => simp [LinkId.ofNumber]
  | 3 => simp [LinkId.ofNumber]
  | k + 4 => simp [LinkId.ofNumber]

/-! ## Fields of orders, carriages, segments and gates -/

theorem dockedFields_eq (c : Corridor) (v : Carriage) : dockedFields c v =
    match v.docked with
    | some k => if v.state = .docked then [.num k, .word (Corridor.word c)] else [.word "NONE"]
    | none => [.word "NONE"] := by
  simp only [dockedFields]
  cases v.docked <;> cases v.state <;> rfl

theorem markFields_eq (x : Option TransferMark) : markFields x =
    match x with
    | some k => [.num k.lane, .word (Corridor.word k.mouth), .num k.bench]
    | none => [.word "CLEAR"] := by
  cases x <;> rfl

theorem homingFieldsOf_eq (x : Option HomingFields) : homingFieldsOf x =
    match x with
    | some h => [.num h.gate, .num h.target, .num h.start]
    | none => [.word "NONE"] := by
  cases x <;> rfl

theorem transferFields_eq (c : Corridor) (x : Option Transfer) : transferFields c x =
    match x with
    | some t =>
      [.word t.kind.word, .num t.lane, .word (Corridor.word c), .word (Side.word t.side), .num t.order, .num t.bench,
       .word (if t.startLoaded = true then "LOADED" else "EMPTY"), .num t.start]
    | none => [.word "NONE"] := by
  cases x <;> rfl

theorem authorityWord_eq (x : Option (Int × EndKind)) :
    (match x with | some (a, k) => [Field.num a, .word k.word] | none => [Field.none]) =
      match x with
      | some (a, .runEnd) => [.num a, .word "RUN_END"]
      | some (a, .fenceEnd) => [.num a, .word "FENCE_END"]
      | none => [.word "NONE"] := by
  rcases x with _ | ⟨a, _ | _⟩ <;> rfl

theorem figureFields_eq (x : Option Figures) : figureFields x =
    match x with
    | none => [.word "NONE"]
    | some g =>
      (match g.authority with
       | some (a, .runEnd) => [.num a, .word "RUN_END"]
       | some (a, .fenceEnd) => [.num a, .word "FENCE_END"]
       | none => [.word "NONE"])
      ++ [optInt g.dA, optInt g.dT, .num g.capV, optNum g.capA, optNum g.capT, optNum g.capC, .num g.cap, .word g.mode.word,
          match g.target with | some t => .num t.toInt | none => .word "NONE", .num g.second] := by
  cases x with
  | none => rfl
  | some g => exact congrArg (· ++ _) (authorityWord_eq g.authority)

/-- The effective state of a segment as its two words (R78). -/
def Segment.effectiveWords (v : Segment) : List Field :=
  match v.fence, v.running, v.standing with
  | some _, _, _ => [.word "FENCED", .word "NONE"]
  | none, some (n, _), _ => [.word "RUNNING", .word (CarriageName.word n)]
  | none, none, some n => [.word "STANDING", .word (CarriageName.word n)]
  | none, none, none => [.word "FREE", .word "NONE"]

theorem effectiveFields_eq (v : Segment) : v.effectiveFields = v.effectiveWords := by
  simp only [Segment.effectiveFields, Segment.effective, Segment.effectiveWords]
  cases v.fence <;> cases v.running <;> cases v.standing <;> rfl

/-- What stands behind the fields of a segment in use: its boundaries. -/
theorem useFields_eq (e : Option Nat) (b : Option (Nat × Nat)) :
    ([yesNo e.isSome] ++ if e.isSome = true then [optNum (b.map (·.1)), optNum (b.map (·.2))] else []) =
      match e, b with
      | none, _ => [.word "NO"]
      | some _, some b => [.word "YES", .num b.1, .num b.2]
      | some _, none => [.word "YES", .word "NONE", .word "NONE"] := by
  cases e <;> cases b <;> rfl

theorem gateUseFields_eq (e : Option Nat) (b : Option Nat) :
    ([yesNo e.isSome] ++ if e.isSome = true then [optNum b] else []) =
      match e, b with
      | none, _ => [.word "NO"]
      | some _, some g => [.word "YES", .num g]
      | some _, none => [.word "YES", .word "NONE"] := by
  cases e <;> cases b <;> rfl

theorem fenceWords_eq (x : Option Fence) :
    (match x with | some f => fenceFields f | none => [Field.none]) =
      match x with
      | some (.operator l) => [.word "OPERATOR", .num l.number]
      | some (.auto (.intrusion i)) => [.word "AUTO", .word "INTRUSION", .num i]
      | some (.auto (.carriageLost n)) => [.word "AUTO", .word "CARRIAGE_LOST", .word (CarriageName.word n)]
      | some (.auto .restartOverlap) => [.word "AUTO", .word "RESTART_OVERLAP"]
      | none => [.word "NONE"] := by
  rcases x with _ | _ | (_ | _ | _) <;> rfl

theorem fenceKind_eq (v : Segment) : v.fenceKind =
    match v.fence with | some (.operator _) => .word "OPERATOR" | some (.auto _) => .word "AUTO" | none => .word "NONE" := by
  simp only [Segment.fenceKind]
  rcases v.fence with _ | _ | _ <;> rfl

theorem segmentListFields_eq (s : State) (c : Corridor) : s.segmentListFields c =
    .num (s.layout.segments.get c).entries.length
      :: ((s.layout.segments.get c).entries.flatMap fun e => .num e.1 :: (s.seg c e.1).effectiveFields ++ [(s.seg c e.1).fenceKind])
      ++ ((s.segments.get c).entries.filter fun e =>
            decide ((s.layout.segments.get c).get? e.1 = none ∧ e.2.fence ≠ none)).flatMap fun e => [.num e.1, e.2.fenceKind] := by
  have hkeys : ∀ g : Nat → List Field, (s.segsInUse c).flatMap g = (s.layout.segments.get c).entries.flatMap fun e => g e.1 :=
    fun g => List.flatMap_map ..
  have hfence : (fun e : Nat × Segment => !s.segInUse c e.1 && e.2.fence.isSome) =
      fun e => decide ((s.layout.segments.get c).get? e.1 = none ∧ e.2.fence ≠ none) := by
    funext e
    simp only [State.segInUse, Table.has, Bool.decide_and]
    cases (s.layout.segments.get c).get? e.1 <;> cases e.2.fence <;> rfl
  rw [State.segmentListFields, hkeys, hfence]
  rfl

/-- A read of a carriage's record answers UNKNOWN where the carriage has none (R76, R127). -/
theorem recordServed (s : State) (l : LinkId) (w : ReqWord) (n : CarriageName) (f : List Field) :
    (if (s.takeLine l w).hasRecord n then okWith (s.takeLine l w) f else refuse (s.takeLine l w) .unknown) =
      ⟨s.takeLine l w, some (if s.item n = none then .refuse .unknown else .ok f)⟩ := by
  have hrecord : (s.takeLine l w).hasRecord n = (s.item n).isSome := rfl
  rw [hrecord]
  cases s.item n <;> rfl

/-- Settles O18: the fields of each record are those the model writes, place by place; each read answers them, or refuses by its range. -/
theorem recordReads : Obligations.RecordReads := by
  refine ⟨fun o l => ⟨?_, rfl⟩, ?_, ?_, ?_, fun s address n => ?_, fun s l h => ?_, fun s l h => ?_⟩
  · rcases o with ⟨_, _, _, _, _ | _ | _⟩ <;> rfl
  · rintro n v orNone intOrNone rfl rfl
    constructor
    · rw [carriageFields, dockedFields_eq, markFields_eq, homingFieldsOf_eq, transferFields_eq]
      rfl
    · rw [authorityFields, figureFields_eq]
      rfl
  · rintro s c k g kind rfl rfl
    constructor
    · have huse := useFields_eq ((s.layout.segments.get c).get? k) (s.layout.bounds c k)
      have hfence := fenceWords_eq (s.seg c k).fence
      rw [State.segmentFields, effectiveFields_eq]
      exact congrArg (· ++ _ ++ _ ++ _ ++ _ ++ _) huse |>.trans (congrArg (_ ++ · ++ _ ++ _ ++ _ ++ _) hfence)
    · rw [segmentListFields_eq]
      simp only [effectiveFields_eq, fenceKind_eq]
      rfl
  · intro s c k level hlevel
    obtain rfl : level = fun v => .word (Level.word v) := by
      rw [hlevel]; funext v; cases v <;> rfl
    have huse := gateUseFields_eq (s.gateInput c k) (s.layout.gatePos c k)
    rw [State.gateFields, List.append_assoc]
    refine (congrArg (List.append _) huse).trans ?_
    rfl
  · simp only [driveFields]
    cases (s.car n).lastAnswer <;> rfl
  · refine ⟨fun id hf => congrArg Host.Outcome.next (request_reads_in_range (ok := orderNo id) ⟨h, rfl⟩ hf nofun (orderNo_false id) ?_),
      congrArg Host.Outcome.next (request_replied s l _ _ serveOrderList _ _ ⟨h, rfl⟩ rfl nofun rfl),
      fun n hf => congrArg Host.Outcome.next (request_replied s l _ _ serveOrderList _ _ ⟨h, rfl⟩ hf nofun ?_),
      fun n => congrArg Host.Outcome.next (request_replied s l _ _ serveCarriageGet _ _ ⟨h, rfl⟩ rfl nofun ?_),
      congrArg Host.Outcome.next (request_refuses ⟨h, rfl⟩ rfl nofun rfl),
      fun c => congrArg Host.Outcome.next (request_replied s l _ _ serveCarriageList _ _ ⟨h, rfl⟩ rfl nofun rfl),
      congrArg Host.Outcome.next (request_refuses ⟨h, rfl⟩ rfl nofun rfl),
      fun n => congrArg Host.Outcome.next (request_replied s l _ _ serveAuthorityGet _ _ ⟨h, rfl⟩ rfl nofun ?_),
      congrArg Host.Outcome.next (request_refuses ⟨h, rfl⟩ rfl nofun rfl)⟩
    · have horder : (s.takeLine l .orderGet).order? id = s.order? id := rfl
      simp only [serveOrderGet, horder]
      cases orderNo id <;> cases s.order? id <;> rfl
    · simp only [serveOrderList]
      cases LinkId.ofNumber n <;> rfl
    · exact recordServed s l _ n _
    · exact recordServed s l _ n _
  · refine ⟨fun c k hf => congrArg Host.Outcome.next (request_reads_in_range (ok := segmentNo k) ⟨h, rfl⟩ hf nofun (segmentNo_false k) rfl),
      fun k hf => congrArg Host.Outcome.next (request_refuses ⟨h, rfl⟩ hf nofun rfl),
      fun c => congrArg Host.Outcome.next (request_replied s l _ _ serveSegmentList _ _ ⟨h, rfl⟩ rfl nofun rfl),
      congrArg Host.Outcome.next (request_refuses ⟨h, rfl⟩ rfl nofun rfl),
      fun c k hf => congrArg Host.Outcome.next (request_reads_in_range (ok := gateNo k) ⟨h, rfl⟩ hf nofun (gateNo_false k) rfl),
      fun k hf => congrArg Host.Outcome.next (request_refuses ⟨h, rfl⟩ hf nofun rfl),
      fun c => congrArg Host.Outcome.next (request_replied s l _ _ serveLineGet _ _ ⟨h, rfl⟩ rfl nofun rfl),
      congrArg Host.Outcome.next (request_refuses ⟨h, rfl⟩ rfl nofun rfl)⟩

/-! ## The layout and the inventory -/

theorem north_eq_sum (y : Layout) (c : Corridor) : ∀ k, (∀ j, j < k → (y.segments.get c).get? j ≠ none) →
    y.north c k = some ((List.range k).map fun j => ((y.segments.get c).get? j).getD 0).sum
  | 0, _ => rfl
  | k + 1, h => by
    obtain ⟨e, he⟩ := Option.ne_none_iff_exists'.mp (h k (Nat.lt_succ_self k))
    rw [Layout.north, north_eq_sum y c k fun j hj => h j (Nat.lt_succ_of_lt hj), he, List.range_succ]
    simp [he]

theorem north_eq_none (y : Layout) (c : Corridor) (j : Nat) (hj : (y.segments.get c).get? j = none) : ∀ k, j < k → y.north c k = none
  | 0, h => absurd h (Nat.not_lt_zero j)
  | k + 1, h => by
    rw [Layout.north]
    rcases Nat.lt_succ_iff_lt_or_eq.mp h with hlt | rfl
    · simp [north_eq_none y c j hj k hlt]
    · rw [hj]
      cases y.north c j <;> rfl

theorem bounds_eq_none (y : Layout) (c : Corridor) (j k : Nat) (hj : (y.segments.get c).get? j = none) (h : j ≤ k) :
    y.bounds c k = none := by
  rw [Layout.bounds]
  rcases Nat.lt_or_eq_of_le h with hlt | rfl
  · rw [north_eq_none y c j hj k hlt]
  · rw [hj]
    cases y.north c j <;> rfl

theorem keyOk_iff (k : ItemKey) : keyOk k = true ↔
    match k with
    | .corridor c => c ≠ .unknown
    | .segment c k => c ≠ .unknown ∧ k ≤ 39
    | .gate c k => c ≠ .unknown ∧ k ≤ 40
    | .lane n => 1 ≤ n ∧ n ≤ 120
    | .mouth n c => 1 ≤ n ∧ n ≤ 120 ∧ c ≠ .unknown
    | .carriage n => n ≠ .unknown
    | .link n => 1 ≤ n ∧ n ≤ 3
    | .timing k => k ≠ .unknown := by
  cases k with
  | corridor c => cases c <;> simp [keyOk]
  | segment c k => cases c <;> simp [keyOk, segmentNo_iff]
  | gate c k => cases c <;> simp [keyOk, gateNo_iff]
  | lane n => exact laneNo_iff n
  | mouth n c => cases c <;> simp [keyOk, laneNo_iff]
  | carriage n => cases n <;> simp [keyOk]
  | link n => exact ofNumber_isSome_iff n
  | timing k => cases k <;> simp [keyOk]

theorem mouthsFields_eq (it : Option LaneItem) (f t : Option MouthItem) :
    (if (it.isSome && (f.isSome || t.isSome)) = true then mouthFields .f f ++ mouthFields .t t else [Field.none]) =
      match it, f, t with
      | some _, some a, some b => [.word "F", .word (Side.word a.side), .num a.dock, .word "T", .word (Side.word b.side), .num b.dock]
      | some _, some a, none => [.word "F", .word (Side.word a.side), .num a.dock]
      | some _, none, some b => [.word "T", .word (Side.word b.side), .num b.dock]
      | _, _, _ => [.word "NONE"] := by
  cases it <;> cases f <;> cases t <;> rfl

theorem laneItemFields_eq (it : Option LaneItem) :
    [(match it with | some i => .word (LaneKind.word i.kind) | none => Field.none),
     (match it.bind (·.role) with | some r => .word (StationRole.word r) | none => Field.none), optNum (it.map (·.capacity))] =
      match it with
      | some it =>
        [.word (LaneKind.word it.kind), match it.role with | some r => .word (StationRole.word r) | none => .word "NONE", .num it.capacity]
      | none => [.word "NONE", .word "NONE", .word "NONE"] := by
  cases it <;> rfl

/-- Settles O17: the keys by their words and numbers, the fields place by place, the boundaries by their sums, and each read by its range. -/
theorem layoutAndInventoryReads : Obligations.LayoutAndInventoryReads := by
  refine ⟨keyOk_iff, fun s c k n x l => ⟨?_, ?_, ?_, ?_, rfl, rfl, ?_, rfl, rfl⟩, ?_, ?_, ?_, fun s l h => ⟨fun k hf => ?_, fun n hf => ?_, fun b hf => ?_⟩⟩
  · simp only [State.itemFields]
    cases s.layout.length.get c <;> rfl
  · simp only [State.itemFields]
    cases (s.layout.segments.get c).get? k <;> cases s.layout.bounds c k <;> rfl
  · simp only [State.itemFields, State.gateInput]
    cases (s.layout.gates.get c).get? k <;> cases s.layout.gatePos c k <;> rfl
  · simp only [State.itemFields, State.laneItem]
    cases s.layout.lanes.get? n <;> rfl
  · cases l <;> rfl
  · rintro y c k north rfl
    refine ⟨fun hall e he => ?_, fun ⟨j, hjk, hj⟩ => bounds_eq_none y c j k hj hjk, rfl⟩
    simp only [Layout.bounds, north_eq_sum y c k hall, he]
  · rintro s n straddlers rfl
    have hitem := laneItemFields_eq (s.laneItem n)
    have hmouths := mouthsFields_eq (s.laneItem n) (s.mouth n .f) (s.mouth n .t)
    refine (congrArg (fun x => Field.num n :: x ++ _ ++ _) hitem).trans
      ((congrArg (fun x => Field.num n :: _ ++ x ++ _) hmouths).trans ?_)
    rfl
  · intro s b v
    rcases v with ⟨_, _, _, _ | _ | _ | _, _ | _ | _ | _, _, _⟩ <;> rfl
  · have hreads : serveLayoutGet (s.takeLine l .layoutGet) k = ⟨s.takeLine l .layoutGet,
        some (if keyOk k = false then .refuse .range else match s.itemFields k with | none => .refuse .unknown | some f => .ok f)⟩ := by
      have hfields : (s.takeLine l .layoutGet).itemFields k = s.itemFields k := by
        rcases k with (_ | _) | ⟨_ | _, _⟩ | ⟨_ | _, _⟩ | _ | ⟨_, _ | _⟩ | (_ | _) | _ | ((_ | _) | _) <;> rfl
      rw [serveLayoutGet, hfields]
      cases keyOk k <;> cases s.itemFields k <;> rfl
    exact congrArg Host.Outcome.next (request_replied s l .layoutGet _ serveLayoutGet _ _ ⟨h, rfl⟩ hf nofun hreads)
  · have hreads : serveLaneGet (s.takeLine l .laneGet) n = if laneNo n then
        ⟨s.takeLine l .laneGet, some (if s.laneItem n = none ∧ (s.lane n).benches = [] then .refuse .unknown else .ok (s.laneFields n))⟩
        else refuse (s.takeLine l .laneGet) .range := by
      have hfields : (s.takeLine l .laneGet).laneFields n = s.laneFields n := rfl
      rw [serveLaneGet, hfields, State.takeLine_laneItem, State.takeLine_lane]
      cases laneNo n <;> cases s.laneItem n <;> cases (s.lane n).benches <;> rfl
    refine congrArg Host.Outcome.next ((request_reads_in_range (w := .laneGet) (serve := serveLaneGet) ⟨h, rfl⟩ hf nofun (laneNo_false n) hreads).trans ?_)
    rfl
  · have hreads : serveBenchGet (s.takeLine l .benchGet) b = if benchNo b then
        ⟨s.takeLine l .benchGet, some (match s.bench? b with | none => .refuse .unknown | some v => .ok (s.benchFields b v))⟩
        else refuse (s.takeLine l .benchGet) .range := by
      rw [serveBenchGet, State.takeLine_bench?]
      cases benchNo b <;> cases s.bench? b <;> rfl
    refine congrArg Host.Outcome.next ((request_reads_in_range (w := .benchGet) (serve := serveBenchGet) ⟨h, rfl⟩ hf nofun (benchNo_false b) hreads).trans ?_)
    rfl

end Sys2Proof.Machine
end

section
/-! PROOFS. Power and the store: POWER_ON, POWER_LOSS, RESTART (R12, R14, R15, R17) and SAVE (R13, R177). -/

namespace Sys2Proof.Machine

/-! ## Power -/

theorem execPowerOn_unpowered {s : State} (h : s.powered = false) (pins : Pins) : execPowerOn pins s = .next (s.start pins true) := by
  simp [execPowerOn, h]

theorem execPowerOn_powered {s : State} (h : s.powered = true) (pins : Pins) :
    execPowerOn pins s = .next ((s.powerFails false).start pins true) := by
  simp [execPowerOn, h]

theorem portJudges_restart {s : State} {l : LinkId} (h : Asks s l .restart) :
    portJudges (s.takeLine l .restart) l .restart (fun _ => true) (.args ()) = .inr () :=
  portJudges_ok _ l .restart _ () rfl h.2 nofun

theorem execRestart_asked {s : State} {l : LinkId} (pins : Pins) (h : Asks s l .restart) :
    execRestart l (.args ()) pins s =
      .next (if s.storeBusy.isSome then s.replied l .restart (.refuse .busy) else (s.takeLine l .restart).restart l pins) := by
  simp only [execRestart, h.1.1, h.1.2.1, portJudges_restart h, Bool.not_true, Bool.false_eq_true, if_false, Option.isSome_none]
  rfl

theorem restart_eq (s : State) (l : LinkId) (w : ReqWord) (pins : Pins) : (s.takeLine l w).restart l pins =
    { (s.takeLine l w).start pins false with
      links := ((s.takeLine l w).start pins false).links.set l
        { ((s.takeLine l w).start pins false).link l with answer := some ⟨.restart, .ok, [], (s.link l).overrun, []⟩ } } := by
  have hanswer : (((s.takeLine l w).answer l .restart (.ok [])).link l).answer =
      some ⟨.restart, .ok, [], (s.link l).overrun, []⟩ := by
    rw [← State.takeLine_overrun s l w]
    cases l <;> rfl
  simp only [State.restart, hanswer]
  rfl

/-- Settles O20: each power row is the start or the failure of the supply; RESTART is taken as a request before it starts. -/
theorem powerRowsStartAndStop : Obligations.PowerRowsStartAndStop := by
  intro s
  refine ⟨fun pins h => execPowerOn_unpowered h pins, fun pins h => execPowerOn_powered h pins, fun cut h => ?_,
    fun l pins h hstore => ?_, fun l pins h hstore => ?_⟩
  · exact congrArg Host.Outcome.next (if_pos h)
  · refine (execRestart_asked pins h).trans (congrArg Host.Outcome.next ?_)
    rw [hstore, restart_eq]
    rfl
  · refine (execRestart_asked pins h).trans (congrArg Host.Outcome.next ?_)
    rw [if_pos (Option.isSome_iff_ne_none.mpr hstore)]

/-! ## The store -/

theorem busyFor_iff (s : State) (l : LinkId) : s.busyFor l = true ↔ s.storeBusy ≠ none ∧ s.storeBusy ≠ some l := by
  simp only [State.busyFor]
  cases s.storeBusy <;> simp

theorem busyFor_false (s : State) (l : LinkId) : s.busyFor l = false ↔ s.storeBusy = none ∨ s.storeBusy = some l := by
  rw [← Bool.not_eq_true, busyFor_iff]
  grind

/-- A request whose block answers later: its event leaves what the block wrote, where that owes nothing and touches no hold. -/
theorem request_silent {α : Type} {s : State} {l : LinkId} {w : ReqWord} {form : α → Bool} {serve : State → α → Served} {a : α} {u : State}
    (h : Asks s l w) (hf : form a = true) (hr : w = .move → s.mode = .running) (hs : serve (s.takeLine l w) a = ⟨u, none⟩)
    (ho : NothingOwed u) (hh : ∀ c, s.hold c = u.hold c) : request s l w form (.args a) serve = u := by
  rw [request_served s l w form serve _ a h.1 (portJudges_ok (s.takeLine l w) l w form a hf h.2 hr)]
  simp only [served, hs]
  exact State.finish_of_same _ u ho hh

/-- Settles O23: SAVE by its three refusals; the end of the write finds the link of the SAVE. -/
theorem saveTakesTheStore : Obligations.SaveTakesTheStore := by
  refine ⟨fun s l h => congrArg Host.Outcome.next ?_, fun s same hp ho => ⟨fun hstore => ?_, fun l hstore => ?_⟩⟩
  · by_cases hbusy : s.busyFor l = true
    · rw [if_pos ((busyFor_iff s l).mp hbusy)]
      exact request_refuses h rfl nofun (if_pos hbusy)
    rw [if_neg (mt (busyFor_iff s l).mpr hbusy)]
    by_cases hmode : s.mode = .running
    · rw [if_pos hmode]
      exact request_refuses (serve := serveSave l) h rfl nofun ((if_neg hbusy).trans (if_pos hmode))
    rw [if_neg hmode]
    have hserve : serveSave l (s.takeLine l .save) () =
        match s.check with
        | some i => ⟨s.takeLine l .save, some ⟨.range, i.fields, []⟩⟩
        | none => ⟨{ s.takeLine l .save with storeBusy := some l }, none⟩ := (if_neg hbusy).trans (if_neg hmode)
    cases hcheck : s.check with
    | some i =>
      rw [hcheck] at hserve
      exact request_replied s l .save _ (serveSave l) () _ h rfl nofun hserve
    | none =>
      rw [hcheck] at hserve
      exact (request_silent h rfl nofun hserve h.1.2.2 fun _ => rfl).trans rfl
  · have hends : s.saveEnds same = s := by rw [State.saveEnds, hstore]
    have hevent : event s (fun t => t.saveEnds same) = s.finish (s.saveEnds same) := if_pos hp
    exact congrArg Host.Outcome.next (hevent.trans (by rw [hends]; exact State.finish_of_same s s ho fun _ => rfl))
  · have hends : s.saveEnds same = { s with storeBusy := none, saved := ⟨s.layout, same⟩ }.answer l .save
        (.refuse (if same = true then .ok else .storeFailed)) := by rw [State.saveEnds, hstore]
    have hevent : event s (fun t => t.saveEnds same) = s.finish (s.saveEnds same) := if_pos hp
    refine congrArg Host.Outcome.next (hevent.trans ?_)
    rw [hends]
    exact State.finish_of_same _ _ ho fun _ => rfl

end Sys2Proof.Machine
end

section
/-! PROOFS. LAYOUT SET (R6, R7): its ranges, its refusals and the single edits. -/

namespace Sys2Proof.Machine

/-! ## The taking of the line leaves the edit as it is -/

@[simp] theorem itemFields_takeLine (s : State) (l : LinkId) (w : ReqWord) (k : ItemKey) :
    (s.takeLine l w).itemFields k = s.itemFields k := by
  rcases k with (_ | _) | ⟨_ | _, _⟩ | ⟨_ | _, _⟩ | _ | ⟨_, _ | _⟩ | (_ | _) | _ | ((_ | _) | _) <;> rfl

@[simp] theorem editOk_takeLine (s : State) (l : LinkId) (w : ReqWord) (e : LayoutEdit) :
    (s.takeLine l w).editOk e = s.editOk e := by
  cases e <;> rfl

theorem clearLayers_takeLine (n : CarriageName) (l : LinkId) (w : ReqWord) (ks : List Nat) (s : State) :
    (s.takeLine l w).clearLayers n ks = (s.clearLayers n ks).takeLine l w := by
  induction ks generalizing s with
  | nil => rfl
  | cons k rest ih => exact ih (s.modSeg n.corridor k fun g => g.clearOf n)

theorem discardRecord_takeLine (s : State) (l : LinkId) (w : ReqWord) (n : CarriageName) :
    (s.takeLine l w).discardRecord n = (s.discardRecord n).takeLine l w := by
  have hclear := clearLayers_takeLine n l w (((s.modCar n State.retainedOnly).unwait n).heldRun n) ((s.modCar n State.retainedOnly).unwait n)
  simp only [State.discardRecord]
  exact congrArg (fun t : State => ({ t with gates := t.gates.set n.corridor ((t.gates.get n.corridor).mapValues fun _ g =>
    if g.attributed = some n then { g with attributed := none } else g) } : State).modLine n.corridor fun x =>
      { x with
        inFlight := x.inFlight.map fun ex => if ex.carriage = some n then { ex with carriage := none } else ex
        toCall := x.toCall.filter fun d => decide (d.2 ≠ n) }) hclear

theorem setGateItem_takeLine (s : State) (l : LinkId) (w : ReqWord) (c : Corridor) (k input : Nat) (v : Level) :
    (s.takeLine l w).setGateItem c k input v = (s.setGateItem c k input v).takeLine l w := by
  have hinput : (s.takeLine l w).gateInput c k = s.gateInput c k := rfl
  simp only [State.setGateItem, hinput]
  cases s.gateInput c k with
  | none => rfl
  | some old => by_cases h : old = input <;> simp only [h, if_true, if_false] <;> rfl

theorem setCarriageItem_takeLine (s : State) (l : LinkId) (w : ReqWord) (n : CarriageName) (it : CarriageItem) :
    (s.takeLine l w).setCarriageItem n it = (s.setCarriageItem n it).takeLine l w := by
  have hitem : (s.takeLine l w).item n = s.item n := rfl
  simp only [State.setCarriageItem, hitem]
  cases s.item n with
  | none => rfl
  | some old => by_cases h : old.address = it.address <;> simp only [h, if_true, if_false] <;> rfl

theorem removeItem_takeLine (s : State) (l : LinkId) (w : ReqWord) (k : ItemKey) :
    (s.takeLine l w).removeItem k = (s.removeItem k).takeLine l w := by
  rcases k with (_ | _) | ⟨_ | _, _⟩ | ⟨_ | _, _⟩ | _ | ⟨_, _ | _⟩ | (n | _) | m | _
  case carriage.known =>
    exact congrArg (fun t : State => { t with layout := { s.layout with carriages := s.layout.carriages.set n none } })
      (discardRecord_takeLine s l w n)
  case link =>
    simp only [State.removeItem]
    cases LinkId.ofNumber m <;> rfl
  all_goals rfl

theorem applyEdit_takeLine (s : State) (l : LinkId) (w : ReqWord) (e : LayoutEdit) :
    (s.takeLine l w).applyEdit e = (s.applyEdit e).takeLine l w := by
  cases e with
  | remove k => exact removeItem_takeLine s l w k
  | corridor c length => cases c <;> rfl
  | segment c k length => cases c <;> rfl
  | gate c k input v =>
    cases c with
    | known c => exact setGateItem_takeLine s l w c k input v
    | unknown => rfl
  | lane n kind role capacity => rfl
  | mouth n c side dock => cases c <;> cases side <;> rfl
  | carriage n length decel home address =>
    rcases n with n | _ <;> rcases decel with decel | _ <;> rcases home with home | _
    case known.known.known => exact setCarriageItem_takeLine s l w n _
    all_goals rfl
  | link n ps =>
    simp only [State.applyEdit]
    cases LinkId.ofNumber n <;> cases namedAll ps <;> rfl
  | timing => rfl
  | timingUnit => rfl

/-! ## The request -/

/-- An edit that the layout takes: the edit and OK, then the end of its event. -/
theorem serveLayoutSet_accepted {s : State} {l : LinkId} {e : LayoutEdit} (hbusy : s.storeBusy = none ∨ s.storeBusy = some l)
    (hmode : s.mode = .configuring) (hitem : ∀ k, e = .remove k → s.itemFields k ≠ none) (hok : s.editOk e = true) :
    serveLayoutSet l (s.takeLine l .layoutSet) e = okWith ((s.applyEdit e).takeLine l .layoutSet) [] := by
  have hbusy' : (s.takeLine l .layoutSet).busyFor l = false := (busyFor_false s l).mpr hbusy
  have hmode' : (s.takeLine l .layoutSet).mode ≠ .running := by
    rw [show (s.takeLine l .layoutSet).mode = s.mode from rfl, hmode]; decide
  have hitem' : ((removedKey e).any fun k => ((s.takeLine l .layoutSet).itemFields k).isNone) = false := by
    cases e with
    | remove k =>
      obtain ⟨f, hf⟩ := Option.ne_none_iff_exists'.mp (hitem k rfl)
      simp [removedKey, hf]
    | _ => rfl
  rw [serveLayoutSet, hbusy', hitem', editOk_takeLine, hok, applyEdit_takeLine]
  simp [hmode']

/-! ## Ranges -/

theorem mem_linkId_all (l : LinkId) : l ∈ LinkId.all := by cases l <;> decide

theorem mem_corridor_carriages (c : Corridor) (n : CarriageName) : n ∈ c.carriages ↔ n.corridor = c := by
  cases c <;> cases n <;> decide

theorem layoutHeld_set_iff (s : State) (l : LinkId) (ps : Option (List Permission)) :
    (s.permsWith l ps).layoutHeld = true ↔ (∃ x, ps = some x ∧ Permission.layout ∈ x) ∨ HeldBeside s l := by
  have hget : ∀ m, (s.permsWith l ps).perms.get m = if m = l then ps else s.layout.perms.get m := fun m => by
    simp [State.permsWith]
  simp only [Layout.layoutHeld, List.any_eq_true, hget]
  constructor
  · rintro ⟨m, _, hm⟩
    by_cases h : m = l
    · left
      rw [if_pos h] at hm
      cases ps with
      | none => simp at hm
      | some x => exact ⟨x, rfl, by simpa using hm⟩
    · right
      rw [if_neg h] at hm
      cases hx : s.layout.perms.get m with
      | none => simp [hx] at hm
      | some x => exact ⟨m, x, h, hx, by simpa [hx] using hm⟩
  · rintro (⟨x, rfl, hx⟩ | ⟨m, x, hm, hx, hin⟩)
    · exact ⟨l, mem_linkId_all l, by simpa using hx⟩
    · exact ⟨m, mem_linkId_all m, by simpa [hm, hx] using hin⟩

theorem removeOk_iff (s : State) (k : ItemKey) : s.removeOk k = true ↔ EditInRange s (.remove k) := by
  cases k with
  | link n =>
    simp only [State.removeOk, EditInRange]
    cases LinkId.ofNumber n with
    | none => simp
    | some l => simp [layoutHeld_set_iff]
  | _ => simp [State.removeOk, EditInRange]

theorem addressTaken_false_iff (s : State) (n : CarriageName) (address : Nat) : s.addressTaken n address = false ↔
    ∀ m : CarriageName, m ≠ n → m.corridor = n.corridor → (s.item m).map (·.address) ≠ some address := by
  simp only [State.addressTaken, List.any_eq_false, mem_corridor_carriages, Bool.and_eq_true, decide_eq_true_eq, not_and]
  exact ⟨fun h m hm hc => h m hc hm, fun h m hc hm => h m hm hc⟩

theorem val?_isSome_iff {α : Type} (w : Named α) : w.val?.isSome = true ↔ w ≠ .unknown := by cases w <;> simp [Named.val?]

theorem laneEdit_ok_iff (kind : LaneKind) (role : Option (Named StationRole)) (capacity : Nat) :
    (match kind, role with
      | .station, some r => r.val?.isSome && inRange 1 4 capacity
      | .station, none => false
      | _, some _ => false
      | _, none => inRange 1 32 capacity) = true ↔
      1 ≤ capacity ∧ ((kind = .station ∧ (∃ r, role = some (.known r)) ∧ capacity ≤ 4) ∨ (kind ≠ .station ∧ role = none ∧ capacity ≤ 32)) := by
  rcases kind with _ | _ | _ <;> rcases role with _ | (_ | _) <;> simp [inRange_iff, Named.val?]

theorem decel_ok_iff (decel : Named (Option Nat)) :
    (match decel with | .known none => true | .known (some a) => inRange 100 1000 a | .unknown => false) = true ↔
      decel ≠ .unknown ∧ ∀ a, decel = .known (some a) → 100 ≤ a ∧ a ≤ 1000 := by
  rcases decel with (_ | a) | _ <;> simp [inRange_iff]

/-- The edits that the model takes are those of R6. -/
theorem editOk_iff (s : State) (e : LayoutEdit) : s.editOk e = true ↔ EditInRange s e := by
  cases e with
  | remove k => exact removeOk_iff s k
  | lane n kind role capacity =>
    have hlane := laneEdit_ok_iff kind role capacity
    simp only [State.editOk, EditInRange, Bool.and_eq_true, laneNo_iff, decide_eq_true_eq]
    refine Iff.trans (and_congr (and_congr Iff.rfl hlane) Iff.rfl) ?_
    grind
  | carriage n length decel home address =>
    have hdecel := decel_ok_iff decel
    have hname : (match n with | .known x => !s.addressTaken x address | .unknown => false) = true ↔
        ∃ x, n = .known x ∧ ∀ m : CarriageName, m ≠ x → m.corridor = x.corridor → (s.item m).map (·.address) ≠ some address := by
      cases n <;> simp [addressTaken_false_iff]
    simp only [State.editOk, EditInRange, Bool.and_eq_true, inRange_iff, val?_isSome_iff]
    refine Iff.trans (and_congr (and_congr (and_congr (and_congr hname Iff.rfl) hdecel) Iff.rfl) Iff.rfl) ?_
    grind
  | link n ps =>
    simp only [State.editOk, EditInRange]
    cases hn : LinkId.ofNumber n with
    | none => simp
    | some l =>
      cases hp : namedAll ps with
      | none => simp [(namedAll_eq_none ps).mp hp]
      | some x =>
        have hps := (namedAll_eq_some ps x).mp hp
        subst hps
        simp [layoutHeld_set_iff]
  | _ => simp only [State.editOk, EditInRange, Bool.and_eq_true, inRange_iff, val?_isSome_iff, segmentNo_iff, gateNo_iff, laneNo_iff,
      Nat.zero_le, true_and, and_assoc]

/-- An edit in its ranges has the form its line calls for. -/
theorem form_of_inRange {s : State} {e : LayoutEdit} (h : EditInRange s e) (hr : ∀ k, e ≠ .remove k) : e.form = true := by
  have hok : ∀ n : Nat, n ≤ 200000 → numberOk n = true := fun n hn => by simp only [numberOk, decide_eq_true_eq]; omega
  cases e with
  | remove k => exact absurd rfl (hr k)
  | corridor c length => obtain ⟨_, _, h⟩ := h; exact hok _ h
  | segment c k length =>
    obtain ⟨_, hk, _, h⟩ := h
    simp [LayoutEdit.form, hok k (by omega), hok length (by omega)]
  | gate c k input v =>
    obtain ⟨_, hk, _, h⟩ := h
    simp [LayoutEdit.form, hok k (by omega), hok input (by omega)]
  | lane n kind role capacity =>
    obtain ⟨_, hn, _, _, h⟩ := h
    have hcap : capacity ≤ 32 := h.elim (fun h => by omega) fun h => h.2.2
    simp [LayoutEdit.form, hok n (by omega), hok capacity (by omega)]
  | mouth n c side dock =>
    obtain ⟨_, hn, _, _, h⟩ := h
    simp [LayoutEdit.form, hok n (by omega), hok dock h]
  | carriage n length decel home address =>
    obtain ⟨_, _, hlength, hdecel, ha, _, _, haddress⟩ := h
    rcases decel with (_ | a) | _
    · simp [LayoutEdit.form, hok length (by omega), hok address (by omega), optNumberOk]
    · have := (ha a rfl).2
      simp [LayoutEdit.form, hok length (by omega), hok address (by omega), optNumberOk, hok a (by omega)]
    · exact absurd rfl hdecel
  | link n ps =>
    obtain ⟨l, hl, _⟩ := h
    have hn := (ofNumber_isSome_iff n).mp (by simp [hl])
    exact hok n (by omega)
  | timing c vmax reaction margin tol slip trust =>
    simp only [EditInRange] at h
    simp only [LayoutEdit.form, List.all_cons, List.all_nil, Bool.and_true, Bool.and_eq_true]
    refine ⟨hok _ ?_, hok _ ?_, hok _ ?_, hok _ ?_, hok _ ?_, hok _ ?_⟩ <;> omega
  | timingUnit aging allowance rehome =>
    simp only [EditInRange] at h
    simp only [LayoutEdit.form, List.all_cons, List.all_nil, Bool.and_true, Bool.and_eq_true]
    refine ⟨hok _ ?_, hok _ ?_, hok _ ?_⟩ <;> omega

/-- An edit in its ranges that touches no hold: what it wrote, and OK. -/
theorem layoutSet_edits {s : State} {l : LinkId} {e : LayoutEdit} (h : Asks s l .layoutSet)
    (hbusy : s.storeBusy = none ∨ s.storeBusy = some l) (hmode : s.mode = .configuring) (hf : e.form = true)
    (hitem : ∀ k, e = .remove k → s.itemFields k ≠ none) (hin : EditInRange s e) (howed : (s.applyEdit e).owed = s.owed)
    (hhold : ∀ c, (s.applyEdit e).hold c = s.hold c) :
    exec (.layoutSet l (.args e)) s = .next ((s.applyEdit e).replied l .layoutSet (.ok [])) :=
  congrArg Host.Outcome.next
    (request_exact s l .layoutSet LayoutEdit.form (serveLayoutSet l) e _ (.ok []) h hf nofun
      (serveLayoutSet_accepted hbusy hmode hitem ((editOk_iff s e).mpr hin)) (howed.trans h.1.2.2) fun c => (hhold c).symm)

/-- Settles O25: each such edit lies in its ranges, and touches no carriage. -/
theorem layoutSetWritesOneItem : Obligations.LayoutSetWritesOneItem := by
  intro s l h hbusy hmode
  refine ⟨fun c length h1 h2 => ?_, fun c k length hk h1 h2 => ?_, fun n c side dock h1 h2 hd => ?_,
    fun c vmax reaction margin tol slip trust h1 h2 h3 h4 h5 h6 h7 h8 h9 h10 h11 h12 => ?_,
    fun aging allowance rehome h1 h2 h3 h4 h5 => ?_⟩
  · have hin : EditInRange s (.corridor (.known c) length) := ⟨nofun, h1, h2⟩
    exact layoutSet_edits h hbusy hmode (form_of_inRange hin nofun) nofun hin rfl fun _ => rfl
  · have hin : EditInRange s (.segment (.known c) k length) := ⟨nofun, hk, h1, h2⟩
    exact layoutSet_edits h hbusy hmode (form_of_inRange hin nofun) nofun hin rfl fun _ => rfl
  · have hin : EditInRange s (.mouth n (.known c) (.known side) dock) := ⟨h1, h2, nofun, nofun, hd⟩
    exact layoutSet_edits h hbusy hmode (form_of_inRange hin nofun) nofun hin rfl fun _ => rfl
  · have hin : EditInRange s (.timing c vmax reaction margin tol slip trust) :=
      ⟨h1, h2, h3, h4, h5, h6, h7, h8, h9, h10, h11, h12⟩
    exact layoutSet_edits h hbusy hmode (form_of_inRange hin nofun) nofun hin rfl fun _ => rfl
  · have hin : EditInRange s (.timingUnit aging allowance rehome) := ⟨h1, h2, h3, h4, h5⟩
    exact layoutSet_edits h hbusy hmode (form_of_inRange hin nofun) nofun hin rfl fun _ => rfl

end Sys2Proof.Machine
end

section
/-! PROOFS. LAYOUT SET (R6, R7): the edits of gates, lanes, links and carriages, and REMOVE. -/

namespace Sys2Proof.Machine

/-! ## The end of an event in CONFIGURING -/

theorem allocate_configuring {s : State} (h : s.mode = .configuring) (c : Corridor) : s.allocate c = s := by
  simp [State.allocate, State.allocatorBlocked, h]

theorem settleRounds_configuring (k : Nat) {s : State} (h : s.mode = .configuring) :
    State.settleRounds k s = { s with owed := ⟨false, false⟩ } := by
  induction k generalizing s with
  | zero => rfl
  | succ k ih =>
    have hruns : ∀ (t : State) (b : Bool) (c : Corridor), t.mode = .configuring → (if b then t.allocate c else t) = t := fun t b c ht => by
      cases b <;> simp [allocate_configuring ht]
    simp only [State.settleRounds]
    split
    · refine (congrArg (State.settleRounds k) ?_).trans (ih (s := { s with owed := ⟨false, false⟩ }) h)
      exact (congrArg (fun t => if s.owed.t = true then t.allocate .t else t) (hruns { s with owed := ⟨false, false⟩ } s.owed.f .f h)).trans
        (hruns { s with owed := ⟨false, false⟩ } s.owed.t .t h)
    · rename_i howed
      simp only [Bool.or_eq_true, not_or, Bool.not_eq_true] at howed
      have hnone : s.owed = ⟨false, false⟩ := by
        cases ho : s.owed; rw [ho] at howed; obtain ⟨rfl, rfl⟩ := howed; rfl
      rw [← hnone]

/-- What an event in CONFIGURING may still do at its end: restart the timeout of homings, and empty waiting sets. -/
structure EndsQuietly (s t : State) : Prop where
  fields : t = { s with carriages := t.carriages, segments := t.segments, owed := t.owed }
  cars : ∀ n, (s.car n).state ≠ .homing → t.car n = s.car n
  stands : ∀ n, (t.car n).stand = (s.car n).stand
  segs : ∀ c k, t.seg c k = s.seg c k ∨ t.seg c k = { s.seg c k with waiting := [] }

namespace EndsQuietly

theorem refl (s : State) : EndsQuietly s s := ⟨rfl, fun _ _ => rfl, fun _ => rfl, fun _ _ => .inl rfl⟩

theorem trans {s t u : State} (h : EndsQuietly s t) (k : EndsQuietly t u) : EndsQuietly s u where
  fields := by rw [k.fields, h.fields]
  cars n hn := (k.cars n (by rw [h.cars n hn]; exact hn)).trans (h.cars n hn)
  stands n := (k.stands n).trans (h.stands n)
  segs c i := by
    rcases k.segs c i with hk | hk <;> rcases h.segs c i with hh | hh <;> simp [hk, hh]

theorem owed (s : State) (x : Two Bool) : EndsQuietly s { s with owed := x } := ⟨rfl, fun _ _ => rfl, fun _ => rfl, fun _ _ => .inl rfl⟩

/-- The restart of a carriage's homing timeout. -/
theorem homingStart (s : State) (n : CarriageName) : EndsQuietly s (s.modCar n fun v =>
    if v.state = .homing then { v with homing := v.homing.map fun h => { h with start := s.millis } } else v) where
  fields := rfl
  cars m hm := by
    rw [car_modCar]
    split
    · rename_i heq
      subst heq
      rw [if_neg hm]
    · rfl
  stands m := by
    rw [car_modCar]
    split
    · rename_i heq
      subst heq
      split <;> rfl
    · rfl
  segs _ _ := .inl rfl

theorem foldl {α : Type} (f : State → α → State) (hf : ∀ t a, EndsQuietly t (f t a)) (l : List α) (s : State) :
    EndsQuietly s (l.foldl f s) := by
  induction l generalizing s with
  | nil => exact refl s
  | cons a rest ih => exact (hf s a).trans (ih (f s a))

theorem holdEnded (b s : State) (c : Corridor) : EndsQuietly s (b.holdEnded s c) := by
  simp only [State.holdEnded]
  split
  · exact (foldl _ (fun t n => homingStart t n) _ s).trans (owed ..)
  · exact refl s

theorem unwaitAll (s : State) (c : Corridor) : EndsQuietly s (s.unwaitAll c) where
  fields := rfl
  cars _ _ := rfl
  stands _ := rfl
  segs d k := by
    have hseg := State.seg_mapSegs s c d k (fun g => { g with waiting := [] }) rfl
    refine (Classical.em (d = c)).symm.imp (fun h => ?_) fun h => ?_
    · exact hseg.trans (if_neg h)
    · exact hseg.trans (if_pos h)

theorem holdBegan (b s : State) (c : Corridor) : EndsQuietly s (b.holdBegan s c) := by
  simp only [State.holdBegan]
  split
  · exact unwaitAll s c
  · exact refl s

theorem finish (b s : State) (h : s.mode = .configuring) : EndsQuietly s (b.finish s) := by
  have hended := (holdEnded b s .f).trans (holdEnded b _ .t)
  have hmode : (b.holdEnded (b.holdEnded s .f) .t).mode = .configuring := by
    rw [hended.fields]; exact h
  have hsettle : (b.holdEnded (b.holdEnded s .f) .t).settle = { b.holdEnded (b.holdEnded s .f) .t with owed := ⟨false, false⟩ } :=
    settleRounds_configuring 8 hmode
  rw [State.finish, hsettle]
  exact ((hended.trans (owed ..)).trans (holdBegan b _ .f)).trans (holdBegan b _ .t)

end EndsQuietly

/-! ## The lock of an edited lane (log 24) -/

/-- Whether a bench record straddles at the mouth of a lane on a corridor. -/
def Bench.straddlesMouth (k : Nat) (c : Corridor) (v : Bench) : Bool :=
  match v.place with
  | .straddling _ l m => decide (l = k) && decide (m = c)
  | _ => false

/-- Whether some bench straddles at the mouth of a lane on a corridor. -/
def State.straddledAt (s : State) (k : Nat) (c : Corridor) : Bool := s.benches.entries.any fun e => e.2.straddlesMouth k c

/-- The lock of a lane from the benches that straddle at its mouths: F before T (log 24). -/
def State.lockOf (s : State) (k : Nat) : Option Corridor :=
  if s.isBay k then (if s.straddledAt k .f then some .f else if s.straddledAt k .t then some .t else none) else none

theorem straddledAt_iff (s : State) (k : Nat) (c : Corridor) : s.straddledAt k c = true ↔ StraddlesAt s k c := by
  have hbench : ∀ v : Bench, v.straddlesMouth k c = true ↔ ∃ n, v.place = .straddling n k c := fun v => by
    simp only [Bench.straddlesMouth]
    cases v.place <;> simp
  simp only [State.straddledAt, List.any_eq_true, StraddlesAt, hbench]

theorem relock_eq (s : State) (k : Nat) :
    s.relock k = { s with lanes := s.lanes.put k { s.lane k with lock := s.lockOf k, waiting := none } } := rfl

theorem lockOf_of_bay {s : State} {k : Nat} (h : s.isBay k = true) :
    (∀ c : Corridor, StraddlesAt s k c → ¬ StraddlesAt s k c.other → s.lockOf k = some c) ∧
      (¬ StraddlesAt s k .f → ¬ StraddlesAt s k .t → s.lockOf k = none) := by
  simp only [← straddledAt_iff, State.lockOf, h, if_true]
  refine ⟨fun c hc ho => ?_, fun hf ht => by simp [hf, ht]⟩
  cases c with
  | f => simp [hc]
  | t => simp [hc, show ¬ s.straddledAt k .f = true from ho]

theorem lockOf_of_notBay {s : State} {k : Nat} (h : s.isBay k = false) : s.lockOf k = none := by simp [State.lockOf, h]

/-! ## Gates -/

theorem inputLevel_setInput (s : State) (i j : Nat) (v : Level) :
    (s.setInput i v).inputLevel j = if j = i then v else s.inputLevel j := by
  cases v with
  | present =>
    by_cases hin : s.inputs.contains i = true
    · by_cases hj : j = i
      · subst hj; simp [State.setInput, State.inputLevel, show j ∈ s.inputs by simpa using hin]
      · simp [State.setInput, State.inputLevel, hj, show i ∈ s.inputs by simpa using hin]
    · by_cases hj : j = i
      · subst hj; simp [State.setInput, State.inputLevel, show j ∉ s.inputs by simpa using hin]
      · simp [State.setInput, State.inputLevel, hj, show i ∉ s.inputs by simpa using hin]
  | clear =>
    by_cases hj : j = i
    · subst hj; simp [State.setInput, State.inputLevel]
    · simp [State.setInput, State.inputLevel, hj]

/-- A GATE item whose input stays. -/
theorem setGateItem_same {s : State} {c : Corridor} {k input : Nat} {v : Level} (h : s.gateInput c k = some input) :
    s.setGateItem c k input v =
      { s with layout := { s.layout with gates := s.layout.gates.set c ((s.layout.gates.get c).put k input) } } := by
  simp only [State.setGateItem, h, if_true]

/-- A GATE item with a new input. -/
theorem setGateItem_new {s : State} {c : Corridor} {k input : Nat} {v : Level} (h : s.gateInput c k ≠ some input) :
    s.setGateItem c k input v =
      { s with
        layout := { s.layout with gates := s.layout.gates.set c ((s.layout.gates.get c).put k input) }
        inputs := (s.setInput input v).inputs
        gates := s.gates.set c ((s.gates.get c).put k
          (if s.gateInput c k = none then
            { s.gate c k with
              misses := 0, rising := none, duration := none, attributed := none, standstill := false
              samples := ⟨v, v, v⟩, level := v }
           else { s.gate c k with samples := ⟨v, v, v⟩, level := v })) } := by
  cases hin : s.gateInput c k with
  | none =>
    simp only [State.setGateItem, hin, if_true]
    rfl
  | some old =>
    have hne : old ≠ input := fun he => h (by rw [hin, he])
    simp only [State.setGateItem, hin, if_neg hne, reduceCtorEq, if_false]
    rfl

/-! ## Carriages -/

/-- A CARRIAGE item replaced by one with its record kept. -/
theorem setCarriageItem_of_some {s : State} {n : CarriageName} {old it : CarriageItem} (h : s.item n = some old) :
    s.setCarriageItem n it =
      { s with
        layout := { s.layout with carriages := s.layout.carriages.set n (some it) }
        carriages := if old.address = it.address then s.carriages else s.carriages.set n { s.car n with misses := 0 }
        lines := if old.address = it.address then s.lines else
          s.lines.set n.corridor { s.line n.corridor with toCall := (s.line n.corridor).toCall.filter fun d => decide (d.2 ≠ n) } } := by
  by_cases ha : old.address = it.address
  · simp only [State.setCarriageItem, h, ha, if_true]
  · simp only [State.setCarriageItem, h, if_neg ha]
    rfl

/-- A hold reads of each carriage whether it has an item, its state, and whether it has a position. -/
theorem hold_congr {s t : State} (h : ∀ n, t.hasRecord n = s.hasRecord n)
    (hcar : ∀ n, (t.car n).state = (s.car n).state ∧ (t.car n).p = (s.car n).p) (c : Corridor) : t.hold c = s.hold c := by
  have hrecord : t.hasRecord = s.hasRecord := funext h
  simp only [State.hold, State.carsOf, hrecord, hcar]

theorem hold_setCarriageItem {s : State} {n : CarriageName} {old it : CarriageItem} (h : s.item n = some old) (c : Corridor) :
    (s.setCarriageItem n it).hold c = s.hold c := by
  rw [setCarriageItem_of_some h]
  refine hold_congr (fun m => ?_) (fun m => ?_) c
  · simp only [State.hasRecord, State.item, Six.get_set]
    split
    · rename_i hm; subst hm
      exact (congrArg Option.isSome h).symm
    · rfl
  · simp only [State.car]
    split
    · exact ⟨rfl, rfl⟩
    · rw [Six.get_set]
      split
      · rename_i hm; subst hm; exact ⟨rfl, rfl⟩
      · exact ⟨rfl, rfl⟩

/-- The record of a carriage that comes with its item, placed as retained memory holds it (R7, R68). -/
def Carriage.created (v : Carriage) (allowance : Nat) : Carriage :=
  { Carriage.blank with
    state := if v.p = none ∨ 1500 ≤ v.u + allowance then .unplaced else .unhomed
    p := v.p
    u := if v.p = none then v.u else min 1500 (v.u + allowance)
    uBase := if v.p = none then v.u else min 1500 (v.u + allowance)
    load := v.load, mark := v.mark }

theorem createRecord_eq (s : State) (n : CarriageName) :
    s.createRecord n = s.setCar n ((s.car n).created s.layout.unit.allowance) := by
  simp only [State.createRecord, State.modCar]
  refine congrArg (s.setCar n) ?_
  cases hp : (s.car n).p with
  | none => simp [Carriage.created, hp, Carriage.blank]
  | some p =>
    by_cases hu : 1500 ≤ (s.car n).u + s.layout.unit.allowance
    · simp [Carriage.created, hp, hu, Config.maxU, Carriage.blank]
    · simp [Carriage.created, hp, hu, Config.maxU, Carriage.blank, Nat.le_of_not_le hu]

theorem created_state_ne_homing (v : Carriage) (a : Nat) : (v.created a).state ≠ .homing := by
  simp only [Carriage.created]
  split <;> decide

theorem clearLayers_fields (s : State) (n : CarriageName) (l : List Nat) :
    s.clearLayers n l = { s with segments := (s.clearLayers n l).segments } := by
  induction l generalizing s with
  | nil => rfl
  | cons k rest ih => exact ih (s.modSeg n.corridor k fun g => g.clearOf n)

theorem mem_heldRun_of_holds {s : State} {n : CarriageName} {k : Nat} (h : (s.seg n.corridor k).holds n = true) : k ∈ s.heldRun n := by
  cases hk : (s.segments.get n.corridor).get? k with
  | none =>
    have hblank : s.seg n.corridor k = Segment.blank := by rw [State.seg, hk]; rfl
    rw [hblank] at h
    exact absurd h (by cases n <;> decide)
  | some v =>
    have hseg : s.seg n.corridor k = v := by rw [State.seg, hk]; rfl
    rw [hseg] at h
    exact List.mem_map.mpr ⟨(k, v), List.mem_filter.mpr ⟨mem_entries_of_get? _ k v hk, h⟩, rfl⟩

/-- What the discarding of a carriage record leaves (R7, log 25). -/
theorem discardRecord_spec (s : State) (n : CarriageName) :
    s.discardRecord n = { s with
      carriages := s.carriages.set n (State.retainedOnly (s.car n)), segments := (s.discardRecord n).segments
      gates := s.gates.set n.corridor ((s.gates.get n.corridor).mapValues fun _ g =>
        if g.attributed = some n then { g with attributed := none } else g)
      lines := s.lines.set n.corridor { s.line n.corridor with
        inFlight := (s.line n.corridor).inFlight.map fun ex => if ex.carriage = some n then { ex with carriage := none } else ex
        toCall := (s.line n.corridor).toCall.filter fun d => decide (d.2 ≠ n) } } ∧
    ∀ k, ((s.discardRecord n).seg n.corridor k).holds n = false ∧ n ∉ ((s.discardRecord n).seg n.corridor k).waiting ∧
      ((s.discardRecord n).seg n.corridor k).fence = (s.seg n.corridor k).fence := by
  have hclear := clearLayers_fields ((s.modCar n State.retainedOnly).unwait n) n (((s.modCar n State.retainedOnly).unwait n).heldRun n)
  constructor
  · simp only [State.discardRecord]
    rw [hclear]
    rfl
  · intro k
    have hseg : (s.discardRecord n).seg n.corridor k =
        (((s.modCar n State.retainedOnly).unwait n).clearLayers n (((s.modCar n State.retainedOnly).unwait n).heldRun n)).seg n.corridor k :=
      rfl
    have hunwait : ((s.modCar n State.retainedOnly).unwait n).seg n.corridor k =
        { s.seg n.corridor k with waiting := (s.seg n.corridor k).waiting.filter fun m => decide (m ≠ n) } :=
      (State.seg_mapSegs (s.modCar n State.retainedOnly) n.corridor n.corridor k
        (fun g => { g with waiting := g.waiting.filter fun m => decide (m ≠ n) }) rfl).trans (if_pos rfl)
    rw [hseg, seg_clearLayers]
    split
    · rw [hunwait]
      exact ⟨clearOf_not_holds _ n, by simp [Segment.clearOf], rfl⟩
    · rename_i hnot
      refine ⟨?_, by rw [hunwait]; simp, by rw [hunwait]⟩
      refine Classical.byContradiction fun hholds => ?_
      exact hnot ⟨rfl, mem_heldRun_of_holds (Bool.not_eq_false _ ▸ hholds)⟩

/-! ## The request -/

theorem RunsOnly.replied_line {s t : State} {l : LinkId} {w : ReqWord} {r : Reply} (h : RunsOnly (s.replied l w r) t) :
    (t.link l).answer = some ⟨w, r.status, r.fields, (s.link l).overrun, r.notices⟩ := by
  rw [← State.takeLine_overrun s l w]
  exact h.answer_line

/-- An edit in its ranges: the edit, the end of its event in CONFIGURING, and OK. -/
theorem layoutSet_ends {s : State} {l : LinkId} {e : LayoutEdit} (h : Asks s l .layoutSet)
    (hbusy : s.storeBusy = none ∨ s.storeBusy = some l) (hmode : s.mode = .configuring) (hf : e.form = true)
    (hitem : ∀ k, e = .remove k → s.itemFields k ≠ none) (hok : s.editOk e = true) (hedit : (s.applyEdit e).mode = s.mode) :
    ∃ u : State, exec (.layoutSet l (.args e)) s = .next (u.answer l .layoutSet (.ok [])) ∧
      EndsQuietly ((s.applyEdit e).takeLine l .layoutSet) u ∧
      RunsOnly ((s.applyEdit e).replied l .layoutSet (.ok [])) (u.answer l .layoutSet (.ok [])) :=
  ⟨_, congrArg Host.Outcome.next (request_serves h hf nofun (serveLayoutSet_accepted hbusy hmode hitem hok)),
    EndsQuietly.finish _ _ (hedit.trans hmode), runsOnly_finish_answer (.refl _)⟩

/-- Settles O26: the edit makes the record, which is neither IDLE nor HOMING, so that the end of the event leaves it as it stands. -/
theorem layoutSetCreatesACarriage : Obligations.LayoutSetCreatesACarriage := by
  intro s l n length address decel home h hbusy hmode hok hitem
  have hedit : s.applyEdit (.carriage (.known n) length (.known decel) (.known home) address) =
      { s.setCar n ((s.car n).created s.layout.unit.allowance) with
        starting := s.starting.set n.corridor true
        layout := { s.layout with carriages := s.layout.carriages.set n (some ⟨length, decel.getD 400, home, address⟩) } } := by
    simp only [State.applyEdit, State.setCarriageItem, hitem, createRecord_eq]
    rfl
  obtain ⟨u, hexec, hends, hruns⟩ := layoutSet_ends h hbusy hmode (form_of_inRange ((editOk_iff s _).mp hok) nofun) nofun hok
    (by rw [hedit]; rfl)
  rw [hedit] at hends hruns
  have hstill := hruns.calm.still
  refine ⟨_, hexec, congrArg Still.layout hstill, ?_, fun m hm => ?_, congrArg Still.starting hstill, congrArg Still.benches hstill,
    hruns.calm.orders, hruns.replied_line⟩
  · have hcar := hends.cars n
    simp only [State.takeLine_car] at hcar
    rw [State.answer_car]
    have hnew : ({ s.setCar n ((s.car n).created s.layout.unit.allowance) with
        starting := s.starting.set n.corridor true
        layout := { s.layout with carriages := s.layout.carriages.set n (some ⟨length, decel.getD 400, home, address⟩) } } : State).car n =
          (s.car n).created s.layout.unit.allowance := (State.car_setCar s n n _).trans (if_pos rfl)
    rw [hnew] at hcar
    exact hcar (created_state_ne_homing _ _)
  · rw [State.answer_car]
    exact (hends.stands m).trans (congrArg Carriage.stand ((State.car_setCar s n m _).trans (if_neg hm)))

/-- LAYOUT SET refuses with BUSY, MODE, UNKNOWN or RANGE, in this order (R6). -/
theorem layoutSet_refuses {s : State} {l : LinkId} {e : LayoutEdit} {w : Status} (h : Asks s l .layoutSet) (hf : e.form = true)
    (hs : serveLayoutSet l (s.takeLine l .layoutSet) e = refuse (s.takeLine l .layoutSet) w) :
    exec (.layoutSet l (.args e)) s = .next (s.replied l .layoutSet (.refuse w)) :=
  congrArg Host.Outcome.next (request_refuses h hf nofun hs)

/-- Outside the store and the mode, LAYOUT SET looks at the item REMOVE names and at the ranges. -/
theorem serveLayoutSet_open {s : State} {l : LinkId} {e : LayoutEdit} (hbusy : s.storeBusy = none ∨ s.storeBusy = some l)
    (hmode : s.mode = .configuring) : serveLayoutSet l (s.takeLine l .layoutSet) e =
      if ((removedKey e).any fun k => (s.itemFields k).isNone) then refuse (s.takeLine l .layoutSet) .unknown
      else if s.editOk e then okWith ((s.takeLine l .layoutSet).applyEdit e) []
      else refuse (s.takeLine l .layoutSet) .range := by
  have hbusy' : (s.takeLine l .layoutSet).busyFor l = false := (busyFor_false s l).mpr hbusy
  have hmode' : (s.takeLine l .layoutSet).mode ≠ .running := by
    rw [show (s.takeLine l .layoutSet).mode = s.mode from rfl, hmode]; decide
  simp only [serveLayoutSet, hbusy', if_neg hmode', itemFields_takeLine, editOk_takeLine, Bool.false_eq_true, if_false]
  cases s.editOk e <;> rfl

theorem removed_isNone {s : State} {e : LayoutEdit} (h : ∀ k, e = .remove k → s.itemFields k ≠ none) :
    ((removedKey e).any fun k => (s.itemFields k).isNone) = false := by
  cases e with
  | remove k =>
    obtain ⟨f, hf⟩ := Option.ne_none_iff_exists'.mp (h k rfl)
    simp [removedKey, hf]
  | _ => rfl

theorem layoutSet_range {s : State} {l : LinkId} {e : LayoutEdit} (h : Asks s l .layoutSet) (hf : e.form = true)
    (hbusy : s.storeBusy = none ∨ s.storeBusy = some l) (hmode : s.mode = .configuring)
    (hitem : ∀ k, e = .remove k → s.itemFields k ≠ none) (hok : s.editOk e = false) :
    exec (.layoutSet l (.args e)) s = .next (s.replied l .layoutSet (.refuse .range)) := by
  refine layoutSet_refuses h hf ?_
  rw [serveLayoutSet_open hbusy hmode, removed_isNone hitem, hok]
  rfl

/-- LAYOUT SET of an edit in form, by the refusals in their order (R6). -/
theorem layoutSet_judges {s : State} {l : LinkId} {e : LayoutEdit} (h : Asks s l .layoutSet) (hf : e.form = true) :
    ((s.storeBusy ≠ none ∧ s.storeBusy ≠ some l) →
      exec (.layoutSet l (.args e)) s = .next (s.replied l .layoutSet (.refuse .busy))) ∧
    ((s.storeBusy = none ∨ s.storeBusy = some l) → s.mode = .running →
      exec (.layoutSet l (.args e)) s = .next (s.replied l .layoutSet (.refuse .mode))) ∧
    ((s.storeBusy = none ∨ s.storeBusy = some l) → s.mode = .configuring →
      (∀ k, e = .remove k → s.itemFields k = none →
        exec (.layoutSet l (.args e)) s = .next (s.replied l .layoutSet (.refuse .unknown))) ∧
      ((∀ k, e = .remove k → s.itemFields k ≠ none) → s.editOk e = false →
        exec (.layoutSet l (.args e)) s = .next (s.replied l .layoutSet (.refuse .range))) ∧
      ((∀ k, e = .remove k → s.itemFields k ≠ none) → s.editOk e = true →
        ∃ t, exec (.layoutSet l (.args e)) s = .next t ∧ RunsOnly ((s.applyEdit e).replied l .layoutSet (.ok [])) t)) := by
  refine ⟨fun hbusy => layoutSet_refuses h hf (if_pos ((busyFor_iff s l).mpr hbusy)), fun hbusy hmode => layoutSet_refuses h hf ?_,
    fun hbusy hmode => ⟨?_, layoutSet_range h hf hbusy hmode, fun hitem hok => ?_⟩⟩
  · have hbusy' : (s.takeLine l .layoutSet).busyFor l = false := (busyFor_false s l).mpr hbusy
    rw [serveLayoutSet, hbusy']
    exact if_pos hmode
  · rintro k rfl hnone
    refine layoutSet_refuses h hf ?_
    rw [serveLayoutSet_open hbusy hmode]
    exact if_pos (by simp [removedKey, hnone])
  · exact ⟨_, congrArg Host.Outcome.next (request_serves h hf nofun (serveLayoutSet_accepted hbusy hmode hitem hok)),
      runsOnly_finish_answer (.refl _)⟩

theorem exec_gateEdit {s : State} {l : LinkId} (h : Asks s l .layoutSet) (hbusy : s.storeBusy = none ∨ s.storeBusy = some l)
    (hmode : s.mode = .configuring) {c : Corridor} {k input : Nat} {v : Level} (hk : k ≤ 40) (h1 : 1 ≤ input) (h2 : input ≤ 96)
    {u : State} (hu : s.setGateItem c k input v = u) (howed : u.owed = s.owed) (hhold : ∀ d, u.hold d = s.hold d) :
    exec (.layoutSet l (.args (.gate (.known c) k input v))) s = .next (u.replied l .layoutSet (.ok [])) := by
  have hin : EditInRange s (.gate (.known c) k input v) := ⟨nofun, hk, h1, h2⟩
  subst hu
  exact layoutSet_edits h hbusy hmode (form_of_inRange hin nofun) nofun hin howed hhold

theorem layoutHeld_filter (s : State) (m : LinkId) (perms : List Permission) :
    (s.permsWith m (some (allPermissions.filter perms.contains))).layoutHeld = (s.permsWith m (some perms)).layoutHeld := by
  rw [Bool.eq_iff_iff, layoutHeld_set_iff, layoutHeld_set_iff]
  simp [allPermissions]

theorem namedAll_map_known {α : Type} (l : List α) : namedAll (l.map Named.known) = some l := (namedAll_eq_some _ l).mpr rfl

theorem exec_linkEdit {s : State} {l : LinkId} (h : Asks s l .layoutSet) (hbusy : s.storeBusy = none ∨ s.storeBusy = some l)
    (hmode : s.mode = .configuring) {n : Nat} {m : LinkId} (perms : List Permission) (hn : LinkId.ofNumber n = some m) :
    exec (.layoutSet l (.args (.link n (perms.map Named.known)))) s =
      .next (if (s.permsWith m (some (allPermissions.filter perms.contains))).layoutHeld = true then
        { s with layout := s.permsWith m (some (allPermissions.filter perms.contains)) }.replied l .layoutSet (.ok [])
       else s.replied l .layoutSet (.refuse .range)) := by
  have hform : (LayoutEdit.link n (perms.map Named.known)).form = true := by
    have hn' := (ofNumber_isSome_iff n).mp (by simp [hn])
    simp only [LayoutEdit.form, numberOk, decide_eq_true_eq]
    omega
  have hok : s.editOk (.link n (perms.map Named.known)) = (s.permsWith m (some perms)).layoutHeld := by
    simp only [State.editOk, hn, namedAll_map_known]
  have hedit : s.applyEdit (.link n (perms.map Named.known)) =
      { s with layout := s.permsWith m (some (allPermissions.filter perms.contains)) } := by
    simp only [State.applyEdit, hn, namedAll_map_known]
  rw [layoutHeld_filter]
  by_cases hheld : (s.permsWith m (some perms)).layoutHeld = true
  · rw [if_pos hheld, ← hedit]
    exact layoutSet_edits h hbusy hmode hform nofun ((editOk_iff s _).mp (hok.trans hheld)) (by rw [hedit]) fun c => by rw [hedit]; rfl
  · rw [if_neg hheld]
    exact layoutSet_range h hform hbusy hmode nofun (hok.trans (Bool.not_eq_true _ ▸ hheld))

/-- REMOVE of an item that is there and may go. -/
theorem exec_remove {s : State} {l : LinkId} (h : Asks s l .layoutSet) (hbusy : s.storeBusy = none ∨ s.storeBusy = some l)
    (hmode : s.mode = .configuring) {k : ItemKey} (hf : k.form = true) (hitem : s.itemFields k ≠ none) (hin : EditInRange s (.remove k))
    {u : State} (hu : s.removeItem k = u) (howed : u.owed = s.owed) (hhold : ∀ d, u.hold d = s.hold d) :
    exec (.layoutSet l (.args (.remove k))) s = .next (u.replied l .layoutSet (.ok [])) := by
  subst hu
  exact layoutSet_edits h hbusy hmode hf (fun j hj => by cases hj; exact hitem) hin howed hhold

theorem map_ne_none {α β : Type} {o : Option α} {g : α → β} (h : o ≠ none) : o.map g ≠ none := by
  cases o with
  | none => exact absurd rfl h
  | some a => exact nofun

theorem corridorFields_ne_none {s : State} {c : Corridor} (h : s.layout.length.get c ≠ none) : s.itemFields (.corridor (.known c)) ≠ none := by
  obtain ⟨e, he⟩ := Option.ne_none_iff_exists'.mp h
  simp [State.itemFields, he]

theorem segmentFields_ne_none {s : State} {c : Corridor} {k : Nat} (h : (s.layout.segments.get c).get? k ≠ none) :
    s.itemFields (.segment (.known c) k) ≠ none := by
  obtain ⟨e, he⟩ := Option.ne_none_iff_exists'.mp h
  simp [State.itemFields, he]

theorem gateFields_ne_none {s : State} {c : Corridor} {k : Nat} (h : s.gateInput c k ≠ none) :
    s.itemFields (.gate (.known c) k) ≠ none := by
  obtain ⟨e, he⟩ := Option.ne_none_iff_exists'.mp h
  simp [State.itemFields, he]

theorem numberOk_of_le_120 {n : Nat} (h : n ≤ 120) : numberOk n = true := by
  simp only [numberOk, decide_eq_true_eq]; omega

/-- REMOVE of a LINK item: RANGE where no other holds LAYOUT. -/
theorem exec_removeLink {s : State} {l : LinkId} (h : Asks s l .layoutSet) (hbusy : s.storeBusy = none ∨ s.storeBusy = some l)
    (hmode : s.mode = .configuring) {n : Nat} {m : LinkId} (hn : LinkId.ofNumber n = some m) (hperms : s.layout.perms.get m ≠ none) :
    exec (.layoutSet l (.args (.remove (.link n)))) s =
      .next (if (s.permsWith m none).layoutHeld = true then { s with layout := s.permsWith m none }.replied l .layoutSet (.ok [])
       else s.replied l .layoutSet (.refuse .range)) := by
  have hform : (LayoutEdit.remove (.link n)).form = true :=
    numberOk_of_le_120 (by have := (ofNumber_isSome_iff n).mp (by simp [hn]); omega)
  have hitem : s.itemFields (.link n) ≠ none := by
    simp only [State.itemFields, hn, Option.bind_some]
    exact map_ne_none hperms
  have hok : s.editOk (.remove (.link n)) = (s.permsWith m none).layoutHeld := by
    simp only [State.editOk, State.removeOk, hn]
  have hitem' : ∀ k, LayoutEdit.remove (.link n) = .remove k → s.itemFields k ≠ none := fun k hk => by cases hk; exact hitem
  by_cases hheld : (s.permsWith m none).layoutHeld = true
  · rw [if_pos hheld]
    exact exec_remove (k := .link n) h hbusy hmode hform hitem ((editOk_iff s _).mp (hok.trans hheld)) (by simp only [State.removeItem, hn]) rfl
      fun _ => rfl
  · rw [if_neg hheld]
    exact layoutSet_range h hform hbusy hmode hitem' (hok.trans (Bool.not_eq_true _ ▸ hheld))

/-- A LANE item set or removed: the table and the lane's lock. -/
theorem exec_laneEdit {s : State} {l : LinkId} (h : Asks s l .layoutSet) (hbusy : s.storeBusy = none ∨ s.storeBusy = some l)
    (hmode : s.mode = .configuring) {n : Nat} {kind : LaneKind} {role : Option StationRole} {capacity : Nat} (h1 : 1 ≤ n) (h2 : n ≤ 120)
    (hk : (kind = .station ∧ role ≠ none ∧ capacity ≤ 4) ∨ (kind ≠ .station ∧ role = none ∧ capacity ≤ 32)) (hc : 1 ≤ capacity)
    (hheld : s.held n ≤ capacity) {v : State}
    (hv : v = { s with layout := { s.layout with lanes := s.layout.lanes.put n ⟨kind, role, capacity⟩ } }) :
    exec (.layoutSet l (.args (.lane n kind (role.map Named.known) capacity))) s =
      .next ({ v with lanes := s.lanes.put n { s.lane n with lock := v.lockOf n, waiting := none } }.replied l .layoutSet (.ok [])) := by
  have hin : EditInRange s (.lane n kind (role.map Named.known) capacity) := by
    refine ⟨h1, h2, hc, hheld, hk.imp (fun ⟨ha, hb, hd⟩ => ⟨ha, ?_, hd⟩) fun ⟨ha, hb, hd⟩ => ⟨ha, by rw [hb]; rfl, hd⟩⟩
    obtain ⟨r, rfl⟩ := Option.ne_none_iff_exists'.mp hb
    exact ⟨r, rfl⟩
  have hrole : (role.map Named.known).bind Named.val? = role := by cases role <;> rfl
  have hedit : s.applyEdit (.lane n kind (role.map Named.known) capacity) =
      { v with lanes := s.lanes.put n { s.lane n with lock := v.lockOf n, waiting := none } } := by
    simp only [State.applyEdit, hrole]
    rw [hv]
    exact relock_eq _ n
  rw [← hedit]
  refine layoutSet_edits h hbusy hmode (form_of_inRange hin nofun) nofun hin ?_ fun c => ?_
  · rw [hedit, hv]
  · rw [hedit, hv]
    rfl

/-- Settles O24: the edits by their ranges, the refusals in their order, and each edit with what it leaves alone. -/
theorem layoutSetJudgesAndEdits : Obligations.LayoutSetJudgesAndEdits := by
  refine ⟨editOk_iff, fun s l e h hf => layoutSet_judges h hf, fun s l h hbusy hmode => ⟨?_, ?_, ?_, ?_, ?_, ?_, ?_, ?_, ?_, ?_, ?_, ?_⟩⟩
  · rintro c k input level put hk h1 h2 rfl
    refine ⟨fun hsame => ?_, fun hnew => ⟨?_, fun i => inputLevel_setInput s input i level⟩⟩
    · exact exec_gateEdit h hbusy hmode hk h1 h2 (setGateItem_same hsame) rfl fun _ => rfl
    · exact exec_gateEdit h hbusy hmode hk h1 h2 (setGateItem_new hnew) rfl fun _ => rfl
  · intro n kind role capacity h1 h2 hk hc hheld
    have hlane : ∀ v : State, v = { s with layout := { s.layout with lanes := s.layout.lanes.put n ⟨kind, role, capacity⟩ } } →
        v.isBay n = decide (kind = .bay) := by
      rintro v rfl
      simp [State.isBay, State.laneItem]
    refine ⟨_, exec_laneEdit h hbusy hmode h1 h2 hk hc hheld rfl, fun hkind => ?_, fun hkind => ?_⟩
    · exact lockOf_of_notBay ((hlane _ rfl).trans (decide_eq_false hkind))
    · exact lockOf_of_bay ((hlane _ rfl).trans (decide_eq_true hkind))
  · rintro n m perms put hn rfl
    exact exec_linkEdit h hbusy hmode perms hn
  · intro n old length decel home address hold h1 h2 hdecel ha1 ha2 haddress
    have hin : EditInRange s (.carriage (.known n) length (.known decel) (.known home) address) :=
      ⟨⟨n, rfl, haddress⟩, h1, h2, nofun, fun a ha => hdecel a (by injection ha), nofun, ha1, ha2⟩
    have hedit : s.applyEdit (.carriage (.known n) length (.known decel) (.known home) address) =
        s.setCarriageItem n ⟨length, decel.getD 400, home, address⟩ := rfl
    have hexec := layoutSet_edits h hbusy hmode (form_of_inRange hin nofun) nofun hin
      (by rw [hedit, setCarriageItem_of_some hold]) fun c => by rw [hedit]; exact hold_setCarriageItem hold c
    rw [hedit, setCarriageItem_of_some hold] at hexec
    exact hexec
  · intro c k hitem hk
    exact exec_remove h hbusy hmode (k := .segment (.known c) k) (numberOk_of_le_120 (by omega)) (segmentFields_ne_none hitem) trivial rfl rfl fun _ => rfl
  · intro c k hitem hk
    exact exec_remove h hbusy hmode (k := .gate (.known c) k) (numberOk_of_le_120 (by omega)) (gateFields_ne_none hitem) trivial rfl rfl fun _ => rfl
  · intro n c hitem hn
    exact exec_remove h hbusy hmode (k := .mouth n (.known c)) (numberOk_of_le_120 hn) (map_ne_none hitem) trivial rfl rfl fun _ => rfl
  · intro n hitem hn
    have hnot : ({ s with layout := { s.layout with lanes := s.layout.lanes.del n } } : State).isBay n = false := by
      simp [State.isBay, State.laneItem]
    have hedit : s.removeItem (.lane n) = { s with
        layout := { s.layout with lanes := s.layout.lanes.del n }
        lanes := s.lanes.put n { s.lane n with lock := none, waiting := none } } := by
      refine (relock_eq _ n).trans ?_
      rw [lockOf_of_notBay hnot]
      rfl
    exact exec_remove h hbusy hmode (k := .lane n) (numberOk_of_le_120 hn) (map_ne_none hitem) trivial hedit rfl fun _ => rfl
  · rintro n m put hn hperms rfl
    exact exec_removeLink h hbusy hmode hn hperms
  · intro c hitem
    exact layoutSet_range h rfl hbusy hmode (fun k hk => by cases hk; exact corridorFields_ne_none hitem) rfl
  · intro k
    exact layoutSet_range h rfl hbusy hmode (fun j hj => by cases hj; rcases k with _ | _ <;> exact nofun) rfl
  · intro n hitem
    obtain ⟨hfields, hsegs⟩ := discardRecord_spec s n
    have hedit : s.applyEdit (.remove (.carriage (.known n))) =
        { s.discardRecord n with layout := { s.layout with carriages := s.layout.carriages.set n none } } := rfl
    obtain ⟨u, hexec, hends, hruns⟩ := layoutSet_ends h hbusy hmode (e := .remove (.carriage (.known n))) rfl
      (fun k hk => by cases hk; exact map_ne_none hitem) rfl (by rw [hedit, hfields])
    rw [hedit] at hends hruns
    have hstill := hruns.calm.still
    have hcars : ∀ m, ({ s.discardRecord n with layout := { s.layout with carriages := s.layout.carriages.set n none } } : State).car m =
        if m = n then State.retainedOnly (s.car n) else s.car m := fun m =>
      (congrArg (fun t : State => t.car m) hfields).trans (State.car_setCar s n m _)
    have hgate : ∀ k, (u.gate n.corridor k).attributed ≠ some n := fun k => by
      have hdiscard := congrArg State.gates hfields
      have hgates : u.gates = s.gates.set n.corridor ((s.gates.get n.corridor).mapValues fun _ g =>
          if g.attributed = some n then { g with attributed := none } else g) := (congrArg Still.gates hstill).trans hdiscard
      simp only [State.gate, hgates, Two.get_set, if_true, Table.get?_mapValues]
      cases (s.gates.get n.corridor).get? k with
      | none => exact nofun
      | some g =>
        simp only [Option.map_some, Option.getD_some]
        split
        · exact nofun
        · assumption
    have hline : u.line n.corridor = { s.line n.corridor with
        inFlight := (s.line n.corridor).inFlight.map fun ex => if ex.carriage = some n then { ex with carriage := none } else ex
        toCall := (s.line n.corridor).toCall.filter fun d => decide (d.2 ≠ n) } := by
      have hdiscard := congrArg State.lines hfields
      have hlines : u.lines = _ := (congrArg Still.lines hstill).trans hdiscard
      rw [State.line, hlines]
      exact (Two.get_set ..).trans (if_pos rfl)
    refine ⟨_, hexec, congrArg Still.layout hstill, ?_, fun m hm => ?_, fun k => ?_, fun d hd => ?_, fun ex hex => ?_, ?_⟩
    · have hcar : u.car n = State.retainedOnly (s.car n) :=
        (hends.cars n (by rw [State.takeLine_car, hcars, if_pos rfl]; exact nofun)).trans ((hcars n).trans (if_pos rfl))
      rw [State.answer_car, hcar]
      rfl
    · rw [State.answer_car]
      exact (hends.stands m).trans (congrArg Carriage.stand ((hcars m).trans (if_neg hm)))
    · obtain ⟨hholds, hwaiting, hfence⟩ := hsegs k
      have hseg : (u.seg n.corridor k).holds n = false ∧ n ∉ (u.seg n.corridor k).waiting ∧
          (u.seg n.corridor k).fence = (s.seg n.corridor k).fence := by
        rcases hends.segs n.corridor k with hsame | hempty
        · rw [hsame]; exact ⟨hholds, hwaiting, hfence⟩
        · rw [hempty]; exact ⟨hholds, nofun, hfence⟩
      exact ⟨hseg.1, hseg.2.1, hseg.2.2, hgate k⟩
    · have hd' : d ∈ (u.line n.corridor).toCall := hd
      rw [hline] at hd'
      exact of_decide_eq_true (List.mem_filter.mp hd').2
    · have hex' : (u.line n.corridor).inFlight = some ex := hex
      rw [hline] at hex'
      obtain ⟨ex0, _, rfl⟩ := Option.map_eq_some_iff.mp hex'
      split
      · exact nofun
      · assumption
    · have hlinks := congrArg State.links hfields
      have hlink : (s.discardRecord n).link l = s.link l := congrArg (fun x => Three.get x l) hlinks
      rw [← hlink]
      exact hruns.replied_line

end Sys2Proof.Machine
end

section
/-! PROOFS. What the reservation table does to carriages (R80 to R85): a request keeps its horizon and list, and a free carriage may be
given a shift; nothing else of a carriage changes, and no lane, order or CARRIAGE_LOST fence comes or goes. -/

namespace Sys2Proof.Machine

/-- A carriage after requests of the reservation table: its horizon and request list may be new, and a free one may be on a SHIFT. -/
def Touched (v w : Carriage) : Prop :=
  ∃ h l, w = { v with horizon := h, requestList := l } ∨
    (v.state = .idle ∧ v.task = none ∧ ∃ lo hi x work leg,
      w = { v with
        state := .running, task := some ⟨.shift, lo, hi, [], some x, work⟩, leg := some leg, horizon := h, requestList := l })

namespace Touched

theorem refl (v : Carriage) : Touched v v := ⟨_, _, .inl rfl⟩

theorem trans {u v w : Carriage} (h : Touched u v) (k : Touched v w) : Touched u w := by
  obtain ⟨a, b, rfl | ⟨hstate, htask, lo, hi, x, work, leg, rfl⟩⟩ := h
  · obtain ⟨c, d, rfl | ⟨hstate, htask, lo, hi, x, work, leg, rfl⟩⟩ := k
    · exact ⟨c, d, .inl rfl⟩
    · exact ⟨c, d, .inr ⟨hstate, htask, lo, hi, x, work, leg, rfl⟩⟩
  · obtain ⟨c, d, rfl | ⟨hrunning, _⟩⟩ := k
    · exact ⟨c, d, .inr ⟨hstate, htask, lo, hi, x, work, leg, rfl⟩⟩
    · exact absurd hrunning nofun

theorem stand {v w : Carriage} (h : Touched v w) : w.stand = v.stand := by
  obtain ⟨a, b, rfl | ⟨_, _, _, _, _, _, _, rfl⟩⟩ := h <;> rfl

/-- A carriage that is not IDLE goes on with its work. -/
theorem of_not_idle {v w : Carriage} (h : Touched v w) (hv : v.state ≠ .idle) :
    w = { v with horizon := w.horizon, requestList := w.requestList } := by
  obtain ⟨a, b, rfl | ⟨hstate, _⟩⟩ := h
  · rfl
  · exact absurd hstate hv

/-- A carriage that has a task keeps it. -/
theorem of_task {v w : Carriage} (h : Touched v w) (hv : v.task ≠ none) :
    w = { v with horizon := w.horizon, requestList := w.requestList } := by
  obtain ⟨a, b, rfl | ⟨_, htask, _⟩⟩ := h
  · rfl
  · exact absurd htask hv

/-- A carriage that stands IDLE without work ends IDLE or on a shift. -/
theorem idled {v w : Carriage} (h : Touched v w) (hstate : v.state = .idle) (htask : v.task = none) (hleg : v.leg = none)
    (hrem : v.remembered = none) (hdock : v.docked = none) : Idled w := by
  obtain ⟨a, b, rfl | ⟨_, _, lo, hi, x, work, leg, rfl⟩⟩ := h
  · exact ⟨hrem, hdock, .inl ⟨hstate, htask, hleg⟩⟩
  · exact ⟨hrem, hdock, .inr ⟨rfl, rfl⟩⟩

end Touched

/-- What the requests of the reservation table leave alone. -/
structure Tracked (s t : State) : Prop where
  cars : ∀ m, Touched (s.car m) (t.car m)
  lanes : t.lanes = s.lanes
  book : t.book = s.book
  lost : ∀ c k m, (t.seg c k).fence = some (.auto (.carriageLost m)) → (s.seg c k).fence = some (.auto (.carriageLost m))

namespace Tracked

theorem refl (s : State) : Tracked s s := ⟨fun _ => .refl _, rfl, rfl, fun _ _ _ h => h⟩

theorem trans {s t u : State} (h : Tracked s t) (k : Tracked t u) : Tracked s u :=
  ⟨fun m => (h.cars m).trans (k.cars m), k.lanes.trans h.lanes, k.book.trans h.book, fun c i m hm => h.lost c i m (k.lost c i m hm)⟩

theorem foldl {α : Type} (f : State → α → State) (hf : ∀ t a, Tracked t (f t a)) (l : List α) (s : State) : Tracked s (l.foldl f s) := by
  induction l generalizing s with
  | nil => exact refl s
  | cons a rest ih => exact (hf s a).trans (ih (f s a))

/-- A change of the other tables. -/
theorem of_same {s t : State} (hc : t.carriages = s.carriages) (hl : t.lanes = s.lanes) (hb : t.book = s.book)
    (hs : t.segments = s.segments) : Tracked s t :=
  ⟨fun m => by rw [State.car, State.car, hc]; exact .refl _, hl, hb, fun c k m h => by rwa [State.seg_of_segments hs] at h⟩

/-- A change of one segment that brings no CARRIAGE_LOST fence. -/
theorem modSeg (s : State) (c : Corridor) (k : Nat) (g : Segment → Segment)
    (hg : ∀ m, (g (s.seg c k)).fence = some (.auto (.carriageLost m)) → (s.seg c k).fence = some (.auto (.carriageLost m))) :
    Tracked s (s.modSeg c k g) := by
  refine ⟨fun _ => .refl _, rfl, rfl, fun d j m h => ?_⟩
  rw [State.seg_modSeg] at h
  split at h
  · rename_i hj
    obtain ⟨rfl, rfl⟩ := hj
    exact hg m h
  · exact h

theorem unwait (s : State) (n : CarriageName) : Tracked s (s.unwait n) := by
  refine ⟨fun _ => .refl _, rfl, rfl, fun d j m h => ?_⟩
  have hseg := State.seg_mapSegs s n.corridor d j (fun g => { g with waiting := g.waiting.filter fun m => decide (m ≠ n) }) rfl
  have h' := (congrArg Segment.fence hseg).symm.trans h
  split at h' <;> exact h'

theorem offer (s : State) (o : Offer) : Tracked s (s.offer o) := by
  rw [offer_fields]
  exact of_same rfl rfl rfl rfl

theorem notifyAll (s : State) (b : NoticeBody) : Tracked s (s.notifyAll b) := of_same rfl rfl rfl rfl

theorem setFence (s : State) (c : Corridor) (k : Nat) (f : Fence) (hf : ∀ m, f ≠ .auto (.carriageLost m)) :
    Tracked s (s.setFence c k f) := by
  simp only [State.setFence]
  split
  · exact (modSeg s c k _ fun m h => absurd (Option.some.inj h) (hf m)).trans (offer ..)
  · exact refl s

theorem liftFence (s : State) (c : Corridor) (k : Nat) : Tracked s (s.liftFence c k) := by
  simp only [State.liftFence]
  split
  · exact (modSeg s c k _ fun _ h => absurd h (by simp)).trans (offer ..)
  · exact refl s

theorem waitAt (s : State) (n : CarriageName) (k : Nat) : Tracked s (s.waitAt n k) :=
  (unwait ..).trans (modSeg _ _ _ _ fun _ h => h)

theorem judge (n : CarriageName) (dir : Dir) (l : List Nat) (s : State) : Tracked s (State.judge n dir l s).1 := by
  induction l generalizing s with
  | nil => exact refl s
  | cons k rest ih =>
    have hgrant : Tracked s (s.grant n dir k) := modSeg _ _ _ _ fun _ h => h
    simp only [State.judge]
    split
    · exact hgrant.trans (ih _)
    · split
      · split
        · exact hgrant.trans (ih _)
        · split
          · exact (setFence s n.corridor k (.auto .restartOverlap) fun _ => nofun).trans (ih _)
          · exact ih _
      · exact refl s

/-- A shift given to a free carriage. -/
theorem giveShift (work : Option Work) (s : State) (h : Shift) (hfree : s.isFree h.carriage = true) :
    Tracked s (Machine.giveShift work s h) := by
  refine ⟨fun m => ?_, rfl, rfl, fun _ _ _ h => h⟩
  by_cases hm : m = h.carriage
  · subst hm
    have htask : (s.car h.carriage).task = none := by
      simp only [State.isFree, Bool.and_eq_true, Option.isNone_iff_eq_none] at hfree
      exact hfree.2
    simp only [Machine.giveShift, State.beginLeg, car_modCar, if_true]
    exact ⟨_, _, .inr ⟨isFree_idle hfree, htask, _, _, _, _, _, rfl⟩⟩
  · rw [Steady.giveShift_other work s h m hm]
    exact .refl _

theorem giveShifts (work : Option Work) (l : List Shift) (s : State) (hd : (l.map Shift.carriage).Nodup)
    (hfree : ∀ x ∈ l, s.isFree x.carriage = true) : Tracked s (Machine.giveShifts work l s) := by
  induction l generalizing s with
  | nil => exact refl s
  | cons a rest ih =>
    simp only [List.map_cons, List.nodup_cons] at hd
    refine (giveShift work s a (hfree a (by simp))).trans (ih _ hd.2 fun x hx => ?_)
    have hne : x.carriage ≠ a.carriage := fun e => hd.1 (by rw [← e]; exact List.mem_map_of_mem hx)
    have hsame : (Machine.giveShift work s a).isFree x.carriage = s.isFree x.carriage := by
      simp only [State.isFree, Steady.giveShift_other work s a _ hne]
      rfl
    rw [hsame]
    exact hfree x (by simp [hx])

theorem askShift (s : State) (n : CarriageName) (k : Nat) : Tracked s (s.askShift n k) := by
  simp only [State.askShift]
  split
  · split
    · split
      · rename_i l hl
        obtain ⟨hd, hfree⟩ := planShifts_spec _ _ _ _ _ hl
        exact giveShifts _ _ _ hd hfree
      · exact refl s
    · exact refl s
  · exact refl s

/-- The horizon and the list of a request. -/
theorem figures (s : State) (n : CarriageName) (h : Option Int) (l : List Nat) :
    Tracked s (s.modCar n fun w => { w with horizon := h, requestList := l }) := by
  refine ⟨fun m => ?_, rfl, rfl, fun _ _ _ h => h⟩
  rw [car_modCar]
  split
  · rename_i hm
    subst hm
    exact ⟨_, _, .inl rfl⟩
  · exact .refl _

theorem grantRequest (s : State) (n : CarriageName) : Tracked s (s.grantRequest n) := by
  simp only [State.grantRequest]
  split
  · split
    · exact unwait ..
    · split
      · rename_i it p leg _ _ _
        have hjudge := (figures s n (some (s.requestStretch n leg p it).1)
          (s.requestList n leg.dir (s.requestStretch n leg p it).2)).trans
            (judge n leg.dir (s.requestList n leg.dir (s.requestStretch n leg p it).2) _)
        split
        · rename_i s2 heq
          rw [heq] at hjudge
          exact hjudge.trans (unwait ..)
        · rename_i s2 k heq
          rw [heq] at hjudge
          exact (hjudge.trans (waitAt ..)).trans (askShift ..)
      · exact unwait ..
  · exact refl s

theorem retry (s : State) (c : Corridor) (k : Nat) : Tracked s (s.retry c k) := by
  have hfree : Tracked s { s with free := s.free + 1 } := of_same rfl rfl rfl rfl
  simp only [State.retry]
  split
  · exact refl s
  · exact grantRequest ..
  · split
    · exact (hfree.trans (grantRequest ..)).trans (grantRequest ..)
    · exact (hfree.trans (grantRequest ..)).trans (grantRequest ..)

theorem retryAll (c : Corridor) (l : List Nat) (s : State) : Tracked s (State.retryAll c l s) := foldl _ (fun t k => retry t c k) l s

theorem clearLayers (s : State) (n : CarriageName) (l : List Nat) : Tracked s (s.clearLayers n l) :=
  foldl _ (fun t k => modSeg t n.corridor k _ fun _ h => h) l s

theorem releaseBehind (s : State) (n : CarriageName) : Tracked s (s.releaseBehind n) := by
  simp only [State.releaseBehind]
  split
  · exact (clearLayers ..).trans (retryAll ..)
  · exact refl s

theorem seatOne (n : CarriageName) (s : State) (k : Nat) : Tracked s (State.seatOne n s k) := by
  simp only [State.seatOne]
  split
  · exact setFence _ _ _ _ fun _ => nofun
  · exact modSeg _ _ _ _ fun _ h => h

theorem toStanding (n : CarriageName) (s : State) (k : Nat) : Tracked s (State.toStanding n s k) := modSeg _ _ _ _ fun _ h => h

theorem convert (s : State) (n : CarriageName) : Tracked s (s.convert n) := by
  simp only [State.convert]
  split
  · exact ((foldl _ (toStanding n) _ s).trans (unwait ..)).trans (retryAll ..)
  · exact ((((clearLayers ..).trans (foldl _ (toStanding n) _ _)).trans (unwait ..)).trans (retryAll ..)).trans
      (foldl _ (seatOne n) _ _)

theorem seat (s : State) (n : CarriageName) : Tracked s (s.seat n) := by
  simp only [State.seat]
  split
  · exact ((clearLayers ..).trans (unwait ..)).trans (retryAll ..)
  · split
    · exact ((clearLayers ..).trans (unwait ..)).trans (retryAll ..)
    · exact (((clearLayers ..).trans (unwait ..)).trans (foldl _ (seatOne n) _ _)).trans (retryAll ..)

theorem owe (s : State) (c : Corridor) : Tracked s (s.owe c) := of_same rfl rfl rfl rfl

theorem carriages_setFence (s : State) (c : Corridor) (k : Nat) (f : Fence) : (s.setFence c k f).carriages = s.carriages := by
  simp only [State.setFence]
  split
  · have hoffer := congrArg State.carriages
      (offer_fields (s.modSeg c k fun g => { g with fence := some f }) ⟨.fence c k true f, some c, none, none, none⟩)
    exact hoffer
  · rfl

theorem carriages_fenceHeld (s : State) (n : CarriageName) : (s.fenceHeld n).carriages = s.carriages := by
  simp only [State.fenceHeld]
  generalize s.heldRun n = l
  induction l generalizing s with
  | nil => rfl
  | cons k rest ih => exact (ih _).trans (carriages_setFence ..)

end Tracked

end Sys2Proof.Machine
end

section
/-! PROOFS. The end of an order (R53, R54), and what the work of other carriages leaves of one (R63, R64, R73). -/

namespace Sys2Proof.Machine

/-! ## Events are judged by three marks of their bench -/

/-- What a watch slot reads of a bench (R168). -/
def Bench.marks (v : Bench) : Nat × Readiness × Option Nat := (v.batch, v.readiness, v.reference)

theorem slotMatches_of_marks {s t : State} {o : Offer} (hy : t.layout = s.layout)
    (hb : (o.bench.bind t.bench?).map Bench.marks = (o.bench.bind s.bench?).map Bench.marks) : slotMatches t o = slotMatches s o := by
  funext w
  simp only [slotMatches, laneSelMatches_congr hy]
  generalize o.bench.bind t.bench? = x at hb
  generalize o.bench.bind s.bench? = y at hb
  cases x with
  | none =>
    cases y with
    | none => rfl
    | some v => exact absurd hb nofun
  | some u =>
    cases y with
    | none => exact absurd hb nofun
    | some v =>
      simp only [Option.map_some, Option.some.injEq, Bench.marks, Prod.mk.injEq] at hb
      obtain ⟨hbatch, hready, href⟩ := hb
      cases hr : w.reference <;> simp [refMatches, hbatch, hready, href]

theorem offerOn_links_of_marks {s t : State} {o : Offer} (hy : t.layout = s.layout)
    (hb : (o.bench.bind t.bench?).map Bench.marks = (o.bench.bind s.bench?).map Bench.marks)
    (hl : t.links = s.links) (hm : t.millis = s.millis) (l : LinkId) : (t.offerOn o l).links = (s.offerOn o l).links := by
  have hnotify (b : NoticeBody) (f : Option (List Nat)) : (t.notify l b f).links = (s.notify l b f).links := by
    simp only [State.notify, State.modLink, State.seconds, hl, hm]
  simp only [State.offerOn, slotMatches_of_marks hy hb, show t.link l = s.link l from congrArg (Three.get · l) hl]
  by_cases hown : o.own = some l
  · simp only [if_pos hown, hnotify]
  · by_cases hempty : (firedSet (slotMatches s o) (s.link l).slots).isEmpty = true
    · simp only [if_neg hown, if_pos hempty, hl]
    · simp only [if_neg hown, if_neg hempty, hnotify]

/-- What an event writes on the links is told by the layout, the marks of its bench, the links and the clock. -/
theorem offer_links_of_marks {s t : State} {o : Offer} (hy : t.layout = s.layout)
    (hb : (o.bench.bind t.bench?).map Bench.marks = (o.bench.bind s.bench?).map Bench.marks)
    (hl : t.links = s.links) (hm : t.millis = s.millis) : (t.offer o).links = (s.offer o).links := by
  have hstep (u v : State) (l : LinkId) (h : u.layout = v.layout ∧
      (o.bench.bind u.bench?).map Bench.marks = (o.bench.bind v.bench?).map Bench.marks ∧ u.links = v.links ∧ u.millis = v.millis) :
      (u.offerOn o l).layout = (v.offerOn o l).layout ∧
      (o.bench.bind (u.offerOn o l).bench?).map Bench.marks = (o.bench.bind (v.offerOn o l).bench?).map Bench.marks ∧
      (u.offerOn o l).links = (v.offerOn o l).links ∧ (u.offerOn o l).millis = (v.offerOn o l).millis := by
    obtain ⟨h1, h2, h3, h4⟩ := h
    have hlinks := offerOn_links_of_marks h1 h2 h3 h4 l
    rw [offerOn_fields u, offerOn_fields v]
    exact ⟨h1, h2, hlinks, h4⟩
  exact (hstep _ _ .l3 (hstep _ _ .l2 (hstep t s .l1 ⟨hy, hb, hl, hm⟩))).2.2.1

/-! ## The end of an order -/

theorem giveBack_fields (s : State) (o : Order) (st : EndState) :
    s.giveBack o st = { s with benches := (s.giveBack o st).benches, lanes := (s.giveBack o st).lanes } := by
  have hunclaimed : s.unclaimed o = { s with benches := (s.unclaimed o).benches } := by
    unfold State.unclaimed
    split
    · rename_i b _
      obtain ⟨y, hy, -⟩ := modBench_shape s b fun v => if v.claim = some o.id then { v with claim := none } else v
      exact hy.trans (by rw [show s.unclaim b o.id = _ from hy])
    · rfl
  have hunheld (u : State) : u.unheld o = { u with lanes := (u.unheld o).lanes } := by
    unfold State.unheld
    cases o.phase <;> cases o.srcLane <;> rfl
  rw [giveBack_eq]
  split
  · rw [hunheld (s.unclaimed o), hunclaimed]
  · rw [hunheld (s.unclaimed o), hunclaimed]
    rfl

/-- The carriage an order leaves at its end: it is assigned no longer, and the leg of one that runs ends (R53, R75, R116). -/
def Carriage.released (v : Carriage) : Carriage := { v with assigned := none, leg := if v.state = .running then none else v.leg }

theorem unassign_fields (s : State) (n : CarriageName) (id : Nat) : s.unassign n id = { s with carriages := (s.unassign n id).carriages } := by
  simp only [State.unassign]
  split <;> rfl

theorem unassign_carriages (s : State) (n : CarriageName) (id : Nat) : (s.unassign n id).carriages =
    if (s.car n).assigned = some id then s.carriages.set n (s.car n).released else s.carriages := by
  simp only [State.unassign]
  split <;> rfl

theorem unassign_car (s : State) (n m : CarriageName) (id : Nat) :
    (s.unassign n id).car m = if n = m ∧ (s.car m).assigned = some id then (s.car m).released else s.car m := by
  simp only [State.unassign]
  by_cases ha : (s.car n).assigned = some id
  · rw [if_pos ha, car_modCar]
    by_cases hm : m = n
    · subst hm
      simp [ha, Carriage.released]
    · simp [hm, Ne.symm hm]
  · rw [if_neg ha, if_neg]
    rintro ⟨rfl, h⟩
    exact ha h

/-- The carriages once an order has left them. -/
def State.leftBy (s : State) (o : Order) : State :=
  match o.carriage with
  | some n => s.unassign n o.id
  | none => s

theorem leftBy_fields (s : State) (o : Order) : s.leftBy o = { s with carriages := (s.leftBy o).carriages } := by
  unfold State.leftBy
  split
  · exact unassign_fields ..
  · rfl

theorem leftBy_car (s : State) (o : Order) (m : CarriageName) :
    (s.leftBy o).car m = if o.carriage = some m ∧ (s.car m).assigned = some o.id then (s.car m).released else s.car m := by
  unfold State.leftBy
  cases o.carriage with
  | none => simp
  | some n => simpa using unassign_car s n m o.id

theorem leftBy_carriages_congr {s t : State} {o : Order} (h : t.carriages = s.carriages) :
    (t.leftBy o).carriages = (s.leftBy o).carriages := by
  unfold State.leftBy
  cases o.carriage with
  | none => exact h
  | some n =>
    have hcar : t.car n = s.car n := by rw [State.car, State.car, h]
    simp only [unassign_carriages, hcar, h]

/-- The allocator runs the end of an order calls for (R69). -/
def State.oweBays (s : State) (o : Order) : State :=
  if s.isBay o.dest || (match o.srcLane with | some l => s.isBay l | none => false) then (s.owe o.corridor).owe o.corridor.other
  else s.owe o.corridor

theorem oweBays_fields (s : State) (o : Order) : ∃ x, s.oweBays o = { s with owed := x } := by
  unfold State.oweBays
  generalize (s.isBay o.dest || _) = bay
  cases bay <;> exact ⟨_, rfl⟩

theorem order?_id {s : State} {id : Nat} {o : Order} (h : s.order? id = some o) : o.id = id := by
  simpa using List.find?_some h

/-- The ENDED event of an order (R54). -/
def Order.ended (o : Order) (st : EndState) (reason : Option EndReason) : Offer :=
  ⟨.ended o.id st reason o.bench, some o.corridor, o.bench.map fun _ => o.dest, o.bench, some o.link⟩

/-- What the end of an order writes (R53, R54): its holdings, its carriage, its notice and event, the book and the runs owed. -/
theorem endOrder_shape {s : State} {id : Nat} {o : Order} (h : s.order? id = some o) (st : EndState) (reason : Option EndReason) :
    ∃ x, s.endOrder id st reason = { s with
      benches := (s.giveBack o st).benches, lanes := (s.giveBack o st).lanes, carriages := (s.leftBy o).carriages
      links := (s.offer (o.ended st reason)).links, book := s.book.filter fun q => decide (q.id ≠ id), owed := x } := by
  obtain rfl := order?_id h
  have hgive := giveBack_fields s o st
  have hleft : (s.giveBack o st).leftBy o = { s.giveBack o st with carriages := (s.leftBy o).carriages } := by
    rw [leftBy_fields, leftBy_carriages_congr (s := s) (by rw [hgive])]
  have hlinks : (((s.giveBack o st).leftBy o).offer (o.ended st reason)).links = (s.offer (o.ended st reason)).links := by
    refine offer_links_of_marks (by rw [hleft, hgive]) ?_ (by rw [hleft, hgive]) (by rw [hleft, hgive])
    have hbench (b : Nat) : ((s.giveBack o st).leftBy o).bench? b = (s.giveBack o st).bench? b := by rw [hleft]; rfl
    cases hb : (o.ended st reason).bench with
    | none => rfl
    | some b =>
      simp only [Option.bind_some, hbench, giveBack_bench?, Option.map_map]
      refine congrArg (Option.map · (s.bench? b)) (funext fun v => ?_)
      simp only [Function.comp]
      split <;> rfl
  obtain ⟨x, hx⟩ := oweBays_fields ({ ((s.giveBack o st).leftBy o).offer (o.ended st reason) with
    book := s.book.filter fun q => decide (q.id ≠ o.id) } : State) o
  refine ⟨x, ?_⟩
  have hend : s.endOrder o.id st reason = ({ ((s.giveBack o st).leftBy o).offer (o.ended st reason) with
      book := (((s.giveBack o st).leftBy o).offer (o.ended st reason)).book.filter fun q => decide (q.id ≠ o.id) } : State).oweBays o := by
    simp only [State.endOrder, h]
    rfl
  have hoffer := offer_fields ((s.giveBack o st).leftBy o) (o.ended st reason)
  have hbook : (((s.giveBack o st).leftBy o).offer (o.ended st reason)).book = s.book := by
    rw [hoffer, hleft, hgive]
  rw [hend, hbook, hx, hoffer, hlinks, hleft, hgive]

theorem endOrder_none {s : State} {id : Nat} (h : s.order? id = none) (st : EndState) (reason : Option EndReason) :
    s.endOrder id st reason = s := by
  simp only [State.endOrder, h]

theorem endOrder_car {s : State} {id : Nat} {o : Order} (h : s.order? id = some o) (st : EndState) (reason : Option EndReason)
    (m : CarriageName) : (s.endOrder id st reason).car m =
      if o.carriage = some m ∧ (s.car m).assigned = some id then (s.car m).released else s.car m := by
  obtain ⟨x, hx⟩ := endOrder_shape h st reason
  rw [hx, ← order?_id h]
  exact leftBy_car s o m

/-- The end of an order takes nothing of a carriage but its order and its leg. -/
theorem endOrder_stand (s : State) (id : Nat) (st : EndState) (reason : Option EndReason) (m : CarriageName) :
    ((s.endOrder id st reason).car m).stand = (s.car m).stand := by
  cases h : s.order? id with
  | none => rw [endOrder_none h]
  | some o =>
    rw [endOrder_car h]
    split <;> rfl

theorem endOrder_state (s : State) (id : Nat) (st : EndState) (reason : Option EndReason) (m : CarriageName) :
    ((s.endOrder id st reason).car m).state = (s.car m).state := by
  cases h : s.order? id with
  | none => rw [endOrder_none h]
  | some o =>
    rw [endOrder_car h]
    split <;> rfl

theorem endOrder_book (s : State) (id : Nat) (st : EndState) (reason : Option EndReason) :
    (s.endOrder id st reason).book = s.book.filter fun q => decide (q.id ≠ id) := by
  cases h : s.order? id with
  | none =>
    rw [endOrder_none h]
    refine (List.filter_eq_self.mpr fun q hq => ?_).symm
    simpa using fun hid : q.id = id => by simpa [hid] using List.find?_eq_none.mp h q hq
  | some o =>
    obtain ⟨x, hx⟩ := endOrder_shape h st reason
    rw [hx]

/-! ## The work of other carriages -/

/-- A carriage that waits for no shift. -/
def Carriage.Unwaiting (v : Carriage) : Prop := ∀ k, v.task = some k → k.waitingFor = []

theorem Carriage.Unwaiting.of_none {v : Carriage} (h : v.task = none) : v.Unwaiting := fun _ hk => absurd (h.symm.trans hk) nofun

/-- A carriage after requests of the reservation table waits for no shift where it waited for none. -/
theorem Touched.unwaiting {v w : Carriage} (h : Touched v w) (hv : v.Unwaiting) : w.Unwaiting := by
  obtain ⟨a, b, rfl | ⟨_, _, lo, hi, x, work, leg, rfl⟩⟩ := h
  · exact hv
  · intro k hk
    cases hk
    rfl

/-- The carriage whose work waits for the shift of another one. -/
def State.waitsOn (s : State) (n w : CarriageName) : Bool :=
  match (s.car w).task with
  | some k => k.waitingFor.contains n
  | none => false

theorem waiter_ne {s : State} {l : List CarriageName} {n m w : CarriageName} (h : l.find? (s.waitsOn n) = some w)
    (hm : (s.car m).Unwaiting) : m ≠ w := by
  rintro rfl
  have hwaits := List.find?_some h
  simp only [State.waitsOn] at hwaits
  cases hk : (s.car m).task with
  | none => rw [hk] at hwaits; exact absurd hwaits (by simp)
  | some k => rw [hk] at hwaits; exact absurd hwaits (by simp [hm k hk])

@[simp] theorem State.car_owe (s : State) (c : Corridor) (m : CarriageName) : (s.owe c).car m = s.car m := rfl

@[simp] theorem State.car_notifyAll (s : State) (b : NoticeBody) (m : CarriageName) : (s.notifyAll b).car m = s.car m := rfl

theorem shiftFailed_car {s : State} (n : CarriageName) {m : CarriageName} (hm : (s.car m).Unwaiting) :
    (s.shiftFailed n).car m = s.car m := by
  simp only [State.shiftFailed]
  split
  · rfl
  · rename_i w hw
    have hne : m ≠ w := waiter_ne hw hm
    rw [State.car_owe, car_modCar, if_neg hne]
    split <;> rfl

/-- A carriage as it becomes FAULTED (R64). -/
def Carriage.faultedBy (v : Carriage) (kind : FaultKind) (code : Option Nat) : Carriage :=
  { v with
    state := .faulted, faultKind := some kind, faultCode := code, remembered := none, task := none, leg := none, homing := none
    docked := none }

theorem enterFaulted_self (s : State) (n : CarriageName) (kind : FaultKind) (code : Option Nat) :
    (s.enterFaulted n kind code).car n = (s.car n).faultedBy kind code := by
  have hfaulted : (((s.withdrawWait n).unwait n).modCar n fun v => v.faultedBy kind code).car n = (s.car n).faultedBy kind code := by
    rw [car_modCar, if_pos rfl]
    exact congrArg (Carriage.faultedBy · kind code) (Steady.withdrawWait_car s n n)
  simp only [State.enterFaulted]
  split
  · refine (shiftFailed_car n ?_).trans hfaulted
    exact .of_none ((congrArg Carriage.task hfaulted).trans rfl)
  · exact hfaulted

theorem enterFaulted_other {s : State} {n m : CarriageName} (kind : FaultKind) (code : Option Nat) (hne : m ≠ n)
    (hm : (s.car m).Unwaiting) : (s.enterFaulted n kind code).car m = s.car m := by
  have hother : (((s.withdrawWait n).unwait n).modCar n fun v => v.faultedBy kind code).car m = s.car m := by
    rw [car_modCar, if_neg hne]
    exact Steady.withdrawWait_car s n m
  simp only [State.enterFaulted]
  split
  · exact (shiftFailed_car n ((congrArg Carriage.Unwaiting hother).mpr hm)).trans hother
  · exact hother

theorem enterHoming_other {s : State} {n m : CarriageName} (hne : m ≠ n) (hm : (s.car m).Unwaiting) :
    (s.enterHoming n).car m = s.car m := by
  simp only [State.enterHoming]
  split
  · exact (car_modCar ..).trans (if_neg hne)
  · rw [State.car_notifyAll]
    exact enterFaulted_other _ _ hne hm

theorem startOrder_other {s : State} {n m : CarriageName} (hne : m ≠ n) : (s.startOrder n).car m = s.car m := by
  simp only [State.startOrder]
  split
  · rfl
  · split
    · simp only [State.beginLeg, car_modCar, if_neg hne]
      rfl
    · exact (car_modCar ..).trans (if_neg hne)

theorem startWork_other {s : State} {n m : CarriageName} (hne : m ≠ n) (hm : (s.car m).Unwaiting) :
    (s.startWork n).car m = s.car m := by
  simp only [State.startWork]
  split
  · split
    · exact startOrder_other hne
    · exact enterHoming_other hne hm
    · rfl
  · rfl

theorem endShift_car {s : State} (n : CarriageName) {m : CarriageName} (hm : (s.car m).Unwaiting) :
    (s.endShift n).car m = s.car m := by
  simp only [State.endShift]
  split
  · rfl
  · rename_i w hw
    have hne : m ≠ w := waiter_ne (s := s.owe n.corridor) hw hm
    have hsame : ((s.owe n.corridor).modCar w fun v =>
        { v with task := v.task.map fun k => { k with waitingFor := k.waitingFor.filter fun m => decide (m ≠ n) } }).car m = s.car m :=
      (car_modCar ..).trans (if_neg hne)
    split
    · split
      · exact (startWork_other hne (by rw [hsame]; exact hm)).trans hsame
      · exact hsame
    · exact hsame

/-- A carriage as it stands IDLE (R63). -/
def Carriage.idleNow (v : Carriage) : Carriage :=
  { v with state := .idle, remembered := none, task := none, leg := none, docked := none }

/-- The carriage that becomes IDLE: it stands so, or the retries of the conversion have shifted it (R63, R82, R85). -/
theorem becomeIdle_touched (s : State) (n : CarriageName) : Touched (s.car n).idleNow ((s.becomeIdle n).car n) := by
  have hidle : (s.modCar n Carriage.idleNow).car n = (s.car n).idleNow := (car_modCar ..).trans (if_pos rfl)
  have hconvert := (Tracked.convert (s.modCar n Carriage.idleNow) n).cars n
  rw [hidle] at hconvert
  have hbase : Touched (s.car n).idleNow ((((s.modCar n Carriage.idleNow).convert n).owe n.corridor).car n) := hconvert
  simp only [State.becomeIdle]
  split
  · have hsame := endShift_car n (hbase.unwaiting (.of_none rfl))
    exact hsame.symm ▸ hbase
  · exact hbase

/-- A carriage that becomes IDLE ends so, or on a shift. -/
theorem becomeIdle_idled (s : State) (n : CarriageName) : Idled ((s.becomeIdle n).car n) :=
  (becomeIdle_touched s n).idled rfl rfl rfl rfl rfl

end Sys2Proof.Machine
end

section
/-! PROOFS. Faults (R64, R138) and the rows that bring them: timeouts (R112, R138) and missed exchanges (R149). -/

namespace Sys2Proof.Machine

/-! ## Interruption -/

theorem withdraw_stand (s : State) (n m : CarriageName) : ((s.withdraw n).car m).stand = (s.car m).stand := (Calm.withdraw s n).cars m

theorem cancelClaimant_stand (s : State) (c : Corridor) (b puller : Nat) (m : CarriageName) :
    ((s.cancelClaimant c b puller).car m).stand = (s.car m).stand := by
  simp only [State.cancelClaimant]
  split
  · split
    · rfl
    · split
      · split
        · exact endOrder_stand ..
        · exact (withdraw_stand ..).trans (endOrder_stand ..)
      · exact endOrder_stand ..
  · rfl

/-- A carriage whose transfer was interrupted (R138). -/
def Carriage.straddled (v : Carriage) : Carriage := { v with load := .straddled, transfer := none, mark := none }

theorem car_oweAt (s : State) (c : Corridor) (k : Nat) (m : CarriageName) : (s.oweAt c k).car m = s.car m := by
  simp only [State.oweAt]
  split <;> rfl

theorem car_moveBench (s : State) (b : Nat) (pl : Place) (m : CarriageName) : (s.moveBench b pl).car m = s.car m := by
  obtain ⟨y, hy, -⟩ := modBench_shape s b fun v => { v with place := pl, lastMoved := s.seconds }
  rw [State.moveBench, hy]
  rfl

/-- The tables of a pull whose bench leaves the list as it is interrupted (R138). -/
def State.pulledOff (s : State) (n : CarriageName) (tr : Transfer) : State :=
  match tr.kind with
  | .pull => ((s.cancelClaimant n.corridor tr.bench tr.order).leaveLane tr.lane tr.bench).modOrder tr.order fun o =>
      { o with bench := some tr.bench }
  | .push => s

theorem pulledOff_stand (s : State) (n : CarriageName) (tr : Transfer) (m : CarriageName) :
    ((s.pulledOff n tr).car m).stand = (s.car m).stand := by
  unfold State.pulledOff
  cases tr.kind with
  | pull => exact cancelClaimant_stand ..
  | push => rfl

theorem leaveStraddling_eq (s : State) (n : CarriageName) (tr : Transfer) : s.leaveStraddling n tr =
    ((((s.pulledOff n tr).moveBench tr.bench (.straddling n tr.lane n.corridor)).modCar n Carriage.straddled).oweAt n.corridor tr.lane) :=
  rfl

theorem leaveStraddling_car (s : State) (n : CarriageName) (tr : Transfer) (m : CarriageName) :
    (s.leaveStraddling n tr).car m = if m = n then ((s.pulledOff n tr).car n).straddled else (s.pulledOff n tr).car m := by
  rw [leaveStraddling_eq, car_oweAt, car_modCar, car_moveBench, car_moveBench]

/-- Interruption takes of the carriages only the load, the record and the mark of the transfer. -/
theorem leaveStraddling_stand (s : State) (n : CarriageName) (tr : Transfer) (m : CarriageName) :
    ((s.leaveStraddling n tr).car m).stand = if m = n then (s.car n).stand.straddled else (s.car m).stand := by
  rw [leaveStraddling_car]
  split
  · exact congrArg Carriage.straddled (pulledOff_stand s n tr n)
  · exact pulledOff_stand s n tr m

/-! ## Becoming FAULTED -/

/-- What a fault ends before the carriage becomes FAULTED (R51, R138). -/
def State.beforeFault (s : State) (n : CarriageName) (ending : EndState) : State :=
  match (s.car n).state, (s.car n).transfer with
  | .transferring, some tr =>
    (s.leaveStraddling n tr).endOrder tr.order ending (if ending = EndState.failed then some .interrupted else none)
  | _, _ =>
    match (s.car n).assigned with
    | some id => s.endOrder id .failed (some .carriageFault)
    | none => s

theorem faultCore_first {s : State} {n : CarriageName} (h : (s.car n).state ≠ .faulted) (kind : FaultKind) (code : Option Nat)
    (ending : EndState) :
    s.faultCore n kind code ending = ((s.beforeFault n ending).enterFaulted n kind code, some (kind, code)) := by
  simp only [State.faultCore, if_neg h]
  rfl

theorem fault_first {s : State} {n : CarriageName} (h : (s.car n).state ≠ .faulted) (kind : FaultKind) (code : Option Nat) :
    s.fault n kind code = ((s.beforeFault n .failed).enterFaulted n kind code).notifyAll (.fault n kind code) := by
  rw [State.fault, faultCore_first h]
  rfl

theorem beforeFault_transferring {s : State} {n : CarriageName} {tr : Transfer} (h : (s.car n).state = .transferring)
    (ht : (s.car n).transfer = some tr) (ending : EndState) : s.beforeFault n ending =
      (s.leaveStraddling n tr).endOrder tr.order ending (if ending = EndState.failed then some .interrupted else none) := by
  simp only [State.beforeFault, h, ht]

theorem beforeFault_otherwise {s : State} {n : CarriageName} (h : (s.car n).state ≠ .transferring ∨ (s.car n).transfer = none)
    (ending : EndState) : s.beforeFault n ending =
      match (s.car n).assigned with
      | some id => s.endOrder id .failed (some .carriageFault)
      | none => s := by
  unfold State.beforeFault
  split
  · rename_i tr hstate htr
    exact h.elim (fun h => absurd hstate h) fun h => absurd (h.symm.trans htr) nofun
  · rfl

/-- Before a fault, a carriage loses at most its load, record and mark, where it is transferring (R138). -/
theorem beforeFault_stand (s : State) (n : CarriageName) (ending : EndState) (m : CarriageName) :
    ((s.beforeFault n ending).car m).stand =
      if m = n ∧ (s.car n).state = .transferring ∧ (s.car n).transfer ≠ none then (s.car n).stand.straddled else (s.car m).stand := by
  by_cases htr : (s.car n).state = .transferring ∧ (s.car n).transfer ≠ none
  · obtain ⟨tr, ht⟩ := Option.ne_none_iff_exists'.mp htr.2
    rw [beforeFault_transferring htr.1 ht, endOrder_stand, leaveStraddling_stand]
    simp [htr.1, ht]
  · have hother : (s.car n).state ≠ .transferring ∨ (s.car n).transfer = none := by grind
    rw [beforeFault_otherwise hother, if_neg fun h => htr h.2]
    cases (s.car n).assigned with
    | none => rfl
    | some id => exact endOrder_stand ..

/-- The first fault of a carriage, with what it keeps of its record (R64). -/
theorem fault_car {s : State} {n : CarriageName} (h : (s.car n).state ≠ .faulted) (kind : FaultKind) (code : Option Nat) :
    (s.fault n kind code).car n = ((s.beforeFault n .failed).car n).faultedBy kind code := by
  rw [fault_first h, State.car_notifyAll, enterFaulted_self]

theorem faultedBy_stand (v : Carriage) (kind : FaultKind) (code : Option Nat) : (v.faultedBy kind code).stand = v.stand := rfl

theorem faultNotice_car (n m : CarriageName) (r : State × Option (FaultKind × Option Nat)) : (State.faultNotice n r).car m = r.1.car m := by
  simp only [State.faultNotice]
  split <;> rfl

/-- A fault leaves every other carriage its record, but for its work. -/
theorem fault_stand_other (s : State) {n m : CarriageName} (hne : m ≠ n) (kind : FaultKind) (code : Option Nat) :
    ((s.fault n kind code).car m).stand = (s.car m).stand := by
  by_cases h : (s.car n).state = .faulted
  · simp only [State.fault, State.faultCore, if_pos h]
    have hmod : ∀ (g : Carriage → Carriage), (s.modCar n g).car m = s.car m := fun g => (car_modCar ..).trans (if_neg hne)
    split
    · split
      · exact congrArg Carriage.stand ((faultNotice_car ..).trans (hmod _))
      · rfl
    · exact congrArg Carriage.stand ((faultNotice_car ..).trans (hmod _))
  · rw [fault_first h, State.car_notifyAll, (Calm.enterFaulted ..).cars, beforeFault_stand, if_neg fun h => hne h.1]

theorem fault_stand {s : State} {n : CarriageName} (h : (s.car n).state ≠ .faulted)
    (ht : (s.car n).state ≠ .transferring ∨ (s.car n).transfer = none) (kind : FaultKind) (code : Option Nat) :
    ((s.fault n kind code).car n).stand = (s.car n).stand := by
  rw [fault_car h, faultedBy_stand, beforeFault_stand, if_neg (by grind)]

/-- A fault keeps position, offset and u (R64). -/
theorem fault_position {s : State} {n : CarriageName} (h : (s.car n).state ≠ .faulted) (kind : FaultKind) (code : Option Nat) :
    ((s.fault n kind code).car n).p = (s.car n).p ∧ ((s.fault n kind code).car n).offset = (s.car n).offset ∧
      ((s.fault n kind code).car n).u = (s.car n).u := by
  have hstand := beforeFault_stand s n .failed n
  rw [fault_car h]
  have hp := congrArg Carriage.p hstand
  have hoffset := congrArg Carriage.offset hstand
  have hu := congrArg Carriage.u hstand
  split at hstand
  all_goals simp_all [Carriage.stand, Carriage.straddled, Carriage.faultedBy]

/-! ## Book and benches at an interruption -/

theorem bench?_of_calm {s t : State} (h : Calm s t) (b : Nat) : t.bench? b = s.bench? b := congrArg (Table.get? · b) h.benches

/-- The ids of the live orders. -/
def State.ids (s : State) : List Nat := s.book.map (·.id)

theorem ids_of_calm {s t : State} (h : Calm s t) : t.ids = s.ids := by
  have hids := congrArg (List.map Order.id) h.orders
  simp only [List.map_map] at hids
  exact hids

theorem endOrder_ids (s : State) (id : Nat) (st : EndState) (reason : Option EndReason) : id ∉ (s.endOrder id st reason).ids := by
  rw [State.ids, endOrder_book]
  simp

theorem endOrder_bench? {s : State} {id : Nat} (st : EndState) (reason : Option EndReason) (b : Nat) :
    ∃ g : Bench → Bench, (∀ v, (g v).place = v.place ∧ (g v).identity = v.identity) ∧
      (s.endOrder id st reason).bench? b = (s.bench? b).map g := by
  cases h : s.order? id with
  | none =>
    rw [endOrder_none h]
    exact ⟨fun v => v, fun v => ⟨rfl, rfl⟩, by cases s.bench? b <;> rfl⟩
  | some o =>
    obtain ⟨x, hx⟩ := endOrder_shape h st reason
    rw [hx]
    refine ⟨_, fun v => ?_, giveBack_bench? s o st b⟩
    split <;> exact ⟨rfl, rfl⟩

theorem endOrder_place {s : State} {id : Nat} (st : EndState) (reason : Option EndReason) (b : Nat) :
    ((s.endOrder id st reason).bench? b).map Bench.place = (s.bench? b).map Bench.place := by
  obtain ⟨g, hg, hbench⟩ := endOrder_bench? (s := s) (id := id) st reason b
  rw [hbench, Option.map_map]
  exact congrArg (Option.map · (s.bench? b)) (funext fun v => (hg v).1)

theorem cancelClaimant_place (s : State) (c : Corridor) (b puller m : Nat) :
    ((s.cancelClaimant c b puller).bench? m).map Bench.place = (s.bench? m).map Bench.place := by
  have hwithdraw (t : State) (n : CarriageName) : ((t.withdraw n).bench? m).map Bench.place = (t.bench? m).map Bench.place := by
    rw [bench?_of_calm (Calm.withdraw t n)]
  simp only [State.cancelClaimant]
  split
  · split
    · rfl
    · split
      · split
        · exact endOrder_place ..
        · exact (hwithdraw ..).trans (endOrder_place ..)
      · exact endOrder_place ..
  · rfl

theorem pulledOff_place (s : State) (n : CarriageName) (tr : Transfer) (m : Nat) :
    ((s.pulledOff n tr).bench? m).map Bench.place = (s.bench? m).map Bench.place := by
  unfold State.pulledOff
  cases tr.kind with
  | pull => exact cancelClaimant_place ..
  | push => rfl

theorem bench?_oweAt (s : State) (c : Corridor) (k b : Nat) : (s.oweAt c k).bench? b = s.bench? b := by
  simp only [State.oweAt]
  split <;> rfl

theorem leaveStraddling_place {s : State} (n : CarriageName) {tr : Transfer} {v : Bench} (h : s.bench? tr.bench = some v) :
    ((s.leaveStraddling n tr).bench? tr.bench).map Bench.place = some (.straddling n tr.lane n.corridor) := by
  have hplace := pulledOff_place s n tr tr.bench
  rw [h] at hplace
  obtain ⟨w, hw, -⟩ := Option.map_eq_some_iff.mp hplace
  rw [leaveStraddling_eq, bench?_oweAt]
  refine (congrArg (Option.map Bench.place) (State.bench?_modBench (s.pulledOff n tr) tr.bench tr.bench _)).trans ?_
  rw [if_pos rfl, hw]
  rfl

/-! ## Timeouts -/

/-- What the faults of one event leave of the unit, the end of the event too. -/
theorem fault_finish_within (b s : State) (n : CarriageName) (kind : FaultKind) (code : Option Nat) :
    Within s (b.finish (s.fault n kind code)) := (Within.fault ..).trans (.finish ..)

/-- The end of an event leaves a FAULTED carriage FAULTED, with its kind. -/
theorem finish_faulted {b s : State} {n : CarriageName} (h : (s.car n).state = .faulted) :
    ((b.finish s).car n).state = .faulted ∧ ((b.finish s).car n).faultKind = (s.car n).faultKind ∧
      ((b.finish s).car n).stand = (s.car n).stand := by
  have hdoing := Steady.finish b s n (by rw [h]; decide) (by rw [h]; decide)
  exact ⟨(congrArg (·.1) hdoing).trans h, congrArg (·.2.2.1) hdoing, (Calm.finish b s).cars n⟩

theorem homingDue_of_homing {s : State} {n : CarriageName} {h : HomingFields} (hs : (s.car n).state = .homing)
    (hhold : s.hold n.corridor = false) (hh : (s.car n).homing = some h) :
    s.homingDue n = some (h.start + if (s.car n).homings = 0 then 180000 else 90000) := by
  simp only [State.homingDue, hs, hhold, and_self, if_true, hh]
  rfl

theorem homingDue_eq_none {s : State} {n : CarriageName}
    (h : (s.car n).state ≠ .homing ∨ s.hold n.corridor = true ∨ (s.car n).homing = none) : s.homingDue n = none := by
  simp only [State.homingDue]
  split
  · rename_i hdue
    rcases h with h | h | h
    · exact absurd hdue.1 h
    · exact absurd (h.symm.trans hdue.2) nofun
    · rw [h]; rfl
  · rfl

theorem transferDue_of_transferring {s : State} {n : CarriageName} {tr : Transfer} (hs : (s.car n).state = .transferring)
    (ht : (s.car n).transfer = some tr) : s.transferDue n = some (tr.start + 60000) := by
  simp only [State.transferDue, hs, ht]
  rfl

theorem transferDue_eq_none {s : State} {n : CarriageName} (h : (s.car n).state ≠ .transferring ∨ (s.car n).transfer = none) :
    s.transferDue n = none := by
  unfold State.transferDue
  split
  · rename_i tr hstate htr
    exact h.elim (fun h => absurd hstate h) fun h => absurd (h.symm.trans htr) nofun
  · rfl

/-- Settles O60: a timeout that is due faults its carriage; one that is not leaves the unit as it stands. -/
theorem timeoutsFaultTheCarriage : Obligations.TimeoutsFaultTheCarriage := by
  intro s n hp
  refine ⟨fun ho hnot => ?_, fun h hstate hhold hh => ?_, fun ho hnot => ?_, fun tr hstate htr => ?_⟩
  · have hsame : s.homingExpires n = s := by rw [State.homingExpires, homingDue_eq_none hnot]
    exact congrArg Host.Outcome.next ((event_of_same hp (by rw [hsame]; exact ho) (by rw [hsame]; exact fun _ => rfl)).trans hsame)
  · have hexpires : s.homingExpires n =
        (s.atLeast (h.start + if (s.car n).homings = 0 then 180000 else 90000)).fault n .homingFailed none := by
      rw [State.homingExpires, homingDue_of_homing hstate hhold hh]
    refine ⟨_, congrArg Host.Outcome.next ((if_pos hp).trans (congrArg s.finish hexpires)), ?_⟩
    generalize h.start + (if (s.car n).homings = 0 then 180000 else 90000) = m
    have hwithin := fault_finish_within s (s.atLeast m) n .homingFailed none
    have hne : ((s.atLeast m).car n).state ≠ .faulted := by rw [show (s.atLeast m).car n = s.car n from rfl, hstate]; decide
    have hfaulted := fault_car hne .homingFailed none
    obtain ⟨hf, hkind, hstand⟩ := finish_faulted (b := s) (congrArg Carriage.state hfaulted)
    obtain ⟨hpos, -, hu⟩ := fault_position hne .homingFailed none
    exact ⟨hwithin.millis, hf, hkind.trans (congrArg Carriage.faultKind hfaulted), (congrArg Carriage.p hstand).trans hpos,
      (congrArg Carriage.u hstand).trans hu, hwithin.layout⟩
  · have hsame : s.transferExpires n = s := by rw [State.transferExpires, transferDue_eq_none hnot]
    exact congrArg Host.Outcome.next ((event_of_same hp (by rw [hsame]; exact ho) (by rw [hsame]; exact fun _ => rfl)).trans hsame)
  · have hexpires : s.transferExpires n = (s.atLeast (tr.start + 60000)).fault n .transferInterrupted none := by
      rw [State.transferExpires, transferDue_of_transferring hstate htr]
    refine ⟨_, congrArg Host.Outcome.next ((if_pos hp).trans (congrArg s.finish hexpires)), ?_⟩
    generalize tr.start + 60000 = m
    have hwithin := fault_finish_within s (s.atLeast m) n .transferInterrupted none
    have hne : ((s.atLeast m).car n).state ≠ .faulted := by rw [show (s.atLeast m).car n = s.car n from rfl, hstate]; decide
    have hfaulted := fault_car hne .transferInterrupted none
    obtain ⟨hf, hkind, hstand⟩ := finish_faulted (b := s) (congrArg Carriage.state hfaulted)
    have hstraddled : (((s.atLeast m).fault n .transferInterrupted none).car n).stand = (s.car n).stand.straddled := by
      rw [hfaulted, faultedBy_stand, beforeFault_stand]
      exact if_pos ⟨rfl, hstate, by rw [show (s.atLeast m).car n = s.car n from rfl, htr]; exact nofun⟩
    have hend := hstand.trans hstraddled
    have hbefore := beforeFault_transferring (s := s.atLeast m) hstate htr .failed
    have hcalm : Calm ((s.atLeast m).beforeFault n .failed) (s.finish ((s.atLeast m).fault n .transferInterrupted none)) := by
      rw [fault_first hne]
      exact ((Calm.enterFaulted ..).trans (.notifyAll ..)).trans (.finish ..)
    refine ⟨hwithin.millis, hf, hkind.trans (congrArg Carriage.faultKind hfaulted), congrArg Carriage.load hend,
      congrArg Carriage.transfer hend, congrArg Carriage.mark hend, hwithin.layout, fun q hq hid => ?_, fun v hv => ?_⟩
    · have hids := ids_of_calm hcalm
      rw [hbefore] at hids
      have hmem : tr.order ∈ (s.finish ((s.atLeast m).fault n .transferInterrupted none)).ids := List.mem_map.mpr ⟨q, hq, hid⟩
      rw [hids] at hmem
      exact endOrder_ids _ tr.order .failed _ hmem
    · rw [bench?_of_calm hcalm, hbefore, endOrder_place]
      exact leaveStraddling_place n hv

end Sys2Proof.Machine
end

section
/-! PROOFS. What a fault leaves of a held run (R64, R92), and what follows on a line when an exchange ends (R144, R145). -/

namespace Sys2Proof.Machine

/-! ## A held run through requests and faults -/

theorem Table.mem_putL {α : Type} {l : List (Nat × α)} {k : Nat} {v : α} {e : Nat × α} (h : e ∈ l) :
    e ∈ Table.putL l k v ∨ (e.1 = k ∧ Table.getL l k = some e.2) := by
  induction l with
  | nil => exact absurd h (by simp)
  | cons a rest ih =>
    obtain ⟨j, w⟩ := a
    simp only [Table.putL, Table.getL]
    split
    · exact .inl (List.mem_cons_of_mem _ h)
    · split
      · rename_i hjk
        rcases List.mem_cons.mp h with rfl | hrest
        · exact .inr ⟨hjk.symm, rfl⟩
        · exact .inl (List.mem_cons_of_mem _ hrest)
      · rcases List.mem_cons.mp h with rfl | hrest
        · exact .inl List.mem_cons_self
        · exact (ih hrest).imp_left (List.mem_cons_of_mem _)

theorem Table.mem_putL_self {α : Type} (l : List (Nat × α)) (k : Nat) (v : α) : (k, v) ∈ Table.putL l k v := by
  induction l with
  | nil => simp [Table.putL]
  | cons a rest ih =>
    simp only [Table.putL]
    split
    · exact List.mem_cons_self
    · split
      · exact List.mem_cons_self
      · exact List.mem_cons_of_mem _ ih

/-- A carriage goes on holding every segment that it holds. -/
structure HoldsOn (n : CarriageName) (s t : State) : Prop where
  run : ∀ k ∈ s.heldRun n, k ∈ t.heldRun n

namespace HoldsOn

variable {n : CarriageName}

theorem refl (s : State) : HoldsOn n s s := ⟨fun _ h => h⟩

theorem trans {s t u : State} (h : HoldsOn n s t) (k : HoldsOn n t u) : HoldsOn n s u := ⟨fun i hi => k.run i (h.run i hi)⟩

theorem foldl {α : Type} (f : State → α → State) (hf : ∀ t a, HoldsOn n t (f t a)) (l : List α) (s : State) :
    HoldsOn n s (l.foldl f s) := by
  induction l generalizing s with
  | nil => exact refl s
  | cons a rest ih => exact (hf s a).trans (ih (f s a))

theorem of_run {s t : State} (h : t.segments.get n.corridor = s.segments.get n.corridor) : HoldsOn n s t := by
  refine ⟨fun k hk => ?_⟩
  rwa [State.heldRun, h]

theorem of_segments {s t : State} (h : t.segments = s.segments) : HoldsOn n s t := of_run (by rw [h])

/-- A segment of the other corridor, or one whose layers go on naming the carriage. -/
theorem modSeg (s : State) (c : Corridor) (k : Nat) (g : Segment → Segment)
    (hg : c = n.corridor → (s.seg c k).holds n = true → (g (s.seg c k)).holds n = true) : HoldsOn n s (s.modSeg c k g) := by
  by_cases hc : c = n.corridor
  · subst hc
    refine ⟨fun j hj => ?_⟩
    obtain ⟨⟨i, v⟩, he, rfl⟩ := List.mem_map.mp hj
    obtain ⟨hmem, hholds⟩ := List.mem_filter.mp he
    have htable : (s.modSeg n.corridor k g).segments.get n.corridor =
        (s.segments.get n.corridor).put k (g (s.seg n.corridor k)) := by
      simp only [State.modSeg, State.setSeg, Two.get_set, if_true]
    simp only [State.heldRun, htable, List.mem_map, List.mem_filter]
    rcases Table.mem_putL hmem with hput | ⟨hik, hget⟩
    · exact ⟨(i, v), ⟨hput, hholds⟩, rfl⟩
    · have hseg : s.seg n.corridor k = v := congrArg (Option.getD · Segment.blank) hget
      refine ⟨(k, g (s.seg n.corridor k)), ⟨Table.mem_putL_self _ k _, hg rfl ?_⟩, hik.symm⟩
      rw [hseg]
      exact hholds
  · refine of_run ?_
    simp only [State.modSeg, State.setSeg, Two.get_set, if_neg (Ne.symm hc)]

/-- Waiting sets alone. -/
theorem waiting (s : State) (c : Corridor) (g : Segment → List CarriageName) :
    HoldsOn n s { s with segments := s.segments.set c ((s.segments.get c).mapValues fun _ v => { v with waiting := g v }) } := by
  refine ⟨fun j hj => ?_⟩
  by_cases hc : n.corridor = c
  · subst hc
    obtain ⟨⟨i, v⟩, he, rfl⟩ := List.mem_map.mp hj
    obtain ⟨hmem, hholds⟩ := List.mem_filter.mp he
    simp only [State.heldRun, Two.get_set, if_true]
    exact List.mem_map.mpr ⟨(i, { v with waiting := g v }),
      List.mem_filter.mpr ⟨List.mem_map.mpr ⟨(i, v), hmem, rfl⟩, hholds⟩, rfl⟩
  · simpa only [State.heldRun, Two.get_set, if_neg hc] using hj

theorem unwait (s : State) (m : CarriageName) : HoldsOn n s (s.unwait m) := waiting s m.corridor _

theorem setFence (s : State) (c : Corridor) (k : Nat) (f : Fence) : HoldsOn n s (s.setFence c k f) := by
  simp only [State.setFence]
  split
  · exact (modSeg s c k _ fun _ h => h).trans (of_segments (segments_offer ..))
  · exact refl s

theorem waitAt (s : State) (m : CarriageName) (k : Nat) : HoldsOn n s (s.waitAt m k) :=
  (unwait ..).trans (modSeg _ _ _ _ fun _ h => h)

/-- A segment is granted to a carriage that no layer of it keeps out. -/
theorem grant {s : State} {m : CarriageName} {k : Nat} (dir : Dir) (h : s.openTo m k = true) : HoldsOn n s (s.grant m dir k) := by
  refine modSeg s _ _ _ fun hc hholds => ?_
  have hnm : n = m := Within.openTo_only s m k h n hholds
  simp [Segment.holds, hnm]

theorem judge (m : CarriageName) (dir : Dir) (l : List Nat) (s : State) : HoldsOn n s (State.judge m dir l s).1 := by
  induction l generalizing s with
  | nil => exact refl s
  | cons k rest ih =>
    simp only [State.judge]
    split
    · rename_i hopen
      simp only [Bool.and_eq_true] at hopen
      exact (grant dir hopen.2).trans (ih _)
    · split
      · split
        · rename_i hopen
          exact (grant dir hopen).trans (ih _)
        · split
          · exact (setFence ..).trans (ih _)
          · exact ih _
      · exact refl s

theorem giveShifts (w : Option Work) (l : List Shift) (s : State) : HoldsOn n s (Machine.giveShifts w l s) :=
  foldl _ (fun _ _ => of_segments (by rfl)) l s

theorem askShift (s : State) (m : CarriageName) (k : Nat) : HoldsOn n s (s.askShift m k) := by
  simp only [State.askShift]
  split
  · split
    · split
      · exact giveShifts ..
      · exact refl s
    · exact refl s
  · exact refl s

theorem grantRequest (s : State) (m : CarriageName) : HoldsOn n s (s.grantRequest m) := by
  simp only [State.grantRequest]
  split
  · split
    · exact unwait ..
    · split
      · rename_i it p leg _ _ _
        have hfigures : HoldsOn n s (s.modCar m fun w =>
            { w with
              horizon := some (s.requestStretch m leg p it).1
              requestList := s.requestList m leg.dir (s.requestStretch m leg p it).2 }) := of_segments rfl
        have hjudge := hfigures.trans (judge m leg.dir (s.requestList m leg.dir (s.requestStretch m leg p it).2) _)
        split
        · rename_i s2 heq
          rw [heq] at hjudge
          exact hjudge.trans (unwait ..)
        · rename_i s2 k heq
          rw [heq] at hjudge
          exact (hjudge.trans (waitAt ..)).trans (askShift ..)
      · exact unwait ..
  · exact refl s

theorem retry (s : State) (c : Corridor) (k : Nat) : HoldsOn n s (s.retry c k) := by
  have hfree : HoldsOn n s { s with free := s.free + 1 } := of_segments rfl
  simp only [State.retry]
  split
  · exact refl s
  · exact grantRequest ..
  · split
    · exact (hfree.trans (grantRequest ..)).trans (grantRequest ..)
    · exact (hfree.trans (grantRequest ..)).trans (grantRequest ..)

theorem retryAll (c : Corridor) (l : List Nat) (s : State) : HoldsOn n s (State.retryAll c l s) := foldl _ (fun t k => retry t c k) l s

/-- The conversion of a carriage of the other corridor. -/
theorem convert {s : State} {m : CarriageName} (h : m.corridor ≠ n.corridor) : HoldsOn n s (s.convert m) := by
  have hstanding (l : List Nat) (t : State) : HoldsOn n t (l.foldl (State.toStanding m) t) :=
    foldl _ (fun t k => modSeg t _ _ _ fun hc => absurd hc h) l t
  have hclear (l : List Nat) (t : State) : HoldsOn n t (t.clearLayers m l) :=
    foldl _ (fun t k => modSeg t _ _ _ fun hc => absurd hc h) l t
  have hseat (l : List Nat) (t : State) : HoldsOn n t (l.foldl (State.seatOne m) t) := by
    refine foldl _ (fun t k => ?_) l t
    simp only [State.seatOne]
    split
    · exact setFence ..
    · exact modSeg t _ _ _ fun hc => absurd hc h
  simp only [State.convert]
  split
  · exact ((hstanding _ s).trans (unwait ..)).trans (retryAll ..)
  · exact ((((hclear ..).trans (hstanding ..)).trans (unwait ..)).trans (retryAll ..)).trans (hseat ..)

theorem withdrawWait (s : State) (m : CarriageName) : HoldsOn n s (s.withdrawWait m) := by
  simp only [State.withdrawWait]
  split
  · split
    · exact of_segments (by rfl)
    · exact refl s
  · exact refl s

theorem shiftFailed (s : State) (m : CarriageName) : HoldsOn n s (s.shiftFailed m) := by
  refine of_segments ?_
  simp only [State.shiftFailed]
  split
  · rfl
  · rename_i w _
    cases (s.car w).assigned <;> rfl

theorem enterFaulted (s : State) (m : CarriageName) (k : FaultKind) (code : Option Nat) : HoldsOn n s (s.enterFaulted m k code) := by
  have hself : HoldsOn n s (((s.withdrawWait m).unwait m).modCar m fun v => v.faultedBy k code) :=
    ((withdrawWait s m).trans (unwait _ m)).trans (of_segments rfl)
  simp only [State.enterFaulted]
  split
  · exact (hself.trans (shiftFailed _ m)).trans (of_segments rfl)
  · exact hself.trans (of_segments rfl)

theorem notifyAll (s : State) (b : NoticeBody) : HoldsOn n s (s.notifyAll b) := of_segments rfl

theorem startWork (s : State) (m : CarriageName) : HoldsOn n s (s.startWork m) := by
  simp only [State.startWork]
  split
  · split
    · refine of_segments ?_
      simp only [State.startOrder]
      split
      · rfl
      · split <;> rfl
    · simp only [State.enterHoming]
      split
      · exact of_segments (by rfl)
      · exact (enterFaulted ..).trans (notifyAll ..)
    · exact refl s
  · exact refl s

theorem endShift (s : State) (m : CarriageName) : HoldsOn n s (s.endShift m) := by
  simp only [State.endShift]
  split
  · exact of_segments (by rfl)
  · split
    · split
      · exact (of_segments (by rfl)).trans (startWork ..)
      · exact of_segments (by rfl)
    · exact of_segments (by rfl)

theorem becomeIdle {s : State} {m : CarriageName} (h : m.corridor ≠ n.corridor) : HoldsOn n s (s.becomeIdle m) := by
  have hidle : HoldsOn n s (((s.modCar m Carriage.idleNow).convert m).owe m.corridor) :=
    HoldsOn.trans (t := s.modCar m Carriage.idleNow) (of_segments rfl) ((convert h).trans (of_segments rfl))
  simp only [State.becomeIdle]
  split
  · exact hidle.trans (endShift ..)
  · exact hidle

theorem withdraw {s : State} {m : CarriageName} (h : m.corridor ≠ n.corridor) : HoldsOn n s (s.withdraw m) := by
  simp only [State.withdraw]
  split
  · exact of_segments (by rfl)
  · exact (withdrawWait ..).trans (becomeIdle h)
  · exact of_segments (by rfl)
  · exact refl s

theorem endOrder (s : State) (id : Nat) (st : EndState) (reason : Option EndReason) : HoldsOn n s (s.endOrder id st reason) := by
  cases h : s.order? id with
  | none => rw [endOrder_none h]; exact refl s
  | some o =>
    obtain ⟨x, hx⟩ := endOrder_shape h st reason
    rw [hx]
    exact of_segments rfl

theorem cancelClaimant (s : State) (b puller : Nat) : HoldsOn n s (s.cancelClaimant n.corridor b puller) := by
  simp only [State.cancelClaimant]
  split
  · split
    · exact refl s
    · split
      · split
        · exact endOrder ..
        · rename_i hc
          exact (endOrder ..).trans (withdraw hc)
      · exact endOrder ..
  · exact refl s

theorem leaveStraddling (s : State) (tr : Transfer) : HoldsOn n s (s.leaveStraddling n tr) := by
  have hpulled : HoldsOn n s (s.pulledOff n tr) := by
    unfold State.pulledOff
    cases tr.kind with
    | pull => exact (cancelClaimant s tr.bench tr.order).trans (of_segments rfl)
    | push => exact refl s
  obtain ⟨y, hy, -⟩ := modBench_shape (s.pulledOff n tr) tr.bench fun v =>
    { v with place := .straddling n tr.lane n.corridor, lastMoved := (s.pulledOff n tr).seconds }
  have hmoved : ((s.pulledOff n tr).moveBench tr.bench (.straddling n tr.lane n.corridor)).segments = (s.pulledOff n tr).segments := by
    rw [State.moveBench, hy]
  refine hpulled.trans (of_segments ?_)
  rw [leaveStraddling_eq, State.oweAt]
  split <;> exact hmoved

theorem faultCore (s : State) (kind : FaultKind) (code : Option Nat) (ending : EndState) :
    HoldsOn n s (s.faultCore n kind code ending).1 := by
  by_cases h : (s.car n).state = .faulted
  · simp only [State.faultCore, if_pos h]
    split
    · split
      · exact of_segments (by rfl)
      · exact refl s
    · exact of_segments (by rfl)
  · rw [faultCore_first h]
    refine HoldsOn.trans ?_ (enterFaulted ..)
    unfold State.beforeFault
    split
    · exact (leaveStraddling ..).trans (endOrder ..)
    · split
      · exact endOrder ..
      · exact refl s

end HoldsOn

/-! ## A lost link (R92, R149) -/

theorem setFence_fenced (s : State) (c d : Corridor) (k j : Nat) (f : Fence) (h : (s.seg d j).fence ≠ none ∨ (c = d ∧ k = j)) :
    ((s.setFence c k f).seg d j).fence ≠ none := by
  rw [seg_setFence]
  grind

theorem fenceHeld_fenced (s : State) (n : CarriageName) : ∀ k ∈ s.heldRun n, ((s.fenceHeld n).seg n.corridor k).fence ≠ none := by
  have hkeep (l : List Nat) (t : State) (k : Nat) (h : (t.seg n.corridor k).fence ≠ none ∨ k ∈ l) :
      ((l.foldl (fun t k => t.setFence n.corridor k (.auto (.carriageLost n))) t).seg n.corridor k).fence ≠ none := by
    induction l generalizing t with
    | nil => simpa using h
    | cons a rest ih =>
      refine ih _ ?_
      rcases h with h | h
      · exact .inl (setFence_fenced _ _ _ _ _ _ (.inl h))
      · rcases List.mem_cons.mp h with rfl | h
        · exact .inl (setFence_fenced _ _ _ _ _ _ (.inr ⟨rfl, rfl⟩))
        · exact .inr h
  exact fun k hk => hkeep _ s k (.inr hk)

theorem faultLost_car (s : State) (n m : CarriageName) : (s.faultLost n).car m = (s.fault n .linkLost none).car m := by
  rw [State.faultLost, State.fault, faultNotice_car, faultNotice_car]
  exact congrArg (Six.get · m) (Tracked.carriages_fenceHeld ..)

theorem faultLost_fenced (s : State) (n : CarriageName) : ∀ k ∈ s.heldRun n, ((s.faultLost n).seg n.corridor k).fence ≠ none := by
  intro k hk
  have hfenced := fenceHeld_fenced (s.faultCore n .linkLost none .failed).1 n k ((HoldsOn.faultCore s .linkLost none .failed).run k hk)
  have hnotice (r : State × Option (FaultKind × Option Nat)) : (State.faultNotice n r).seg n.corridor k = r.1.seg n.corridor k := by
    simp only [State.faultNotice]
    split <;> rfl
  rw [State.faultLost, hnotice]
  exact hfenced

/-- A fault leaves a carriage FAULTED, with a kind of at least the rank of the fault (R64). -/
theorem fault_faulted (s : State) (n : CarriageName) (kind : FaultKind) (code : Option Nat) :
    ((s.fault n kind code).car n).state = .faulted ∧
      ∃ k, ((s.fault n kind code).car n).faultKind = some k ∧ kind.rank ≤ k.rank := by
  by_cases h : (s.car n).state = .faulted
  · have hraised (c : Option Nat) : (s.modCar n fun v => { v with faultKind := some kind, faultCode := c }).car n =
        { s.car n with faultKind := some kind, faultCode := c } := by rw [car_modCar, if_pos rfl]
    simp only [State.fault, State.faultCore, if_pos h]
    split
    · rename_i old hold
      split
      · rw [faultNotice_car, hraised]
        exact ⟨h, kind, rfl, Nat.le_refl _⟩
      · rename_i hrank
        rw [faultNotice_car]
        exact ⟨h, old, hold, Nat.le_of_not_lt hrank⟩
    · rw [faultNotice_car, hraised]
      exact ⟨h, kind, rfl, Nat.le_refl _⟩
  · rw [fault_car h]
    exact ⟨rfl, kind, rfl, Nat.le_refl _⟩

/-- A fault leaves a carriage its record, but for its work and an interrupted transfer. -/
theorem fault_stand_or (s : State) (n : CarriageName) (kind : FaultKind) (code : Option Nat) :
    ((s.fault n kind code).car n).stand = (s.car n).stand ∨ ((s.fault n kind code).car n).stand = (s.car n).stand.straddled := by
  by_cases h : (s.car n).state = .faulted
  · have hmod (c : Option Nat) : ((s.modCar n fun v => { v with faultKind := some kind, faultCode := c }).car n).stand = (s.car n).stand := by
      rw [car_modCar, if_pos rfl]
      rfl
    left
    simp only [State.fault, State.faultCore, if_pos h]
    split
    · split
      · exact (congrArg Carriage.stand (faultNotice_car ..)).trans (hmod _)
      · rfl
    · exact (congrArg Carriage.stand (faultNotice_car ..)).trans (hmod _)
  · rw [fault_car h, faultedBy_stand, beforeFault_stand]
    split
    · exact .inr rfl
    · exact .inl rfl

/-! ## The line goes on (R144, R145) -/

/-- What stays of a carriage record when its line goes on: the figures of its last set-point may be new (R126). -/
def Carriage.still (v : Carriage) : Carriage := { v.stand with figures := none }

/-- What the end of an exchange leaves of the unit (R144, R145): a set-point may have been composed, a run given out. -/
structure GoesOn (s t : State) : Prop where
  layout : t.layout = s.layout
  millis : t.millis = s.millis
  cars : ∀ m, (t.car m).still = (s.car m).still
  steady : Steady s t
  layers : SameLayers s t

namespace GoesOn

theorem refl (s : State) : GoesOn s s := ⟨rfl, rfl, fun _ => rfl, .refl s, .refl s⟩

theorem trans {s t u : State} (h : GoesOn s t) (k : GoesOn t u) : GoesOn s u :=
  ⟨k.layout.trans h.layout, k.millis.trans h.millis, fun m => (k.cars m).trans (h.cars m), h.steady.trans k.steady,
    h.layers.trans k.layers⟩

theorem modLine (s : State) (c : Corridor) (g : Line → Line) : GoesOn s (s.modLine c g) :=
  ⟨rfl, rfl, fun _ => rfl, .of_cars rfl, .of_segments rfl⟩

theorem settled (s : State) : GoesOn s s.settle :=
  ⟨(Calm.settle s).layout, (Calm.settle s).millis,
    fun m => congrArg (fun v : Carriage => { v with figures := none }) ((Calm.settle s).cars m), Steady.settleRounds 8 s,
    SameLayers.settleRounds 8 s⟩

theorem beginExchange (s : State) (c : Corridor) (address : Nat) (n : CarriageName) (rest : List (Nat × CarriageName)) :
    GoesOn s (s.beginExchange c address n rest) := by
  have hfigures : GoesOn s (s.modCar n fun v => { v with figures := some (s.figuresOf n) }) := by
    refine ⟨rfl, rfl, fun m => ?_, Steady.modCar_same _ _ _ fun _ => rfl, .of_segments rfl⟩
    rw [car_modCar]
    split
    · rename_i hm
      subst hm
      rfl
    · rfl
  simp only [State.beginExchange]
  exact hfigures.trans (modLine _ c _)

theorem nextExchange (s : State) (c : Corridor) : GoesOn s (s.nextExchange c) := by
  simp only [State.nextExchange]
  split
  · exact refl s
  · split
    · exact refl s
    · exact beginExchange ..

theorem cycleDone (s : State) (c : Corridor) : GoesOn s (s.cycleDone c) := by
  simp only [State.cycleDone]
  split
  · have hstarted : GoesOn s (({ s with starting := s.starting.set c false } : State).owe c) :=
      ⟨rfl, rfl, fun _ => rfl, .of_cars rfl, .of_segments rfl⟩
    exact hstarted.trans (settled _)
  · exact refl s

theorem endExchange (s : State) (c : Corridor) : GoesOn s (s.endExchange c) :=
  ((modLine ..).trans (nextExchange ..)).trans (cycleDone ..)

end GoesOn

end Sys2Proof.Machine
end

section
/-! PROOFS. Missed exchanges (R145, R149). -/

namespace Sys2Proof.Machine

/-- A carriage whose tag recognizer hunts again, with new miss figures of its drive (R149). -/
def Carriage.missed (v : Carriage) (misses : Nat) (link : LinkState) (lostSpeed : Nat) : Carriage :=
  { v with recognizer := .hunt 0, misses := misses, link := link, lostSpeed := lostSpeed }

theorem missExchange_lost {s : State} {n : CarriageName} (h : (s.car n).link = .lost) :
    s.missExchange n = s.modCar n fun v => { v with recognizer := .hunt 0 } := by
  simp only [State.missExchange, if_pos h]

theorem missExchange_counts {s : State} {n : CarriageName} (h : (s.car n).link = .up) (hm : (s.car n).misses < 2) :
    (s.missExchange n).car n = (s.car n).missed ((s.car n).misses + 1) .up (s.car n).lostSpeed := by
  have hup : (s.car n).link ≠ .lost := by rw [h]; decide
  simp only [State.missExchange, if_neg hup, if_pos hm, car_modCar, if_true, Carriage.missed, ← h]

/-- The unit at the third missed exchange, before the fault. -/
def State.linkGone (s : State) (n : CarriageName) : State := s.setCar n ((s.car n).missed 3 .lost (s.car n).speed)

theorem car_linkGone (s : State) (n : CarriageName) : (s.linkGone n).car n = (s.car n).missed 3 .lost (s.car n).speed := by
  rw [State.linkGone, State.car_setCar, if_pos rfl]

theorem missExchange_loses {s : State} {n : CarriageName} (h : (s.car n).link = .up) (hm : 2 ≤ (s.car n).misses) :
    s.missExchange n = (s.linkGone n).faultLost n := by
  have hup : (s.car n).link ≠ .lost := by rw [h]; decide
  have hset (g k : Carriage → Carriage) : (s.modCar n g).modCar n k = s.setCar n (k (g (s.car n))) := by
    simp only [State.modCar, State.setCar, State.car, Six.get_set, if_true]
    congr 1
    cases n <;> rfl
  simp only [State.missExchange, if_neg hup, if_neg (Nat.not_lt.mpr hm), hset]
  rfl

/-- What a missed exchange reports of a carriage (R149). -/
structure Missed (v w : Carriage) : Prop where
  hunts : w.recognizer = .hunt 0
  position : w.p = v.p
  speed : w.speed = v.speed
  lost : v.link = .lost → w.link = .lost ∧ w.misses = v.misses
  counts : v.link = .up → v.misses < 2 → w.link = .up ∧ w.misses = v.misses + 1
  loses : v.link = .up → 2 ≤ v.misses → w.link = .lost ∧ w.misses = 3 ∧ w.lostSpeed = v.speed

theorem Missed.of_still {v w x : Carriage} (h : Missed v w) (hx : x.still = w.still) : Missed v x := by
  have hrec : x.recognizer = w.recognizer := show x.still.recognizer = w.still.recognizer by rw [hx]
  have hp : x.p = w.p := show x.still.p = w.still.p by rw [hx]
  have hspeed : x.speed = w.speed := show x.still.speed = w.still.speed by rw [hx]
  have hlink : x.link = w.link := show x.still.link = w.still.link by rw [hx]
  have hmisses : x.misses = w.misses := show x.still.misses = w.still.misses by rw [hx]
  have hlost : x.lostSpeed = w.lostSpeed := show x.still.lostSpeed = w.still.lostSpeed by rw [hx]
  obtain ⟨h1, h2, h3, h4, h5, h6⟩ := h
  constructor
  · rw [hrec, h1]
  · rw [hp, h2]
  · rw [hspeed, h3]
  · rwa [hlink, hmisses]
  · rwa [hlink, hmisses]
  · rwa [hlink, hmisses, hlost]

theorem missExchange_missed (s : State) (n : CarriageName) : Missed (s.car n) ((s.missExchange n).car n) := by
  cases hlink : (s.car n).link with
  | lost =>
    rw [missExchange_lost hlink, car_modCar, if_pos rfl]
    exact ⟨rfl, rfl, rfl, fun _ => ⟨hlink, rfl⟩, fun h => absurd (hlink.symm.trans h) nofun, fun h => absurd (hlink.symm.trans h) nofun⟩
  | up =>
    have hup : ¬ (s.car n).link = .lost := fun h => absurd (hlink.symm.trans h) nofun
    by_cases hm : (s.car n).misses < 2
    · rw [missExchange_counts hlink hm]
      exact ⟨rfl, rfl, rfl, fun h => absurd h hup, fun _ _ => ⟨rfl, rfl⟩, fun _ h => absurd hm (Nat.not_lt.mpr h)⟩
    · rw [missExchange_loses hlink (Nat.le_of_not_lt hm), faultLost_car]
      have hgone := car_linkGone s n
      have hmissed : Missed (s.car n) ((s.linkGone n).car n) := by
        rw [hgone]
        exact ⟨rfl, rfl, rfl, fun h => absurd h hup, fun _ h => absurd h hm, fun _ _ => ⟨rfl, rfl, rfl⟩⟩
      rcases fault_stand_or (s.linkGone n) n .linkLost none with hstand | hstand
      · exact hmissed.of_still (congrArg (fun v : Carriage => { v with figures := none }) hstand)
      · have hstraddled : Missed (s.car n) ((s.linkGone n).car n).straddled := by
          obtain ⟨h1, h2, h3, h4, h5, h6⟩ := hmissed
          exact ⟨h1, h2, h3, h4, h5, h6⟩
        exact hstraddled.of_still (congrArg (fun v : Carriage => { v with figures := none }) hstand)

/-- Settles O58: a window that closes unanswered counts a miss, and the third loses the link and fences what its carriage holds. -/
theorem missedExchangesLoseTheLink : Obligations.MissedExchangesLoseTheLink := by
  intro s c hp
  refine ⟨fun hnone => ?_, fun ex hex => ⟨fun hcar => ?_, fun n hcar => ?_⟩⟩
  · have hcloses : s.windowCloses c = s := by simp only [State.windowCloses, hnone]
    exact congrArg Host.Outcome.next ((if_pos hp).trans hcloses)
  · have hcloses : s.windowCloses c = (s.atLeast (ex.sentAt + 20)).endExchange c := by
      simp only [State.windowCloses, hex, hcar]
      rfl
    exact congrArg Host.Outcome.next ((if_pos hp).trans hcloses)
  · have hcloses : s.windowCloses c = ((s.atLeast (ex.sentAt + 20)).finish
        ((s.atLeast (ex.sentAt + 20)).missExchange n)).endExchange c := by
      simp only [State.windowCloses, hex, hcar]
      rfl
    refine ⟨_, congrArg Host.Outcome.next ((if_pos hp).trans hcloses), ?_⟩
    have hsame : (s.atLeast (ex.sentAt + 20)).car n = s.car n := rfl
    have hrun : (s.atLeast (ex.sentAt + 20)).heldRun n = s.heldRun n := rfl
    have hmillis : (s.atLeast (ex.sentAt + 20)).millis = max s.millis (ex.sentAt + 20) := rfl
    have hlayout : (s.atLeast (ex.sentAt + 20)).layout = s.layout := rfl
    rw [← hrun, ← hsame, ← hmillis, ← hlayout]
    generalize s.atLeast (ex.sentAt + 20) = s1
    have hwithin : Within s1 (s1.finish (s1.missExchange n)) := (Within.missExchange s1 n).trans (.finish ..)
    have hruns : RunsOnly (s1.missExchange n) (s1.finish (s1.missExchange n)) := .finish ..
    have hends := GoesOn.endExchange (s1.finish (s1.missExchange n)) c
    obtain ⟨hhunts, hpos, hspeed, hlost, hcounts, hloses⟩ :=
      ((missExchange_missed s1 n).of_still (congrArg (fun v : Carriage => { v with figures := none }) (hruns.calm.cars n))).of_still
        (hends.cars n)
    refine ⟨hends.millis.trans hwithin.millis, hends.layout.trans hwithin.layout, hhunts, hpos, hspeed, hlost, hcounts,
      fun hup hm => ?_⟩
    obtain ⟨hlink, hmisses, hgone⟩ := hloses hup hm
    have hmiss := missExchange_loses hup hm
    have hcarlost : (s1.missExchange n).car n = ((s1.linkGone n).fault n .linkLost none).car n := by rw [hmiss, faultLost_car]
    obtain ⟨hfaulted, kind, hkind, hrank⟩ := fault_faulted (s1.linkGone n) n .linkLost none
    rw [← hcarlost] at hfaulted hkind
    have hdoing := (hruns.steady.trans hends.steady) n (by rw [hfaulted]; decide) (by rw [hfaulted]; decide)
    have hstate := congrArg (fun d => d.1) hdoing
    have hfaultKind := congrArg (fun d => d.2.2.1) hdoing
    refine ⟨hlink, hmisses, hgone, hstate.trans hfaulted, fun hfirst => hfaultKind.trans ?_, ⟨kind, hfaultKind.trans hkind, hrank⟩,
      fun k hk => ?_⟩
    · have hne : ((s1.linkGone n).car n).state ≠ .faulted := by rw [car_linkGone]; exact hfirst
      rw [hcarlost, fault_car hne]
      rfl
    · have hfenced := faultLost_fenced (s1.linkGone n) n k hk
      rw [← hmiss] at hfenced
      have hlayers := (SameLayers.trans hruns.layers hends.layers) n.corridor k
      exact (congrArg (fun x => x.1 ≠ none) hlayers).mpr hfenced

end Sys2Proof.Machine
end

section
/-! PROOFS. Polling cycles and the broadcast brake (R144, R145, R150). -/

namespace Sys2Proof.Machine

theorem Two.set_set {α : Type} (x : Two α) (c : Corridor) (v w : α) : (x.set c v).set c w = x.set c w := by cases c <;> rfl

theorem Two.set_of_get {α : Type} {x : Two α} {c : Corridor} {v : α} (h : x.get c = v) : x.set c v = x := by
  subst h
  cases c <;> rfl

theorem State.modLine_modLine (s : State) (c : Corridor) (g k : Line → Line) :
    (s.modLine c g).modLine c k = s.modLine c fun w => k (g w) := by
  simp only [State.modLine, Two.get_set, if_true, Two.set_set]

@[simp] theorem State.line_modLine (s : State) (c : Corridor) (g : Line → Line) : (s.modLine c g).line c = g (s.line c) := by
  simp only [State.modLine, State.line, Two.get_set, if_true]

@[simp] theorem State.drives_modLine (s : State) (c d : Corridor) (g : Line → Line) : (s.modLine c g).drives d = s.drives d := rfl

@[simp] theorem State.figuresOf_modLine (s : State) (c : Corridor) (g : Line → Line) (n : CarriageName) :
    (s.modLine c g).figuresOf n = s.figuresOf n := rfl

@[simp] theorem State.telegramTo_modLine (s : State) (c : Corridor) (g : Line → Line) (n : CarriageName) (address : Nat) :
    (s.modLine c g).telegramTo n address = s.telegramTo n address := rfl

/-! ## The next exchange -/

/-- The line has nothing to keep it from calling its next drive (R144, R150). -/
structure LineFree (s : State) (c : Corridor) : Prop where
  flight : (s.line c).inFlight = none
  quiet : (s.line c).broadcast = false
  ended : ∀ e, (s.line c).broadcastEnds = some e → e ≤ s.millis

theorem lineFree_iff (s : State) (c : Corridor) : LineFree s c ↔
    ((s.line c).inFlight.isSome || (s.line c).broadcast || (s.line c).broadcastEnds.any fun e => decide (s.millis < e)) = false := by
  have hended : ((s.line c).broadcastEnds.any fun e => decide (s.millis < e)) = false ↔
      ∀ e, (s.line c).broadcastEnds = some e → e ≤ s.millis := by
    cases (s.line c).broadcastEnds <;> simp
  rw [Bool.or_eq_false_iff, Bool.or_eq_false_iff, hended, Option.isSome_eq_false_iff, Option.isNone_iff_eq_none]
  exact ⟨fun ⟨h1, h2, h3⟩ => ⟨⟨h1, h2⟩, h3⟩, fun ⟨⟨h1, h2⟩, h3⟩ => ⟨h1, h2, h3⟩⟩

theorem nextExchange_of_not_free {s : State} {c : Corridor} (h : ¬ LineFree s c) : s.nextExchange c = s := by
  rw [lineFree_iff, Bool.not_eq_false] at h
  simp only [State.nextExchange, h, if_true]

theorem nextExchange_of_empty {s : State} {c : Corridor} (h : (s.line c).toCall = []) : s.nextExchange c = s := by
  simp only [State.nextExchange, h, ite_self]

theorem nextExchange_calls {s : State} {c : Corridor} {address : Nat} {n : CarriageName} {rest : List (Nat × CarriageName)}
    (h : LineFree s c) (hcall : (s.line c).toCall = (address, n) :: rest) : s.nextExchange c = s.beginExchange c address n rest := by
  rw [lineFree_iff] at h
  simp only [State.nextExchange, h, Bool.false_eq_true, if_false, hcall]

/-- A line that begins an exchange (R145, R126). -/
def Line.calling (w : Line) (s : State) (n : CarriageName) (address : Nat) (rest : List (Nat × CarriageName)) : Line :=
  { w with
    inFlight := some ⟨address, some n, s.setMode n, s.millis + 1, false⟩, toCall := rest, sent := some (s.telegramTo n address)
    broadcastEnds := none }

theorem beginExchange_eq (s : State) (c : Corridor) (address : Nat) (n : CarriageName) (rest : List (Nat × CarriageName)) :
    s.beginExchange c address n rest = { s with
      carriages := s.carriages.set n { s.car n with figures := some (s.figuresOf n) }
      lines := s.lines.set c ((s.line c).calling s n address rest) } := rfl

/-! ## The end of a starting -/

theorem cycleDone_eq (s : State) (c : Corridor) : s.cycleDone c =
    if (s.line c).inFlight = none ∧ (s.line c).toCall = [] ∧ s.starting.get c = true ∧ (∀ n ∈ s.carsOf c, (s.car n).figures ≠ none) then
      ({ s with starting := s.starting.set c false, owed := s.owed.set c true } : State).settle
    else s := by
  have hcond : ((s.line c).inFlight.isNone && (s.line c).toCall.isEmpty && s.starting.get c && s.allCalled c) = true ↔
      (s.line c).inFlight = none ∧ (s.line c).toCall = [] ∧ s.starting.get c = true ∧
        ∀ n ∈ s.carsOf c, (s.car n).figures ≠ none := by
    simp only [State.allCalled, Bool.and_eq_true, Option.isNone_iff_eq_none, List.isEmpty_iff, List.all_eq_true,
      Option.isSome_iff_ne_none, and_assoc]
  unfold State.cycleDone
  split
  · rename_i h
    rw [if_pos (hcond.mp h)]
    rfl
  · rename_i h
    rw [if_neg fun hc => h (hcond.mpr hc)]

theorem cycleDone_of_not {s : State} {c : Corridor} (h : (s.line c).inFlight ≠ none ∨ (s.line c).toCall ≠ [] ∨
    s.starting.get c = false ∨ ∃ n ∈ s.carsOf c, (s.car n).figures = none) : s.cycleDone c = s := by
  rw [cycleDone_eq, if_neg]
  rintro ⟨hflight, hcall, hstarting, hfigures⟩
  rcases h with h | h | h | ⟨n, hn, h⟩
  · exact h hflight
  · exact h hcall
  · exact absurd (h.symm.trans hstarting) nofun
  · exact hfigures n hn h

theorem RunsOnly.settle (s : State) : RunsOnly s s.settle :=
  ⟨Calm.settle s, Steady.settleRounds 8 s, SameLayers.settleRounds 8 s⟩

/-- Where a cycle leaves no drive uncalled the mark of the start goes, and with it a run may be given out (R69, R116). -/
theorem cycleDone_runs {s : State} {c : Corridor} (hflight : (s.line c).inFlight = none) (hcall : (s.line c).toCall = []) :
    RunsOnly { s with starting := if ∀ n ∈ s.carsOf c, (s.car n).figures ≠ none then s.starting.set c false else s.starting }
      (s.cycleDone c) := by
  rw [cycleDone_eq]
  by_cases hall : ∀ n ∈ s.carsOf c, (s.car n).figures ≠ none
  · rw [if_pos hall]
    cases hstarting : s.starting.get c with
    | true =>
      rw [if_pos ⟨hflight, hcall, rfl, hall⟩]
      exact RunsOnly.trans (RunsOnly.owe { s with starting := s.starting.set c false } c) (.settle _)
    | false =>
      rw [if_neg fun h => absurd h.2.2.1 nofun, Two.set_of_get hstarting]
      exact .refl s
  · rw [if_neg hall, if_neg fun h => hall h.2.2.2]
    exact .refl s

/-! ## The drives of a line -/

theorem insertDrive_ne_nil (d : Nat × CarriageName) (l : List (Nat × CarriageName)) : State.insertDrive d l ≠ [] := by
  cases l with
  | nil => exact nofun
  | cons e rest =>
    simp only [State.insertDrive]
    split <;> exact nofun

theorem foldl_insertDrive_eq_nil {l acc : List (Nat × CarriageName)} (h : l.foldl (fun l d => State.insertDrive d l) acc = []) :
    l = [] ∧ acc = [] := by
  induction l generalizing acc with
  | nil => exact ⟨rfl, h⟩
  | cons d rest ih => exact absurd (ih h).2 (insertDrive_ne_nil d acc)

theorem carsOf_of_drives_nil {s : State} {c : Corridor} (h : s.drives c = []) : s.carsOf c = [] := by
  have hitems := (foldl_insertDrive_eq_nil h).1
  refine List.eq_nil_iff_forall_not_mem.mpr fun n hn => ?_
  have hitem := List.filterMap_eq_nil_iff.mp hitems n hn
  rw [Option.map_eq_none_iff] at hitem
  exact (hasRecord_iff s n).mp (List.mem_filter.mp hn).2 hitem

/-! ## A polling cycle begins -/

/-- The line as a cycle begins (R144). -/
def Line.cycled (w : Line) (now : Nat) (drives : List (Nat × CarriageName)) : Line := { w with cycleStart := now, toCall := drives }

theorem beginCycle_eq (u : State) (c : Corridor) :
    u.beginCycle c = ((u.modLine c fun w => w.cycled u.millis (u.drives c)).nextExchange c).cycleDone c := rfl

theorem beginCycle_calls {u : State} {c : Corridor} {address : Nat} {n : CarriageName} {rest : List (Nat × CarriageName)}
    (h : LineFree u c) (hdrives : u.drives c = (address, n) :: rest) : u.beginCycle c = { u with
      carriages := u.carriages.set n { u.car n with figures := some (u.figuresOf n) }
      lines := u.lines.set c (((u.line c).cycled u.millis (u.drives c)).calling u n address rest) } := by
  have hline := State.line_modLine u c fun w => w.cycled u.millis (u.drives c)
  have hfree : LineFree (u.modLine c fun w => w.cycled u.millis (u.drives c)) c := by
    obtain ⟨hflight, hquiet, hended⟩ := h
    exact ⟨by rw [hline]; exact hflight, by rw [hline]; exact hquiet, by rw [hline]; exact hended⟩
  rw [beginCycle_eq, nextExchange_calls hfree (by rw [hline]; exact hdrives), cycleDone_of_not]
  · rw [beginExchange_eq, hline]
    simp only [State.modLine, Two.set_set]
    rfl
  · left
    rw [beginExchange_eq]
    simp only [State.line, Two.get_set, if_true]
    exact nofun

theorem beginCycle_waits {u : State} {c : Corridor} (h : ¬ LineFree u c) (hmore : (u.line c).inFlight ≠ none ∨ u.drives c ≠ []) :
    u.beginCycle c = { u with lines := u.lines.set c ((u.line c).cycled u.millis (u.drives c)) } := by
  have hline := State.line_modLine u c fun w => w.cycled u.millis (u.drives c)
  have hbusy : ¬ LineFree (u.modLine c fun w => w.cycled u.millis (u.drives c)) c := by
    rintro ⟨hflight, hquiet, hended⟩
    rw [hline] at hflight hquiet hended
    exact h ⟨hflight, hquiet, hended⟩
  rw [beginCycle_eq, nextExchange_of_not_free hbusy, cycleDone_of_not]
  · rfl
  · rw [hline]
    exact hmore.imp id .inl

theorem beginCycle_empty {u : State} {c : Corridor} (hflight : (u.line c).inFlight = none) (hdrives : u.drives c = []) :
    RunsOnly { u with lines := u.lines.set c ((u.line c).cycled u.millis []), starting := u.starting.set c false } (u.beginCycle c) := by
  have hline := State.line_modLine u c fun w => w.cycled u.millis (u.drives c)
  rw [beginCycle_eq, nextExchange_of_empty (by rw [hline]; exact hdrives)]
  have hruns := cycleDone_runs (s := u.modLine c fun w => w.cycled u.millis (u.drives c)) (c := c) (by rw [hline]; exact hflight)
    (by rw [hline]; exact hdrives)
  rw [if_pos] at hruns
  · rw [hdrives] at hruns ⊢
    exact hruns
  · intro n hn
    rw [show (u.modLine c fun w => w.cycled u.millis (u.drives c)).carsOf c = u.carsOf c from rfl, carsOf_of_drives_nil hdrives] at hn
    exact absurd hn (by simp)

theorem exec_pollingCycle {s : State} (hp : s.powered = true) (c : Corridor) : exec (.pollingCycle c) s =
    .next ((s.atLeast ((s.line c).cycleStart + 100)).beginCycle c) := congrArg Host.Outcome.next (if_pos hp)

/-! ## The broadcast -/

theorem exec_broadcastBrake {s : State} (hp : s.powered = true) (c : Corridor) :
    exec (.broadcastBrake c) s = .next (s.sendBroadcast c) := congrArg Host.Outcome.next (if_pos hp)

theorem sendBroadcast_begins {s : State} {c : Corridor} (h : (s.line c).broadcastEnds = none) : s.sendBroadcast c =
    if (s.line c).broadcast = true ∧ (s.line c).inFlight = none then s.beginBroadcast c else s := by
  simp only [State.sendBroadcast, h, Bool.and_eq_true, Option.isNone_iff_eq_none]

theorem sendBroadcast_ends {s : State} {c : Corridor} {e : Nat} (h : (s.line c).broadcastEnds = some e) : s.sendBroadcast c =
    if (s.line c).broadcast = true ∧ (s.line c).inFlight = none then
      ((s.atLeast e).modLine c fun w => { w with broadcastEnds := none }).beginBroadcast c
    else (((s.atLeast e).modLine c fun w => { w with broadcastEnds := none }).nextExchange c).cycleDone c := by
  simp only [State.sendBroadcast, h, State.endBroadcast, State.line_modLine, Bool.and_eq_true, Option.isNone_iff_eq_none]
  rfl

/-- A line that goes on behind a broadcast with a drive to call. -/
theorem behindBroadcast_calls {u : State} {c : Corridor} {address : Nat} {n : CarriageName} {rest : List (Nat × CarriageName)}
    (hflight : (u.line c).inFlight = none) (hquiet : (u.line c).broadcast = false) (hcall : (u.line c).toCall = (address, n) :: rest) :
    ((u.modLine c fun w => { w with broadcastEnds := none }).nextExchange c).cycleDone c = { u with
      carriages := u.carriages.set n { u.car n with figures := some (u.figuresOf n) }
      lines := u.lines.set c ((u.line c).calling u n address rest) } := by
  have hline := State.line_modLine u c fun w => { w with broadcastEnds := none }
  have hfree : LineFree (u.modLine c fun w => { w with broadcastEnds := none }) c :=
    ⟨by rw [hline]; exact hflight, by rw [hline]; exact hquiet, by rw [hline]; exact nofun⟩
  rw [nextExchange_calls hfree (by rw [hline]; exact hcall), cycleDone_of_not]
  · rw [beginExchange_eq, hline]
    simp only [State.modLine, Two.set_set]
    rfl
  · left
    rw [beginExchange_eq]
    simp only [State.line, Two.get_set, if_true]
    exact nofun

/-- Settles O56: what begins and ends on a line, row by row. -/
theorem linesCallAndBroadcast : Obligations.LinesCallAndBroadcast := by
  refine ⟨fun s u c hp hu => ?_, fun s c => ⟨fun h1 h2 h3 h4 => ?_, fun h => cycleDone_of_not h⟩, fun s c hp hends => ⟨fun h => ?_, fun hb hf => ?_⟩,
    fun s u c e hp hends hu => ⟨fun hf => ?_, fun hf hb => ?_, fun hf hb => ⟨fun address n rest hcall => ?_, fun hcall => ?_⟩⟩⟩
  · have hexec : exec (.pollingCycle c) s = .next (u.beginCycle c) := by rw [exec_pollingCycle hp, hu]; rfl
    have hline : u.line c = s.line c := by rw [hu]; rfl
    have hdr : u.drives c = s.drives c := by rw [hu]; rfl
    have hcar (n : CarriageName) : u.car n = s.car n := by rw [hu]; rfl
    have hcars : u.carriages = s.carriages := by rw [hu]
    have hlines : u.lines = s.lines := by rw [hu]
    have hstarting : u.starting = s.starting := by rw [hu]
    rw [hexec, ← hline, ← hdr, ← hcars, ← hlines, ← hstarting]
    refine ⟨fun address n rest h1 h2 h3 h4 => ?_, fun h => ?_, fun h1 h2 => ⟨_, rfl, beginCycle_empty h1 h2⟩⟩
    · rw [beginCycle_calls ⟨h1, h2, h3⟩ h4, ← hcar]
      rfl
    · have hbusy : ¬ LineFree u c := by
        rintro ⟨hflight, hquiet, hended⟩
        rcases h with h | ⟨h | ⟨e, he, hlt⟩, -⟩
        · exact h hflight
        · exact absurd (hquiet.symm.trans h) nofun
        · exact absurd (hended e he) (Nat.not_le.mpr hlt)
      rw [beginCycle_waits hbusy (h.imp id fun h => h.2)]
      rfl
  · rw [cycleDone_eq, if_pos ⟨h1, h2, h3, h4⟩]
  · rw [exec_broadcastBrake hp, sendBroadcast_begins hends, if_neg]
    rintro ⟨hb, hf⟩
    exact h.elim (fun h => absurd (h.symm.trans hb) nofun) fun h => h hf
  · rw [exec_broadcastBrake hp, sendBroadcast_begins hends, if_pos ⟨hb, hf⟩]
    rfl
  all_goals
    subst hu
    rw [exec_broadcastBrake hp, sendBroadcast_ends hends]
  · have hline := State.line_modLine (s.atLeast e) c fun w => { w with broadcastEnds := none }
    rw [if_neg fun h => hf h.2, nextExchange_of_not_free fun h => hf (by have := h.flight; rwa [hline] at this),
      cycleDone_of_not (.inl (by rw [hline]; exact hf))]
    rfl
  · rw [if_pos ⟨hb, hf⟩, State.beginBroadcast, State.modLine_modLine]
    rfl
  · rw [if_neg fun h => absurd h.1 (by rw [hb]; decide)]
    exact congrArg Host.Outcome.next (behindBroadcast_calls (u := s.atLeast e) hf hb hcall)
  · have hline := State.line_modLine (s.atLeast e) c fun w => { w with broadcastEnds := none }
    rw [if_neg fun h => absurd h.1 (by rw [hb]; decide), nextExchange_of_empty (by rw [hline]; exact hcall)]
    exact ⟨_, rfl, cycleDone_runs (s := (s.atLeast e).modLine c fun w => { w with broadcastEnds := none }) (by rw [hline]; exact hf)
      (by rw [hline]; exact hcall)⟩

end Sys2Proof.Machine
end

section
/-! PROOFS. Openings of a stop loop (R156), and what a fault leaves of the other carriages of its corridor (R64, R75). -/

namespace Sys2Proof.Machine

theorem Six.set_of_get {α : Type} {x : Six α} {n : CarriageName} {v : α} (h : x.get n = v) : x.set n v = x := by
  subst h
  cases n <;> rfl

/-! ## What the work of one corridor leaves of a carriage of the other -/

theorem find?_corridor {s : State} {c : Corridor} {p : CarriageName → Bool} {w : CarriageName}
    (h : (s.carsOf c).find? p = some w) : w.corridor = c := by
  have hmem := (List.mem_filter.mp (List.mem_of_find?_eq_some h)).1
  cases c <;> cases w <;> simp_all [Corridor.carriages, CarriageName.corridor]

theorem ne_of_corridor {m w : CarriageName} {c : Corridor} (hm : m.corridor ≠ c) (hw : w.corridor = c) : m ≠ w := by
  rintro rfl
  exact hm hw

theorem shiftFailed_elsewhere {s : State} {n m : CarriageName} (h : m.corridor ≠ n.corridor) : (s.shiftFailed n).car m = s.car m := by
  simp only [State.shiftFailed]
  split
  · rfl
  · rename_i w hw
    rw [State.car_owe, car_modCar, if_neg (ne_of_corridor h (find?_corridor hw))]
    split <;> rfl

theorem enterFaulted_elsewhere {s : State} {n m : CarriageName} (kind : FaultKind) (code : Option Nat) (h : m.corridor ≠ n.corridor) :
    (s.enterFaulted n kind code).car m = s.car m := by
  have hother : (((s.withdrawWait n).unwait n).modCar n fun v => v.faultedBy kind code).car m = s.car m := by
    rw [car_modCar, if_neg (ne_of_corridor h rfl)]
    exact Steady.withdrawWait_car s n m
  simp only [State.enterFaulted]
  split
  · exact (shiftFailed_elsewhere h).trans hother
  · exact hother

theorem startWork_elsewhere {s : State} {n m : CarriageName} (h : m.corridor ≠ n.corridor) : (s.startWork n).car m = s.car m := by
  simp only [State.startWork]
  split
  · split
    · exact startOrder_other (ne_of_corridor h rfl)
    · simp only [State.enterHoming]
      split
      · exact (car_modCar ..).trans (if_neg (ne_of_corridor h rfl))
      · rw [State.car_notifyAll]
        exact enterFaulted_elsewhere _ _ h
    · rfl
  · rfl

theorem endShift_elsewhere {s : State} {n m : CarriageName} (h : m.corridor ≠ n.corridor) : (s.endShift n).car m = s.car m := by
  simp only [State.endShift]
  split
  · rfl
  · rename_i w hw
    have hc := find?_corridor hw
    have hsame : ((s.owe n.corridor).modCar w fun v =>
        { v with task := v.task.map fun k => { k with waitingFor := k.waitingFor.filter fun m => decide (m ≠ n) } }).car m = s.car m :=
      (car_modCar ..).trans (if_neg (ne_of_corridor h hc))
    split
    · split
      · exact (startWork_elsewhere (by rwa [hc])).trans hsame
      · exact hsame
    · exact hsame

theorem becomeIdle_elsewhere {s : State} {n m : CarriageName} (h : m.corridor ≠ n.corridor) :
    Touched (s.car m) ((s.becomeIdle n).car m) := by
  have hother : (s.modCar n Carriage.idleNow).car m = s.car m := (car_modCar ..).trans (if_neg (ne_of_corridor h rfl))
  have hconvert := (Tracked.convert (s.modCar n Carriage.idleNow) n).cars m
  rw [hother] at hconvert
  simp only [State.becomeIdle]
  split
  · exact (congrArg (Touched (s.car m)) (endShift_elsewhere h)).mpr hconvert
  · exact hconvert

/-- The post of a carriage: its state with what it remembers, its fault and its mouth. -/
def Carriage.post (v : Carriage) : CarState × Option Remembered × Option FaultKind × Option Nat :=
  (v.state, v.remembered, v.faultKind, v.docked)

theorem Touched.post {v w : Carriage} (h : Touched v w) (hv : v.state ≠ .idle) : w.post = v.post := by
  rw [h.of_not_idle hv]
  rfl

theorem withdraw_elsewhere {s : State} {n m : CarriageName} (h : m.corridor ≠ n.corridor) (hm : (s.car m).state ≠ .idle) :
    ((s.withdraw n).car m).post = (s.car m).post := by
  have hother (g : Carriage → Carriage) : (s.modCar n g).car m = s.car m := (car_modCar ..).trans (if_neg (ne_of_corridor h rfl))
  simp only [State.withdraw]
  split
  · rw [hother]
  · have hwait : (s.withdrawWait n).car m = s.car m := Steady.withdrawWait_car s n m
    rw [(becomeIdle_elsewhere h).post (by rw [hwait]; exact hm), hwait]
  · rw [hother]
  · rfl

theorem endOrder_post (s : State) (id : Nat) (st : EndState) (reason : Option EndReason) (m : CarriageName) :
    ((s.endOrder id st reason).car m).post = (s.car m).post := by
  cases h : s.order? id with
  | none => rw [endOrder_none h]
  | some o =>
    rw [endOrder_car h]
    split <;> rfl

theorem cancelClaimant_post {s : State} {m : CarriageName} (b puller : Nat) (hm : (s.car m).state ≠ .idle) :
    ((s.cancelClaimant m.corridor b puller).car m).post = (s.car m).post := by
  simp only [State.cancelClaimant]
  split
  · rename_i id _
    split
    · rfl
    · split
      · rename_i n _
        split
        · exact endOrder_post ..
        · rename_i hc
          refine (withdraw_elsewhere (Ne.symm hc) ?_).trans (endOrder_post ..)
          rw [endOrder_state]
          exact hm
      · exact endOrder_post ..
  · rfl

theorem leaveStraddling_post {s : State} {n m : CarriageName} (tr : Transfer) (hc : n.corridor = m.corridor)
    (hm : (s.car m).state ≠ .idle) : ((s.leaveStraddling n tr).car m).post = (s.car m).post := by
  have hpulled : ((s.pulledOff n tr).car m).post = (s.car m).post := by
    unfold State.pulledOff
    cases tr.kind with
    | pull => rw [hc]; exact cancelClaimant_post _ _ hm
    | push => rfl
  rw [leaveStraddling_car]
  split
  · rename_i hmn
    subst hmn
    exact hpulled
  · exact hpulled

theorem beforeFault_post {s : State} {n m : CarriageName} (ending : EndState) (hc : n.corridor = m.corridor)
    (hm : (s.car m).state ≠ .idle) : ((s.beforeFault n ending).car m).post = (s.car m).post := by
  unfold State.beforeFault
  split
  · exact (endOrder_post ..).trans (leaveStraddling_post _ hc hm)
  · split
    · exact endOrder_post ..
    · rfl

theorem shiftFailed_post (s : State) (n m : CarriageName) : ((s.shiftFailed n).car m).post = (s.car m).post := by
  simp only [State.shiftFailed]
  split
  · rfl
  · rename_i w _
    rw [State.car_owe, car_modCar]
    split
    · rename_i hm
      subst hm
      cases (s.car m).assigned <;> rfl
    · cases (s.car w).assigned <;> rfl

theorem enterFaulted_post {s : State} {n m : CarriageName} (kind : FaultKind) (code : Option Nat) (hne : m ≠ n) :
    ((s.enterFaulted n kind code).car m).post = (s.car m).post := by
  have hother : (((s.withdrawWait n).unwait n).modCar n fun v => v.faultedBy kind code).car m = s.car m := by
    rw [car_modCar, if_neg hne]
    exact Steady.withdrawWait_car s n m
  simp only [State.enterFaulted]
  split
  · exact (shiftFailed_post ..).trans (congrArg Carriage.post hother)
  · exact congrArg Carriage.post hother

/-- A fault leaves every other carriage of its corridor at its post, if not IDLE. -/
theorem fault_post {s : State} {n m : CarriageName} (kind : FaultKind) (code : Option Nat) (hne : m ≠ n) (hc : n.corridor = m.corridor)
    (hm : (s.car m).state ≠ .idle) : ((s.fault n kind code).car m).post = (s.car m).post := by
  by_cases h : (s.car n).state = .faulted
  · have hmod (g : Carriage → Carriage) : (s.modCar n g).car m = s.car m := (car_modCar ..).trans (if_neg hne)
    simp only [State.fault, State.faultCore, if_pos h]
    split
    · split
      · exact congrArg Carriage.post ((faultNotice_car ..).trans (hmod _))
      · rfl
    · exact congrArg Carriage.post ((faultNotice_car ..).trans (hmod _))
  · rw [fault_first h, State.car_notifyAll, enterFaulted_post _ _ hne, beforeFault_post _ hc hm]

/-! ## Gates and lines at a fault -/

/-- The gates and the drive lines stay as they are. -/
structure SameRails (s t : State) : Prop where
  gates : t.gates = s.gates
  lines : t.lines = s.lines

namespace SameRails

theorem refl (s : State) : SameRails s s := ⟨rfl, rfl⟩

theorem trans {s t u : State} (h : SameRails s t) (k : SameRails t u) : SameRails s u :=
  ⟨k.gates.trans h.gates, k.lines.trans h.lines⟩

theorem of_calm {s t : State} (h : Calm s t) : SameRails s t := ⟨h.gates, h.lines⟩

theorem endOrder (s : State) (id : Nat) (st : EndState) (reason : Option EndReason) : SameRails s (s.endOrder id st reason) := by
  cases h : s.order? id with
  | none => rw [endOrder_none h]; exact refl s
  | some o =>
    obtain ⟨x, hx⟩ := endOrder_shape h st reason
    rw [hx]
    exact ⟨rfl, rfl⟩

theorem cancelClaimant (s : State) (c : Corridor) (b puller : Nat) : SameRails s (s.cancelClaimant c b puller) := by
  simp only [State.cancelClaimant]
  split
  · split
    · exact refl s
    · split
      · split
        · exact endOrder ..
        · exact (endOrder ..).trans (of_calm (Calm.withdraw ..))
      · exact endOrder ..
  · exact refl s

theorem moveBench (s : State) (b : Nat) (pl : Place) : SameRails s (s.moveBench b pl) := by
  obtain ⟨y, hy, -⟩ := modBench_shape s b fun v => { v with place := pl, lastMoved := s.seconds }
  rw [State.moveBench, hy]
  exact ⟨rfl, rfl⟩

theorem leaveStraddling (s : State) (n : CarriageName) (tr : Transfer) : SameRails s (s.leaveStraddling n tr) := by
  have hpulled : SameRails s (s.pulledOff n tr) := by
    unfold State.pulledOff
    cases tr.kind with
    | pull => exact (cancelClaimant s n.corridor tr.bench tr.order).trans ⟨rfl, rfl⟩
    | push => exact refl s
  refine (hpulled.trans (moveBench _ tr.bench (.straddling n tr.lane n.corridor))).trans ?_
  rw [leaveStraddling_eq, State.oweAt]
  split <;> exact ⟨rfl, rfl⟩

theorem fault (s : State) (n : CarriageName) (kind : FaultKind) (code : Option Nat) : SameRails s (s.fault n kind code) := by
  by_cases h : (s.car n).state = .faulted
  · simp only [State.fault, State.faultCore, if_pos h]
    split
    · split
      · exact ⟨rfl, rfl⟩
      · exact refl s
    · exact ⟨rfl, rfl⟩
  · rw [fault_first h]
    refine SameRails.trans ?_ (of_calm ((Calm.enterFaulted ..).trans (.notifyAll ..)))
    unfold State.beforeFault
    split
    · exact (leaveStraddling ..).trans (endOrder ..)
    · split
      · exact endOrder ..
      · exact refl s

end SameRails

/-! ## One of a row of carriages -/

/-- Of a fold over carriages, each once: up to the turn of one of them and from it on, only the others' turns come. -/
theorem foldl_turn {R : State → State → Prop} (hrefl : ∀ s, R s s) (htrans : ∀ {s t u}, R s t → R t u → R s u)
    {f : State → CarriageName → State} {n : CarriageName} {l : List CarriageName}
    (hother : ∀ t, ∀ m ∈ l, m ≠ n → R t (f t m)) (hn : n ∈ l) (hnd : l.Nodup) (s : State) :
    ∃ u, R s u ∧ R (f u n) (l.foldl f s) := by
  have hrest (l : List CarriageName) (hl : ∀ t, ∀ m ∈ l, m ≠ n → R t (f t m)) (hnot : n ∉ l) (s : State) : R s (l.foldl f s) := by
    induction l generalizing s with
    | nil => exact hrefl s
    | cons a rest ih =>
      refine htrans (hl s a (by simp) fun h => hnot (by simp [h])) (ih (fun t m hm => hl t m (by simp [hm])) (fun h => hnot (by simp [h])) _)
  induction l generalizing s with
  | nil => exact absurd hn (by simp)
  | cons a rest ih =>
    obtain ⟨hnot, hnd'⟩ := List.nodup_cons.mp hnd
    by_cases ha : a = n
    · subst ha
      exact ⟨s, hrefl s, hrest rest (fun t m hm => hother t m (by simp [hm])) hnot _⟩
    · have hmem : n ∈ rest := (List.mem_cons.mp hn).resolve_left (Ne.symm ha)
      obtain ⟨u, hu, hend⟩ := ih (fun t m hm => hother t m (by simp [hm])) hmem hnd' (f s a)
      exact ⟨u, htrans (hother s a (by simp) ha) hu, hend⟩

/-! ## Halting -/

/-- A carriage that is halted (R156). -/
def Carriage.halted (v : Carriage) (r : Remembered) : Carriage := { v with state := .halted, remembered := some r }

theorem haltOne_running {s : State} {n : CarriageName} (h : (s.car n).state = .running) :
    s.haltOne n = { s.unwait n with carriages := s.carriages.set n ((s.car n).halted .running) } := by
  simp only [State.haltOne, h]
  rfl

theorem haltOne_homing {s : State} {n : CarriageName} (h : (s.car n).state = .homing) :
    s.haltOne n = { s.unwait n with carriages := s.carriages.set n ((s.car n).halted .homing) } := by
  simp only [State.haltOne, h]
  rfl

theorem haltOne_docked {s : State} {n : CarriageName} (h : (s.car n).state = .docked) :
    s.haltOne n = { s.unwait n with
      carriages := s.carriages.set n ((s.car n).halted .docked), lanes := (s.withdrawWait n).lanes } := by
  have hwait : s.withdrawWait n = { s with lanes := (s.withdrawWait n).lanes } := by
    unfold State.withdrawWait
    split
    · split <;> rfl
    · rfl
  have hhalt : s.haltOne n = (s.withdrawWait n).halt n .docked := by simp only [State.haltOne, h]
  rw [hhalt, hwait]
  rfl

theorem withdrawWait_lanes {s : State} {n : CarriageName} {k : Nat} (h : (s.car n).docked = some k) : (s.withdrawWait n).lanes =
    if (s.lane k).waiting = some n then s.lanes.put k { s.lane k with waiting := none } else s.lanes := by
  simp only [State.withdrawWait, h]
  split <;> rfl

theorem haltOne_transferring {s : State} {n : CarriageName} (h : (s.car n).state = .transferring) :
    s.haltOne n = s.fault n .transferInterrupted none := by
  simp only [State.haltOne, h]

theorem haltOne_otherwise {s : State} {n : CarriageName} (h1 : (s.car n).state ≠ .running) (h2 : (s.car n).state ≠ .homing)
    (h3 : (s.car n).state ≠ .docked) (h4 : (s.car n).state ≠ .transferring) : s.haltOne n = s := by
  unfold State.haltOne
  split
  · rename_i h; exact absurd h h1
  · rename_i h; exact absurd h h2
  · rename_i h; exact absurd h h3
  · rename_i h; exact absurd h h4
  · rfl

theorem unwait_fields (s : State) (n : CarriageName) : s.unwait n = { s with segments := (s.unwait n).segments } := rfl

theorem seg_unwait (s : State) (n : CarriageName) (c : Corridor) (k : Nat) : (s.unwait n).seg c k =
    if c = n.corridor then { s.seg c k with waiting := (s.seg c k).waiting.filter fun m => decide (m ≠ n) } else s.seg c k :=
  State.seg_mapSegs s n.corridor c k (fun g => { g with waiting := g.waiting.filter fun m => decide (m ≠ n) }) rfl

/-! ### The halting of a corridor without transfers -/

/-- The carriage holds its corridor's allocator (R86). -/
def Carriage.blocks (v : Carriage) : Bool := decide (v.state = .unplaced) || (decide (v.state = .faulted) && v.p.isNone)

theorem hold_eq_blocks (s : State) (c : Corridor) : s.hold c = (s.carsOf c).any fun n => (s.car n).blocks := rfl

theorem hold_of_blocks {s t : State} (hy : t.layout = s.layout) (h : ∀ m, (t.car m).blocks = (s.car m).blocks) (c : Corridor) :
    t.hold c = s.hold c := by
  have hrecord : t.hasRecord = s.hasRecord := funext fun n => by simp only [State.hasRecord, State.item, hy]
  simp only [hold_eq_blocks, State.carsOf, hrecord, h]

/-- What the halting of carriages that transfer nothing changes: carriages, waiting sets and lock waits. -/
structure HaltsQuietly (s t : State) : Prop where
  fields : t = { s with segments := t.segments, carriages := t.carriages, lanes := t.lanes }
  moving : ∀ m, (t.car m).state = .transferring → (s.car m).state = .transferring
  blocks : ∀ m, (t.car m).blocks = (s.car m).blocks
  waiting : ∀ c k m, m ∈ (t.seg c k).waiting → m ∈ (s.seg c k).waiting
  lanes : ∀ k m, (t.lane k).waiting = some m → (s.lane k).waiting = some m

namespace HaltsQuietly

theorem refl (s : State) : HaltsQuietly s s := ⟨rfl, fun _ h => h, fun _ => rfl, fun _ _ _ h => h, fun _ _ h => h⟩

theorem trans {s t u : State} (h : HaltsQuietly s t) (k : HaltsQuietly t u) : HaltsQuietly s u where
  fields := k.fields.trans (by rw [h.fields])
  moving m hm := h.moving m (k.moving m hm)
  blocks m := (k.blocks m).trans (h.blocks m)
  waiting c i m hm := h.waiting c i m (k.waiting c i m hm)
  lanes i m hm := h.lanes i m (k.lanes i m hm)

theorem owed {s t : State} (h : HaltsQuietly s t) : t.owed = s.owed := by rw [h.fields]

theorem layout {s t : State} (h : HaltsQuietly s t) : t.layout = s.layout := by rw [h.fields]

theorem links {s t : State} (h : HaltsQuietly s t) : t.links = s.links := by rw [h.fields]

theorem rails {s t : State} (h : HaltsQuietly s t) : SameRails s t := ⟨by rw [h.fields], by rw [h.fields]⟩

theorem withdrawWait_waiting {s : State} {n : CarriageName} {k : Nat} {m : CarriageName}
    (h : ((s.withdrawWait n).lane k).waiting = some m) : (s.lane k).waiting = some m := by
  unfold State.withdrawWait at h
  split at h
  · split at h
    · rw [State.lane_modLane] at h
      split at h
      · exact absurd h nofun
      · exact h
    · exact h
  · exact h

theorem halted {s : State} {n : CarriageName} {r : Remembered} {lanes : Table Lane} (hstate : (s.car n).state ≠ .unplaced)
    (hfault : (s.car n).state ≠ .faulted) (hlanes : ∀ k m, (({ s with lanes := lanes } : State).lane k).waiting = some m →
      (s.lane k).waiting = some m) :
    HaltsQuietly s { s.unwait n with carriages := s.carriages.set n ((s.car n).halted r), lanes := lanes } := by
  have hcar (m : CarriageName) : ({ s.unwait n with
      carriages := s.carriages.set n ((s.car n).halted r), lanes := lanes } : State).car m =
        if m = n then (s.car n).halted r else s.car m := Six.get_set ..
  refine ⟨rfl, fun m hm => ?_, fun m => ?_, fun c k m hm => ?_, hlanes⟩
  · rw [hcar] at hm
    split at hm
    · exact absurd hm nofun
    · exact hm
  · rw [hcar]
    split
    · rename_i hmn
      subst hmn
      simp [Carriage.blocks, Carriage.halted, hstate, hfault]
    · rfl
  · have hseg : m ∈ ((s.unwait n).seg c k).waiting := hm
    rw [seg_unwait] at hseg
    split at hseg
    · exact (List.mem_filter.1 hseg).1
    · exact hseg

theorem haltOne {s : State} {n : CarriageName} (h : (s.car n).state ≠ .transferring) : HaltsQuietly s (s.haltOne n) := by
  by_cases h1 : (s.car n).state = .running
  · rw [haltOne_running h1]
    exact halted (lanes := s.lanes) (by rw [h1]; decide) (by rw [h1]; decide) fun _ _ h => h
  by_cases h2 : (s.car n).state = .homing
  · rw [haltOne_homing h2]
    exact halted (lanes := s.lanes) (by rw [h2]; decide) (by rw [h2]; decide) fun _ _ h => h
  by_cases h3 : (s.car n).state = .docked
  · rw [haltOne_docked h3]
    exact halted (by rw [h3]; decide) (by rw [h3]; decide) fun _ _ h => withdrawWait_waiting (s := s) (n := n) h
  rw [haltOne_otherwise h1 h2 h3 h]
  exact refl s

theorem foldl {l : List CarriageName} {s : State} (h : ∀ m ∈ l, (s.car m).state ≠ .transferring) :
    HaltsQuietly s (l.foldl State.haltOne s) := by
  induction l generalizing s with
  | nil => exact refl s
  | cons a rest ih =>
    have ha := haltOne (h a (by simp))
    exact ha.trans (ih fun m hm hmoving => h m (by simp [hm]) (ha.moving m hmoving))

end HaltsQuietly

theorem haltOne_other {s : State} {n m : CarriageName} (hne : m ≠ n) (h : (s.car n).state ≠ .transferring) :
    (s.haltOne n).car m = s.car m := by
  have hset (v : Carriage) : (s.carriages.set n v).get m = s.car m := (Six.get_set ..).trans (if_neg hne)
  by_cases h1 : (s.car n).state = .running
  · rw [haltOne_running h1]
    exact hset _
  by_cases h2 : (s.car n).state = .homing
  · rw [haltOne_homing h2]
    exact hset _
  by_cases h3 : (s.car n).state = .docked
  · rw [haltOne_docked h3]
    exact hset _
  rw [haltOne_otherwise h1 h2 h3 h]

/-- One carriage's turn at an opening without transfers, from what the others' turns leave of it. -/
theorem halting_turn {s : State} {n : CarriageName} {l : List CarriageName} (hn : n ∈ l) (hnd : l.Nodup)
    (h : ∀ m ∈ l, (s.car m).state ≠ .transferring) :
    ∃ u : State, u.car n = s.car n ∧ HaltsQuietly (u.haltOne n) (l.foldl State.haltOne s) ∧
      (l.foldl State.haltOne s).car n = (u.haltOne n).car n := by
  obtain ⟨u, hbefore, hafter⟩ := foldl_turn (R := fun s t => (∀ m ∈ l, (s.car m).state ≠ .transferring) →
      HaltsQuietly s t ∧ t.car n = s.car n) (fun s _ => ⟨.refl s, rfl⟩)
    (fun {s t u} h k hs => by
      obtain ⟨h1, h2⟩ := h hs
      obtain ⟨k1, k2⟩ := k fun m hm hmoving => hs m hm (h1.moving m hmoving)
      exact ⟨h1.trans k1, k2.trans h2⟩)
    (fun t m hm hne ht => ⟨.haltOne (ht m hm), haltOne_other (Ne.symm hne) (ht m hm)⟩) hn hnd s
  obtain ⟨hquiet, hcar⟩ := hbefore h
  have hu : ∀ m ∈ l, (u.car m).state ≠ .transferring := fun m hm hmoving => h m hm (hquiet.moving m hmoving)
  have hturn := HaltsQuietly.haltOne (hu n hn)
  obtain ⟨hend, hsame⟩ := hafter fun m hm hmoving => hu m hm (hturn.moving m hmoving)
  exact ⟨u, hcar, hend, hsame⟩

/-! ### The turn of one carriage, others faulting -/

/-- A carriage keeps its post and its record, if not IDLE. -/
def KeepsPost (n : CarriageName) (s t : State) : Prop :=
  (s.car n).state ≠ .idle → (t.car n).post = (s.car n).post ∧ (t.car n).stand = (s.car n).stand

theorem KeepsPost.refl (n : CarriageName) (s : State) : KeepsPost n s s := fun _ => ⟨rfl, rfl⟩

theorem KeepsPost.trans {n : CarriageName} {s t u : State} (h : KeepsPost n s t) (k : KeepsPost n t u) : KeepsPost n s u := by
  intro hn
  obtain ⟨h1, h2⟩ := h hn
  have hstate : (t.car n).state = (s.car n).state := congrArg (fun x => x.1) h1
  obtain ⟨k1, k2⟩ := k (by rw [hstate]; exact hn)
  exact ⟨k1.trans h1, k2.trans h2⟩

theorem KeepsPost.haltOne {s : State} {n m : CarriageName} (hne : m ≠ n) (hc : m.corridor = n.corridor) : KeepsPost n s (s.haltOne m) := by
  intro hn
  by_cases h : (s.car m).state = .transferring
  · rw [haltOne_transferring h]
    exact ⟨fault_post _ _ (Ne.symm hne) hc hn, fault_stand_other s (Ne.symm hne) _ _⟩
  · rw [haltOne_other (Ne.symm hne) h]
    exact ⟨rfl, rfl⟩

theorem corridor_of_mem_carsOf {s : State} {c : Corridor} {n : CarriageName} (h : n ∈ s.carsOf c) : n.corridor = c := by
  have hmem := (List.mem_filter.mp h).1
  cases c <;> cases n <;> simp_all [Corridor.carriages, CarriageName.corridor]

theorem opening_turn {s v : State} {c : Corridor} {n : CarriageName} (hn : n ∈ s.carsOf c) (hidle : (v.car n).state ≠ .idle) :
    ∃ u : State, (u.car n).post = (v.car n).post ∧ (u.car n).stand = (v.car n).stand ∧
      KeepsPost n (u.haltOne n) ((s.carsOf c).foldl State.haltOne v) := by
  obtain ⟨u, hbefore, hafter⟩ := foldl_turn (R := KeepsPost n) (KeepsPost.refl n) KeepsPost.trans
    (fun t m hm hne => KeepsPost.haltOne hne ((corridor_of_mem_carsOf hm).trans (corridor_of_mem_carsOf hn).symm)) hn
    (carsOf_nodup s c) v
  obtain ⟨h1, h2⟩ := hbefore hidle
  exact ⟨u, h1, h2, hafter⟩

/-! ### The row -/

/-- The unit as a loop opens, before its carriages halt (R156). -/
def State.opened (s : State) (c : Corridor) (mid : LoopState) : State :=
  ((s.modStop c fun _ => stopRecord .opened mid).askBroadcast c).notifyAll (.stopOpen c)

theorem opened_eq (s : State) (c : Corridor) (mid : LoopState) : s.opened c mid = ({ s with
    stops := s.stops.set c ⟨.opened, ⟨.opened, mid, if mid = .opened then .closed else .opened⟩, .opened⟩
    lines := s.lines.set c { s.line c with broadcast := true } } : State).notifyAll (.stopOpen c) := rfl

theorem notifyAll_fields (s : State) (b : NoticeBody) : s.notifyAll b = { s with links := (s.notifyAll b).links } := rfl

theorem notifyAll_links_congr {s t : State} (hl : t.links = s.links) (hm : t.millis = s.millis) (b : NoticeBody) :
    (t.notifyAll b).links = (s.notifyAll b).links := by
  simp only [State.notifyAll, State.notify, State.modLink, State.seconds, hl, hm]

/-- What stays of the unit as a loop opens or closes. -/
structure LoopTurned (s t : State) (c : Corridor) (mid now : LoopState) : Prop where
  layout : t.layout = s.layout
  millis : t.millis = s.millis
  cars : ∀ m, t.car m = s.car m
  owed : t.owed = s.owed
  stops : ∀ d, t.stop d = if d = c then stopRecord now mid else s.stop d

theorem LoopTurned.hold {s t : State} {c : Corridor} {mid now : LoopState} (h : LoopTurned s t c mid now) (d : Corridor) :
    s.hold d = t.hold d := (hold_of_blocks h.layout (fun m => by rw [h.cars]) d).symm

theorem loopTurned_opened (s : State) (c : Corridor) (mid : LoopState) : LoopTurned s (s.opened c mid) c mid .opened := by
  rw [opened_eq, notifyAll_fields]
  exact ⟨rfl, rfl, fun _ => rfl, rfl, fun d => Two.get_set ..⟩

theorem opened_links (s : State) (c : Corridor) (mid : LoopState) :
    (s.opened c mid).links = (s.notifyAll (.stopOpen c)).links := by
  rw [opened_eq]
  exact notifyAll_links_congr rfl rfl _

theorem opened_line (s : State) (c : Corridor) (mid : LoopState) : (s.opened c mid).line c = { s.line c with broadcast := true } := by
  rw [opened_eq, notifyAll_fields]
  exact (Two.get_set ..).trans (if_pos rfl)

theorem execStopOpen_closed {s : State} {c : Corridor} (hp : s.powered = true) (h : (s.stop c).loop = .closed) (mid : LoopState) :
    exec (.stopOpen c mid) s = .next (s.finish ((s.carsOf c).foldl State.haltOne (s.opened c mid))) := by
  have hopen : (s.stop c).loop ≠ .opened := by rw [h]; decide
  have hloop : s.openLoop c mid = (s.carsOf c).foldl State.haltOne (s.opened c mid) := by
    simp only [State.openLoop, if_neg hopen]
    rfl
  exact congrArg Host.Outcome.next ((if_pos hp).trans (congrArg s.finish hloop))

theorem haltOne_within (l : List CarriageName) (s : State) : Within s (l.foldl State.haltOne s) :=
  Within.foldl _ (fun t n => within_haltOne t n) l s

theorem haltOne_rails (s : State) (n : CarriageName) : SameRails s (s.haltOne n) := by
  by_cases h : (s.car n).state = .transferring
  · rw [haltOne_transferring h]
    exact .fault ..
  · exact (HaltsQuietly.haltOne h).rails

theorem foldl_haltOne_rails (l : List CarriageName) (s : State) : SameRails s (l.foldl State.haltOne s) := by
  induction l generalizing s with
  | nil => exact .refl s
  | cons a rest ih => exact (haltOne_rails s a).trans (ih _)

/-- An opening without transfers ends as it stands. -/
theorem opening_quiet {s v : State} (l : List CarriageName) (hv : NothingOwed v) (hhold : ∀ d, s.hold d = v.hold d)
    (h : ∀ m ∈ l, (v.car m).state ≠ .transferring) : s.finish (l.foldl State.haltOne v) = l.foldl State.haltOne v := by
  have hquiet := HaltsQuietly.foldl h
  exact State.finish_of_same _ _ (hquiet.owed.trans hv) fun d => (hhold d).trans (hold_of_blocks hquiet.layout hquiet.blocks d).symm

/-- A carriage halted in its turn. -/
theorem haltOne_car {s : State} {n : CarriageName} {r : Remembered}
    (h : ((s.car n).state, r) = (.running, .running) ∨ ((s.car n).state, r) = (.homing, .homing) ∨
      ((s.car n).state, r) = (.docked, .docked)) : (s.haltOne n).car n = (s.car n).halted r := by
  have hset (w : Carriage) : (s.carriages.set n w).get n = w := (Six.get_set ..).trans (if_pos rfl)
  rcases h with h | h | h <;> obtain ⟨hstate, rfl⟩ := Prod.mk.inj h
  · rw [haltOne_running hstate]
    exact hset _
  · rw [haltOne_homing hstate]
    exact hset _
  · rw [haltOne_docked hstate]
    exact hset _

theorem withdrawWait_withdraws {s : State} {n : CarriageName} {k : Nat} (h : (s.car n).docked = some k) :
    ((s.withdrawWait n).lane k).waiting ≠ some n := by
  simp only [State.withdrawWait, h]
  split
  · rw [State.lane_modLane, if_pos rfl]
    exact nofun
  · assumption

theorem Steady.post {s t : State} (h : Steady s t) {n : CarriageName} (h1 : (s.car n).state ≠ .idle) (h2 : (s.car n).state ≠ .unhomed) :
    (t.car n).post = (s.car n).post := by
  have hdoing := h n h1 h2
  simp only [Carriage.doing, Prod.mk.injEq] at hdoing
  obtain ⟨hstate, hrem, hkind, -, -, hdocked⟩ := hdoing
  simp only [Carriage.post, hstate, hrem, hkind, hdocked]

/-- What the turn of a carriage at an opening makes of it, to the end of the event. -/
theorem opening_ends {s v b : State} {c : Corridor} {n : CarriageName} (hn : n ∈ s.carsOf c) (hidle : (v.car n).state ≠ .idle) :
    ∃ u : State, (u.car n).post = (v.car n).post ∧ (u.car n).stand = (v.car n).stand ∧
      (((u.haltOne n).car n).state ≠ .idle → ((u.haltOne n).car n).state ≠ .unhomed →
        ((b.finish ((s.carsOf c).foldl State.haltOne v)).car n).post = ((u.haltOne n).car n).post ∧
        ((b.finish ((s.carsOf c).foldl State.haltOne v)).car n).stand = ((u.haltOne n).car n).stand) := by
  obtain ⟨u, hpost, hstand, hkeep⟩ := opening_turn hn hidle
  refine ⟨u, hpost, hstand, fun h1 h2 => ?_⟩
  obtain ⟨hp, hs⟩ := hkeep h1
  have hstate : (((s.carsOf c).foldl State.haltOne v).car n).state = ((u.haltOne n).car n).state := congrArg (fun x => x.1) hp
  exact ⟨((Steady.finish b _).post (by rw [hstate]; exact h1) (by rw [hstate]; exact h2)).trans hp,
    ((Calm.finish b _).cars n).trans hs⟩

/-- A carriage halted in its turn keeps its leg and work, and waits nowhere on its corridor nor for a lock. -/
theorem haltOne_leaves {s : State} {n : CarriageName}
    (h : (s.car n).state = .running ∨ (s.car n).state = .homing ∨ (s.car n).state = .docked) :
    ((s.haltOne n).car n).leg = (s.car n).leg ∧ ((s.haltOne n).car n).task = (s.car n).task ∧
      ((s.haltOne n).car n).assigned = (s.car n).assigned ∧ ((s.haltOne n).car n).homing = (s.car n).homing ∧
      (∀ k, n ∉ ((s.haltOne n).seg n.corridor k).waiting) ∧
      ∀ k, (s.car n).state = .docked → (s.car n).docked = some k → ((s.haltOne n).lane k).waiting ≠ some n := by
  have hunwaited (k : Nat) : n ∉ ((s.unwait n).seg n.corridor k).waiting := by
    rw [seg_unwait, if_pos rfl]
    simp
  rcases h with h | h | h
  · rw [haltOne_car (r := .running) (by rw [h]; exact .inl rfl), haltOne_running h]
    exact ⟨rfl, rfl, rfl, rfl, hunwaited, fun k hd => absurd (h.symm.trans hd) nofun⟩
  · rw [haltOne_car (r := .homing) (by rw [h]; exact .inr (.inl rfl)), haltOne_homing h]
    exact ⟨rfl, rfl, rfl, rfl, hunwaited, fun k hd => absurd (h.symm.trans hd) nofun⟩
  · rw [haltOne_car (r := .docked) (by rw [h]; exact .inr (.inr rfl)), haltOne_docked h]
    refine ⟨rfl, rfl, rfl, rfl, hunwaited, fun k _ hk => ?_⟩
    exact withdrawWait_withdraws hk

/-- Settles O54: what an opening does to each carriage of its corridor, and to the unit. -/
theorem openingHaltsTheCorridor : Obligations.OpeningHaltsTheCorridor := by
  refine ⟨fun s n v hv => ⟨fun h => ?_, fun h => ?_, fun k h hk => ?_, haltOne_transferring, haltOne_otherwise⟩,
    fun s n c k => ⟨rfl, seg_unwait s n c k⟩, fun s c mid hp => ⟨fun ho hopen => ?_, fun hclosed => ?_⟩⟩
  · rw [haltOne_running h, hv]
    rfl
  · rw [haltOne_homing h, hv]
    rfl
  · rw [haltOne_docked h, hv, withdrawWait_lanes hk]
    rfl
  · have hsame : s.openLoop c mid = s := by simp only [State.openLoop, if_pos hopen]
    exact congrArg Host.Outcome.next ((event_of_same hp (by rw [hsame]; exact ho) (by rw [hsame]; exact fun _ => rfl)).trans hsame)
  · refine ⟨_, execStopOpen_closed hp hclosed mid, fun u hu => by rw [hu, opened_eq], ?_⟩
    have hlinks := opened_links s c mid
    have hline : ((s.opened c mid).line c).broadcast = true := by rw [opened_line]
    have hturned := loopTurned_opened s c mid
    have hhold := hturned.hold
    generalize s.opened c mid = v at *
    obtain ⟨hlayout, hmillis, hcars, howed, hstop⟩ := hturned
    have hwithin : Within v (s.finish ((s.carsOf c).foldl State.haltOne v)) := (haltOne_within ..).trans (.finish ..)
    have hruns : RunsOnly ((s.carsOf c).foldl State.haltOne v) (s.finish ((s.carsOf c).foldl State.haltOne v)) := .finish ..
    have hrails := (foldl_haltOne_rails (s.carsOf c) v).trans (.of_calm hruns.calm)
    have hstops (d : Corridor) : (s.finish ((s.carsOf c).foldl State.haltOne v)).stop d =
        if d = c then stopRecord .opened mid else s.stop d := by
      rw [← hstop]
      exact congrArg (Two.get · d) hwithin.stops
    refine ⟨fun ho hnone => ?_, hwithin.layout.trans hlayout, hwithin.millis.trans hmillis, ?_, ?_, ?_, ?_, fun n hn => ?_⟩
    · have hnone' : ∀ m ∈ s.carsOf c, (v.car m).state ≠ .transferring := fun m hm => by rw [hcars]; exact hnone m hm
      rw [opening_quiet _ (howed.trans ho) hhold hnone']
      refine ⟨(HaltsQuietly.foldl hnone').links.trans hlinks, fun n hn hstate => ?_⟩
      obtain ⟨u, hu, hend, hself⟩ := halting_turn hn (carsOf_nodup s c) hnone'
      rw [hcars] at hu
      obtain ⟨hleg, htask, hassigned, hhoming, hwait, hlock⟩ := haltOne_leaves (s := u) (n := n) (by rw [hu]; exact hstate)
      rw [hself, hleg, htask, hassigned, hhoming, hu]
      refine ⟨rfl, rfl, rfl, rfl, fun k hk => ?_, fun k hd hdocked hk => ?_⟩
      · have hwaits := hend.waiting _ _ _ hk
        rw [← corridor_of_mem_carsOf hn] at hwaits
        exact hwait k hwaits
      · exact hlock k (by rw [hu]; exact hd) (by rw [hu]; exact hdocked) (hend.lanes _ _ hk)
    · rw [hstops, if_pos rfl]
      rfl
    · rw [hstops, if_pos rfl]
      rfl
    · rw [show (s.finish ((s.carsOf c).foldl State.haltOne v)).line c = v.line c from congrArg (Two.get · c) hrails.lines]
      exact hline
    · rw [hstops, if_neg (by cases c <;> decide)]
    · rw [← hcars]
      refine ⟨fun h => ?_, fun h => ?_, fun h => ?_, fun h => ?_⟩ <;>
        obtain ⟨u, hpost, hstand, hend⟩ := opening_ends (b := s) (v := v) hn (by rw [h]; decide) <;>
        have hstate : (u.car n).state = _ := (congrArg (fun x => x.1) hpost).trans h
      · rw [haltOne_car (r := .running) (by rw [hstate]; exact .inl rfl)] at hend
        obtain ⟨hp, -⟩ := hend nofun nofun
        exact ⟨congrArg (fun x => x.1) hp, congrArg (fun x => x.2.1) hp⟩
      · rw [haltOne_car (r := .homing) (by rw [hstate]; exact .inr (.inl rfl))] at hend
        obtain ⟨hp, -⟩ := hend nofun nofun
        exact ⟨congrArg (fun x => x.1) hp, congrArg (fun x => x.2.1) hp⟩
      · rw [haltOne_car (r := .docked) (by rw [hstate]; exact .inr (.inr rfl))] at hend
        obtain ⟨hp, -⟩ := hend nofun nofun
        exact ⟨congrArg (fun x => x.1) hp, congrArg (fun x => x.2.1) hp,
          (congrArg (fun x => x.2.2.2) hp).trans (congrArg (fun x => x.2.2.2) hpost)⟩
      · have hfaulted := fault_car (s := u) (n := n) (by rw [hstate]; decide) .transferInterrupted none
        rw [haltOne_transferring hstate, hfaulted] at hend
        obtain ⟨hp, hs⟩ := hend nofun nofun
        refine ⟨congrArg (fun x => x.1) hp, congrArg (fun x => x.2.2.1) hp, fun htr => ?_⟩
        have htransfer : (u.car n).transfer = (v.car n).transfer :=
          show (u.car n).stand.transfer = (v.car n).stand.transfer by rw [hstand]
        rw [faultedBy_stand, beforeFault_stand, if_pos ⟨rfl, hstate, by rw [htransfer]; exact htr⟩] at hs
        exact ⟨congrArg Carriage.load hs, congrArg Carriage.transfer hs, congrArg Carriage.mark hs⟩

end Sys2Proof.Machine
end

section
/-! PROOFS. Filtered falling edges and the speed check (R100, R105). -/

namespace Sys2Proof.Machine

/-- The gate of an edge with its filter (R100). -/
def Gate.filtered (g : Gate) (v mid : Level) : Gate := { g with samples := edgeSamples v mid, level := v }

theorem gate_filterTo (s : State) (c d : Corridor) (k j input : Nat) (v mid : Level) :
    (s.filterTo c k input v mid).gate d j = if d = c ∧ j = k then (s.gate c k).filtered v mid else s.gate d j :=
  gate_modGate (s.setInput input v) c d k j fun g => g.filtered v mid

theorem filterTo_fields (s : State) (c : Corridor) (k input : Nat) (v mid : Level) : s.filterTo c k input v mid =
    { s with inputs := (s.filterTo c k input v mid).inputs, gates := (s.filterTo c k input v mid).gates } := rfl

/-- An event that writes inputs and gates alone ends as it stands. -/
theorem finish_of_rails {s t : State} (ho : NothingOwed s) (h : t = { s with inputs := t.inputs, gates := t.gates }) : s.finish t = t := by
  refine State.finish_of_same s t (by rw [h]; exact ho) fun c => ?_
  rw [h]
  rfl

theorem exec_gateFallingEdge {s : State} (hp : s.powered = true) (c : Corridor) (k : Nat) (mid : Level) :
    exec (.gateFallingEdge c k mid) s = .next (s.finish (s.edgeDown c k mid)) := congrArg Host.Outcome.next (if_pos hp)

/-! ## The speed check -/

theorem speedsDiffer_iff (length occupied speed : Nat) : State.speedsDiffer length occupied speed = true ↔
    max 100 (speed / 4) < (((length * 1000 / occupied : Nat) : Int) - (speed : Int)).natAbs := by
  simp only [State.speedsDiffer, decide_eq_true_eq]
  generalize length * 1000 / occupied = gate
  split
  · rw [show ((gate : Int) - (speed : Int)).natAbs = speed - gate by omega]
  · rw [show ((gate : Int) - (speed : Int)).natAbs = gate - speed by omega]

theorem speedsDiffer_false {length occupied speed : Nat}
    (h : ((length * 1000 / occupied : Nat) : Int) - speed ≤ max 100 (speed / 4 : Nat) ∧
      (speed : Int) - (length * 1000 / occupied : Nat) ≤ max 100 (speed / 4 : Nat)) :
    State.speedsDiffer length occupied speed = false := by
  rw [← Bool.not_eq_true, speedsDiffer_iff]
  generalize length * 1000 / occupied = gate at *
  omega

/-! ## The slip mark -/

/-- The record of a carriage but for its work, its uncertainty and a transfer that was interrupted. -/
def Carriage.marks (v : Carriage) : Option Int × Option Int × Bool × Bool := (v.p, v.offset, v.slip, v.rehome)

theorem marks_of_stand {v w : Carriage} (h : w.stand = v.stand ∨ w.stand = v.stand.straddled) : w.marks = v.marks := by
  have hmarks (x : Carriage) : x.marks = x.stand.marks := rfl
  rw [hmarks w, hmarks v]
  rcases h with h | h <;> rw [h]
  rfl

theorem refreshU_marks (s : State) (n : CarriageName) : ((s.refreshU n).car n).marks = (s.car n).marks := by
  have hmod (x : Nat) : ((s.modCar n fun w => { w with u := x }).car n).marks = (s.car n).marks := by
    rw [car_modCar, if_pos rfl]
    rfl
  simp only [State.refreshU]
  split
  · rfl
  · split
    · exact hmod _
    · split
      · exact hmod _
      · exact (marks_of_stand (fault_stand_or ..)).trans (hmod _)

theorem refreshU_other (s : State) {n m : CarriageName} (hne : m ≠ n) : ((s.refreshU n).car m).stand = (s.car m).stand := by
  have hmod (x : Nat) : (s.modCar n fun w => { w with u := x }).car m = s.car m := (car_modCar ..).trans (if_neg hne)
  simp only [State.refreshU]
  split
  · rfl
  · split
    · rw [hmod]
    · split
      · rw [hmod]
      · rw [fault_stand_other _ hne, hmod]

theorem refreshU_rails (s : State) (n : CarriageName) : SameRails s (s.refreshU n) := by
  have hmod (x : Nat) : SameRails s (s.modCar n fun w => { w with u := x }) := ⟨rfl, rfl⟩
  simp only [State.refreshU]
  split
  · exact .refl s
  · split
    · exact hmod _
    · split
      · exact hmod _
      · exact (hmod _).trans (.fault ..)

theorem setRehome_car (s : State) (n m : CarriageName) :
    (s.setRehome n).car m = if m = n then { s.car n with rehome := true } else s.car m := by
  have hmod := car_modCar s n m fun v => { v with rehome := true }
  simp only [State.setRehome]
  split <;> exact hmod

theorem setRehome_rails (s : State) (n : CarriageName) : SameRails s (s.setRehome n) := by
  simp only [State.setRehome]
  split <;> exact ⟨rfl, rfl⟩

theorem setSlip_marks (s : State) (n : CarriageName) :
    ((s.setSlip n).car n).slip = true ∧ ((s.setSlip n).car n).rehome = true ∧ ((s.setSlip n).car n).p = (s.car n).p := by
  have hmarks := refreshU_marks (s.modCar n fun v => { v with slip := true }) n
  rw [car_modCar, if_pos rfl] at hmarks
  have hp := congrArg (fun x => x.1) hmarks
  have hslip := congrArg (fun x => x.2.2.1) hmarks
  rw [State.setSlip, setRehome_car, if_pos rfl]
  exact ⟨hslip, rfl, hp⟩

theorem setSlip_other (s : State) {n m : CarriageName} (hne : m ≠ n) : ((s.setSlip n).car m).stand = (s.car m).stand := by
  rw [State.setSlip, setRehome_car, if_neg hne, refreshU_other _ hne, car_modCar, if_neg hne]

theorem setSlip_rails (s : State) (n : CarriageName) : SameRails s (s.setSlip n) := by
  have hmod : SameRails s (s.modCar n fun v => { v with slip := true }) := ⟨rfl, rfl⟩
  simp only [State.setSlip]
  exact (hmod.trans (refreshU_rails _ n)).trans (setRehome_rails _ n)

/-! ## The row -/

/-- The gate record once its occupancy has ended (R105). -/
def Gate.vacated (g : Gate) (occupied : Nat) : Gate := { g with duration := some occupied, attributed := none, standstill := false }

/-- What a falling edge at an attributed gate does (R105). -/
theorem fallingEdge_eq {s : State} {c : Corridor} {k r : Nat} {n : CarriageName} {it : CarriageItem}
    (ha : (s.gate c k).attributed = some n) (hr : (s.gate c k).rising = some r) (hit : s.item n = some it) : s.fallingEdge c k =
      if min 65535 (s.millis - r) = 0 ∨ min 65535 (s.millis - r) = 65535 ∨ (s.gate c k).standstill = true ∨ (s.car n).state = .faulted ∨
          (s.car n).state = .unplaced ∨ State.speedsDiffer it.length (min 65535 (s.millis - r)) (s.car n).speed = false then
        s.modGate c k fun g => g.vacated (min 65535 (s.millis - r))
      else (s.modGate c k fun g => g.vacated (min 65535 (s.millis - r))).setSlip n := by
  simp only [State.fallingEdge, ha, hr, hit]
  generalize min 65535 (s.millis - r) = occupied
  by_cases hout : occupied = 0 ∨ occupied = 65535 ∨ (s.gate c k).standstill = true ∨ (s.car n).state = .faulted ∨ (s.car n).state = .unplaced
  · rw [if_pos hout, if_pos (by grind)]
    rfl
  · rw [if_neg hout]
    cases State.speedsDiffer it.length occupied (s.car n).speed with
    | true =>
      rw [if_pos rfl, if_neg (by simpa using hout)]
      rfl
    | false =>
      rw [if_neg nofun, if_pos (by simp)]
      rfl

theorem fallingEdge_of_none {s : State} {c : Corridor} {k : Nat} (h : (s.gate c k).attributed = none) : s.fallingEdge c k = s := by
  simp only [State.fallingEdge, h]

/-- Settles O53: what a falling edge does, gate by gate. -/
theorem fallingEdgeEndsTheOccupancy : Obligations.FallingEdgeEndsTheOccupancy := by
  intro s c k mid hp ho
  refine ⟨fun h => ?_, fun i hi hlevel h => ?_, fun i n r it occupied hi hlevel hservice ha hr hit hocc => ?_⟩
  · have hsame : s.edgeDown c k mid = s := by
      rcases h with h | h
      · simp only [State.edgeDown, h]
      · simp only [State.edgeDown, if_pos h]
        split <;> rfl
    rw [exec_gateFallingEdge hp, hsame, State.finish_of_same s s ho fun _ => rfl]
  · have hclear : (s.gate c k).level ≠ .clear := by rw [hlevel]; decide
    have hgate := gate_filterTo s c c k k i .clear mid
    rw [if_pos ⟨rfl, rfl⟩] at hgate
    have hdown : s.edgeDown c k mid = s.filterTo c k i .clear mid := by
      simp only [State.edgeDown, hi, if_neg hclear]
      split
      · rename_i hin
        refine fallingEdge_of_none ?_
        rw [hgate]
        exact h.resolve_left (by rw [hin]; decide)
      · rfl
    rw [exec_gateFallingEdge hp, hdown, finish_of_rails ho (filterTo_fields ..)]
  · have hclear : (s.gate c k).level ≠ .clear := by rw [hlevel]; decide
    have hgate := gate_filterTo s c c k k i .clear mid
    rw [if_pos ⟨rfl, rfl⟩] at hgate
    have hdown : s.edgeDown c k mid = (s.filterTo c k i .clear mid).fallingEdge c k := by
      simp only [State.edgeDown, hi, if_neg hclear, if_pos hservice]
    have hwithin := (Within.fallingEdge (s.filterTo c k i .clear mid) c k).trans (.finish s _)
    have hfields := filterTo_fields s c k i .clear mid
    have hedge := fallingEdge_eq (s := s.filterTo c k i .clear mid) (c := c) (k := k) (r := r) (n := n) (it := it)
      (by rw [hgate]; exact ha) (by rw [hgate]; exact hr) (by rw [hfields]; exact hit)
    have hmillis : (s.filterTo c k i .clear mid).millis = s.millis := by rw [hfields]
    have hlayout : (s.filterTo c k i .clear mid).layout = s.layout := by rw [hfields]
    have hcar (m : CarriageName) : (s.filterTo c k i .clear mid).car m = s.car m := by rw [hfields]; rfl
    have hbenches : (s.filterTo c k i .clear mid).benches = s.benches := by rw [hfields]
    have hstill : (s.gate c k).standstill = ((s.filterTo c k i .clear mid).gate c k).standstill := by rw [hgate]; rfl
    rw [hmillis, ← hocc, hcar, ← hstill] at hedge
    have hvfields : (s.filterTo c k i .clear mid).modGate c k (fun g => g.vacated occupied) = { s with
        inputs := ((s.filterTo c k i .clear mid).modGate c k fun g => g.vacated occupied).inputs
        gates := ((s.filterTo c k i .clear mid).modGate c k fun g => g.vacated occupied).gates } := rfl
    have hvgate : ((s.filterTo c k i .clear mid).modGate c k fun g => g.vacated occupied).gate c k =
        ((s.gate c k).filtered .clear mid).vacated occupied := by
      rw [gate_modGate, if_pos ⟨rfl, rfl⟩, hgate]
    have hvcar (m : CarriageName) : ((s.filterTo c k i .clear mid).modGate c k fun g => g.vacated occupied).car m = s.car m := hcar m
    refine ⟨_, (exec_gateFallingEdge hp c k mid).trans (congrArg (fun u => Host.Outcome.next (s.finish u)) hdown), ?_⟩
    have hcalm := Calm.finish s ((s.filterTo c k i .clear mid).fallingEdge c k)
    generalize (s.filterTo c k i .clear mid).modGate c k (fun g => g.vacated occupied) = v at *
    have hrails : SameRails v (s.finish ((s.filterTo c k i .clear mid).fallingEdge c k)) := by
      refine SameRails.trans ?_ (.of_calm hcalm)
      rw [hedge]
      split
      · exact .refl v
      · exact setSlip_rails v n
    have hend : (s.finish ((s.filterTo c k i .clear mid).fallingEdge c k)).gate c k =
        ((s.gate c k).filtered .clear mid).vacated occupied := by
      rw [← hvgate]
      simp only [State.gate, hrails.gates]
    rw [hend]
    refine ⟨hwithin.layout.trans hlayout, hwithin.millis.trans hmillis, rfl, rfl, rfl, rfl, fun m hne => ?_, fun h => ?_,
      fun h1 h2 h3 h4 h5 h6 => ?_⟩
    · rw [hcalm.cars, hedge]
      split
      · rw [hvcar]
      · rw [setSlip_other v hne, hvcar]
    · rw [hedge, if_pos, finish_of_rails ho hvfields, hvcar]
      · exact ⟨by rw [hvfields], rfl⟩
      · rcases h with h | h | h | h | h | h
        · exact .inl h
        · exact .inr (.inl h)
        · exact .inr (.inr (.inl h))
        · exact .inr (.inr (.inr (.inl h)))
        · exact .inr (.inr (.inr (.inr (.inl h))))
        · exact .inr (.inr (.inr (.inr (.inr (speedsDiffer_false h)))))
    · have hdiffer : State.speedsDiffer it.length occupied (s.car n).speed = true := (speedsDiffer_iff ..).mpr (Int.ofNat_lt.mp h6)
      rw [hedge, if_neg] at hcalm ⊢
      · have hstand := hcalm.cars n
        obtain ⟨hslip, hrehome, hpos⟩ := setSlip_marks v n
        rw [hvcar] at hpos
        exact ⟨(congrArg Carriage.slip hstand).trans hslip, (congrArg Carriage.rehome hstand).trans hrehome, (hcalm.p n).trans hpos⟩
      · simp [h1, h2, h3, h4, h5, hdiffer]
      · simp [h1, h2, h3, h4, h5, hdiffer]

end Sys2Proof.Machine
end

section
/-! PROOFS. What the reservation table does in CONFIGURING (R81), and rising edges with one candidate (R101, R102, R111). -/

namespace Sys2Proof.Machine

/-! ## In CONFIGURING no request is taken -/

theorem offer_carriages (s : State) (o : Offer) : (s.offer o).carriages = s.carriages := by rw [offer_fields]

/-- The carriage records and the unit mode stay as they are. -/
structure SameCars (s t : State) : Prop where
  carriages : t.carriages = s.carriages
  mode : t.mode = s.mode

namespace SameCars

theorem refl (s : State) : SameCars s s := ⟨rfl, rfl⟩

theorem trans {s t u : State} (h : SameCars s t) (k : SameCars t u) : SameCars s u :=
  ⟨k.carriages.trans h.carriages, k.mode.trans h.mode⟩

theorem car {s t : State} (h : SameCars s t) (m : CarriageName) : t.car m = s.car m := congrArg (Six.get · m) h.carriages

theorem configuring {s t : State} (h : SameCars s t) (hs : s.mode = .configuring) : t.mode = .configuring := h.mode.trans hs

theorem foldl {α : Type} (f : State → α → State) (hf : ∀ t a, SameCars t (f t a)) (l : List α) (s : State) : SameCars s (l.foldl f s) := by
  induction l generalizing s with
  | nil => exact refl s
  | cons a rest ih => exact (hf s a).trans (ih (f s a))

theorem unwait (s : State) (n : CarriageName) : SameCars s (s.unwait n) := ⟨rfl, rfl⟩

theorem modSeg (s : State) (c : Corridor) (k : Nat) (g : Segment → Segment) : SameCars s (s.modSeg c k g) := ⟨rfl, rfl⟩

theorem grantRequest {s : State} (h : s.mode = .configuring) (n : CarriageName) : SameCars s (s.grantRequest n) := by
  simp only [State.grantRequest]
  split
  · rw [if_pos (.inl h)]
    exact unwait ..
  · exact refl s

theorem retry {s : State} (h : s.mode = .configuring) (c : Corridor) (k : Nat) : SameCars s (s.retry c k) := by
  have hfree : SameCars s { s with free := s.free + 1 } := ⟨rfl, rfl⟩
  have htwo (a b : CarriageName) : SameCars s ((({ s with free := s.free + 1 } : State).grantRequest a).grantRequest b) := by
    have hfirst := hfree.trans (grantRequest (hfree.configuring h) a)
    exact hfirst.trans (grantRequest (hfirst.configuring h) b)
  simp only [State.retry]
  split
  · exact refl s
  · exact grantRequest h _
  · split
    · exact htwo ..
    · exact htwo ..

theorem retryAll {s : State} (h : s.mode = .configuring) (c : Corridor) (l : List Nat) : SameCars s (State.retryAll c l s) := by
  induction l generalizing s with
  | nil => exact refl s
  | cons k rest ih =>
    have hfirst := retry h c k
    exact hfirst.trans (ih (hfirst.configuring h))

theorem setFence (s : State) (c : Corridor) (k : Nat) (f : Fence) : SameCars s (s.setFence c k f) :=
  ⟨Tracked.carriages_setFence .., (Within.setFence ..).mode⟩

theorem liftFence (s : State) (c : Corridor) (k : Nat) : SameCars s (s.liftFence c k) := by
  refine ⟨?_, (Within.liftFence ..).mode⟩
  simp only [State.liftFence]
  split
  · exact offer_carriages ..
  · rfl

theorem seatOne (n : CarriageName) (s : State) (k : Nat) : SameCars s (State.seatOne n s k) := by
  simp only [State.seatOne]
  split
  · exact setFence ..
  · exact ⟨rfl, rfl⟩

theorem clearLayers (s : State) (n : CarriageName) (l : List Nat) : SameCars s (s.clearLayers n l) :=
  foldl _ (fun t k => modSeg t n.corridor k _) l s

theorem convert {s : State} (h : s.mode = .configuring) (n : CarriageName) : SameCars s (s.convert n) := by
  have hstanding (l : List Nat) (t : State) : SameCars t (l.foldl (State.toStanding n) t) :=
    foldl _ (fun t k => modSeg t n.corridor k _) l t
  simp only [State.convert]
  split
  · have hbefore := (hstanding (s.heldRun n) s).trans (unwait _ n)
    exact hbefore.trans (retryAll (hbefore.configuring h) ..)
  · rename_i r _
    have hbefore := ((clearLayers s n ((s.heldRun n).filter fun k => !s.layout.segMeets n.corridor k r)).trans
      (hstanding ((s.heldRun n).filter fun k => s.layout.segMeets n.corridor k r) _)).trans (unwait _ n)
    exact (hbefore.trans (retryAll (hbefore.configuring h) ..)).trans (foldl _ (seatOne n) _ _)

theorem seat {s : State} (h : s.mode = .configuring) (n : CarriageName) : SameCars s (s.seat n) := by
  have hbefore := (clearLayers s n (s.heldRun n)).trans (unwait _ n)
  simp only [State.seat]
  split
  · exact hbefore.trans (retryAll (hbefore.configuring h) ..)
  · split
    · exact hbefore.trans (retryAll (hbefore.configuring h) ..)
    · rename_i r _
      have hseated := hbefore.trans (foldl _ (seatOne n) (((s.clearLayers n (s.heldRun n)).unwait n).segsMeeting n.corridor r) _)
      exact hseated.trans (retryAll (hseated.configuring h) ..)

end SameCars

/-- In CONFIGURING a carriage that becomes IDLE stands IDLE: no retry shifts it. -/
theorem becomeIdle_configuring {s : State} (h : s.mode = .configuring) (n : CarriageName) :
    (s.becomeIdle n).car n = (s.car n).idleNow := by
  have hidle : (s.modCar n Carriage.idleNow).car n = (s.car n).idleNow := (car_modCar ..).trans (if_pos rfl)
  have hbase : (((s.modCar n Carriage.idleNow).convert n).owe n.corridor).car n = (s.car n).idleNow :=
    ((SameCars.convert (s := s.modCar n Carriage.idleNow) h n).car n).trans hidle
  simp only [State.becomeIdle]
  split
  · exact (endShift_car n ((congrArg Carriage.Unwaiting hbase).mpr (.of_none rfl))).trans hbase
  · exact hbase

theorem Touched.homing {v w : Carriage} (h : Touched v w) : w.homing = v.homing := by
  obtain ⟨a, b, rfl | ⟨_, _, _, _, _, _, _, rfl⟩⟩ := h <;> rfl

/-! ## Candidates of an edge (R101) -/

theorem moving_iff (s : State) (n : CarriageName) : s.moving n = true ↔
    s.hasRecord n = true ∧ (s.car n).p ≠ none ∧ (s.car n).link = .up ∧ (s.car n).dir ≠ none ∧
      ((s.car n).state = .running ∨ (s.car n).state = .homing ∨ 0 < (s.car n).speed) := by
  simp only [State.moving, Bool.and_eq_true, Bool.or_eq_true, decide_eq_true_eq, Option.isSome_iff_ne_none, and_assoc, or_assoc]

theorem carriedFront_eq_some (s : State) (n : CarriageName) (f : Int) : s.carriedFront n = some f ↔
    ∃ (it : CarriageItem) (p : Int) (dir : Dir), s.item n = some it ∧ (s.car n).p = some p ∧ (s.car n).dir = some dir ∧
      f = match dir with
        | .south => p + it.length + ((s.car n).speed * (s.millis - (s.car n).lastAnswer.getD s.millis) / 1000 : Nat)
        | .north => p - ((s.car n).speed * (s.millis - (s.car n).lastAnswer.getD s.millis) / 1000 : Nat) := by
  simp only [State.carriedFront, State.footprint]
  cases s.item n with
  | none => simp
  | some it =>
    cases (s.car n).p with
    | none => simp
    | some p =>
      cases (s.car n).dir with
      | none => simp
      | some dir => cases dir <;> simp [eq_comm]

theorem mem_edgeCandidates (s : State) (c : Corridor) (g : Int) (n : CarriageName) (e : Int) :
    (n, e) ∈ s.edgeCandidates c g ↔ Candidate s c g n e := by
  have hone : (n, e) ∈ s.edgeCandidates c g ↔ n ∈ s.carsOf c ∧ s.moving n = true ∧
      ∃ f, s.carriedFront n = some f ∧ ((g - f).natAbs : Int) ≤ 2 * (((s.car n).u : Int) + (s.timing c).tol) ∧ e = g - f := by
    simp only [State.edgeCandidates, List.mem_filterMap]
    constructor
    · rintro ⟨m, hm, h⟩
      split at h
      · rename_i hmoving
        split at h
        · rename_i f hf
          split at h
          · rename_i hle
            obtain ⟨rfl, rfl⟩ := Prod.mk.inj (Option.some.inj h)
            exact ⟨hm, hmoving, f, hf, hle, rfl⟩
          · exact absurd h nofun
        · exact absurd h nofun
      · exact absurd h nofun
    · rintro ⟨hm, hmoving, f, hf, hle, rfl⟩
      exact ⟨n, hm, by simp only [hmoving, if_true, hf, if_pos hle]⟩
  rw [hone]
  constructor
  · rintro ⟨hmem, hmoving, f, hf, hle, rfl⟩
    obtain ⟨-, -, hlink, -, hgoing⟩ := (moving_iff s n).mp hmoving
    obtain ⟨it, p, dir, hit, hp, hdir, rfl⟩ := (carriedFront_eq_some s n f).mp hf
    exact ⟨hmem, hlink, hgoing, ⟨it, p, dir, _, hit, hp, hdir, rfl, by cases dir <;> rfl⟩, hle⟩
  · rintro ⟨hmem, hlink, hgoing, ⟨it, p, dir, ahead, hit, hp, hdir, rfl, he⟩, hle⟩
    refine ⟨hmem, (moving_iff s n).mpr ⟨(List.mem_filter.mp hmem).2, by simp [hp], hlink, by simp [hdir], hgoing⟩, _,
      (carriedFront_eq_some s n _).mpr ⟨it, p, dir, hit, hp, hdir, rfl⟩, ?_, ?_⟩
    · cases dir <;> (rw [he] at hle; exact hle)
    · cases dir <;> exact he

/-! ## An edge with one candidate (R102) -/

theorem edgeOne_attributed {s : State} {c : Corridor} {k : Nat} {n : CarriageName} {e : Int}
    (h : (s.car n).state = .faulted ∨ (s.car n).state = .unplaced) :
    s.edgeOne c k n e = s.modGate c k fun g => { g with outcome := .attributed } := by
  simp only [State.edgeOne, if_pos h]

theorem edgeOne_homed {s : State} {c : Corridor} {k : Nat} {n : CarriageName} {e : Int}
    (h : ¬ ((s.car n).state = .faulted ∨ (s.car n).state = .unplaced)) (hh : s.homesToward n k = true) :
    s.edgeOne c k n e = s.homingSucceeds n k e := by
  simp only [State.edgeOne, if_neg h, if_pos hh]

theorem edgeOne_corrected {s : State} {c : Corridor} {k : Nat} {n : CarriageName} {e : Int}
    (h : ¬ ((s.car n).state = .faulted ∨ (s.car n).state = .unplaced)) (hh : s.homesToward n k = false)
    (he : (e.natAbs : Int) ≤ ((s.car n).u : Int) + (s.timing c).tol) : s.edgeOne c k n e = s.correct n k e := by
  simp only [State.edgeOne, if_neg h, hh, Bool.false_eq_true, if_false, if_pos he]

theorem edgeOne_rejected {s : State} {c : Corridor} {k : Nat} {n : CarriageName} {e : Int}
    (h : ¬ ((s.car n).state = .faulted ∨ (s.car n).state = .unplaced)) (hh : s.homesToward n k = false)
    (he : ((s.car n).u : Int) + (s.timing c).tol < (e.natAbs : Int)) :
    s.edgeOne c k n e = (s.modGate c k fun g => { g with outcome := .rejected }).fault n .positionLost none := by
  simp only [State.edgeOne, if_neg h, hh, Bool.false_eq_true, if_false, if_neg (Int.not_le.mpr he)]

/-- A carriage moved by a deviation (R102, R111). -/
def Carriage.movedBy (v : Carriage) (e : Int) : Carriage := { v with p := v.p.map (· + e), offset := v.offset.map (· + e) }

/-- A carriage whose homing succeeded, before it becomes IDLE (R111). -/
def Carriage.homedBy (v : Carriage) (e : Int) : Carriage :=
  { v.movedBy e with
    uBase := 10, sinceCorrection := 0, u := 10, sinceHoming := 0, homings := v.homings + 1, slip := false, rehome := false
    homing := none }

/-- The tables of a homing that succeeded (R111). -/
def State.homedAt (s : State) (n : CarriageName) (k : Nat) (e : Int) : State :=
  (s.setCar n ((s.car n).homedBy e)).modGate n.corridor k fun g => { g with misses := 0, outcome := .homed }

theorem setCar_setCar (s : State) (n : CarriageName) (v w : Carriage) : (s.setCar n v).setCar n w = s.setCar n w := by
  simp only [State.setCar]
  congr 1
  cases n <;> rfl

theorem modCar_modCar (s : State) (n : CarriageName) (g k : Carriage → Carriage) :
    (s.modCar n g).modCar n k = s.setCar n (k (g (s.car n))) := by
  rw [State.modCar, State.modCar, State.car_setCar, if_pos rfl, setCar_setCar]

theorem homingSucceeds_eq (s : State) (n : CarriageName) (k : Nat) (e : Int) : s.homingSucceeds n k e =
    if (s.car n).state = .halted then (s.homedAt n k e).modCar n fun v => { v with remembered := some .idle }
    else (s.homedAt n k e).becomeIdle n := by
  simp only [State.homingSucceeds, State.shiftPosition, modCar_modCar]
  rfl

theorem car_homedAt (s : State) (n : CarriageName) (k : Nat) (e : Int) (m : CarriageName) :
    (s.homedAt n k e).car m = if m = n then (s.car n).homedBy e else s.car m := Six.get_set ..

theorem homingSucceeds_calm (s : State) (n : CarriageName) (k : Nat) (e : Int) :
    Calm (s.homedAt n k e) (s.homingSucceeds n k e) := by
  rw [homingSucceeds_eq]
  split
  · exact .modCar _ _ _ fun _ => rfl
  · exact .becomeIdle ..

/-- A carriage whose position was corrected (R102). -/
def Carriage.correctedBy (v : Carriage) (e : Int) (tol : Nat) : Carriage := { v.movedBy e with uBase := tol, sinceCorrection := 0, u := tol }

theorem refreshU_within {s : State} {n : CarriageName} (hp : (s.car n).p ≠ none)
    (h : uValue (s.car n).uBase (s.car n).sinceCorrection (s.timing n.corridor).slip (s.car n).slip ≤ 1500) :
    s.refreshU n = s.modCar n fun w =>
      { w with u := uValue (s.car n).uBase (s.car n).sinceCorrection (s.timing n.corridor).slip (s.car n).slip } := by
  have hsome : ¬ (s.car n).p.isNone = true := by rwa [Option.isNone_iff_eq_none]
  simp only [State.refreshU, if_neg hsome]
  exact if_pos h

theorem correct_eq {s : State} {n : CarriageName} {k : Nat} {e : Int} (hp : (s.car n).p ≠ none) (htol : (s.timing n.corridor).tol ≤ 1500) :
    s.correct n k e = (s.modGate n.corridor k fun g => { g with misses := 0, outcome := .corrected }).setCar n
      ((s.car n).correctedBy e (s.timing n.corridor).tol) := by
  have hbase (x : Nat) : s.correct n k e = (((s.setCar n { (s.car n).movedBy e with
      uBase := (s.timing n.corridor).tol, sinceCorrection := 0 }).modGate n.corridor k fun g =>
        { g with misses := 0, outcome := .corrected })).refreshU n := by
    simp only [State.correct, State.shiftPosition, modCar_modCar]
    rfl
  have hcar : ((s.setCar n { (s.car n).movedBy e with
      uBase := (s.timing n.corridor).tol, sinceCorrection := 0 }).modGate n.corridor k fun g =>
        { g with misses := 0, outcome := .corrected }).car n =
      { (s.car n).movedBy e with uBase := (s.timing n.corridor).tol, sinceCorrection := 0 } := (Six.get_set ..).trans (if_pos rfl)
  have hvalue (b : Bool) (x : Nat) : uValue (s.timing n.corridor).tol 0 x b = (s.timing n.corridor).tol := by
    simp [uValue, ceilDiv]
  rw [hbase 0, refreshU_within]
  · rw [hcar]
    simp only [hvalue, State.modCar, hcar]
    refine (setCar_setCar ((s.modGate n.corridor k fun g => { g with misses := 0, outcome := .corrected })) n _ _).trans ?_
    rfl
  · rw [hcar]
    simpa [Carriage.movedBy] using hp
  · rw [hcar, hvalue]
    exact htol

end Sys2Proof.Machine
end

section
/-! PROOFS. Filtered rising edges (R100 to R104, R111). -/

namespace Sys2Proof.Machine

/-! ## The edge reaches its gate -/

theorem exec_gateRisingEdge {s : State} (hp : s.powered = true) (c : Corridor) (k : Nat) (mid : Level) :
    exec (.gateRisingEdge c k mid) s = .next (s.finish (s.edgeUp c k mid)) := congrArg Host.Outcome.next (if_pos hp)

theorem edgeUp_of_not {s : State} {c : Corridor} {k : Nat} (h : s.gateInput c k = none ∨ (s.gate c k).level = .present) (mid : Level) :
    s.edgeUp c k mid = s := by
  rcases h with h | h
  · simp only [State.edgeUp, h]
  · simp only [State.edgeUp, if_pos h]
    split <;> rfl

/-- The gate of a rising edge before its candidates are judged (R101). -/
def Gate.risen (g : Gate) (now : Nat) : Gate := { g with rising := some now, standstill := false, attributed := none }

/-- The unit at a rising edge before its candidates are judged. -/
def State.edged (s : State) (c : Corridor) (k input : Nat) (mid : Level) : State :=
  (s.filterTo c k input .present mid).modGate c k fun g => g.risen s.millis

theorem edged_fields (s : State) (c : Corridor) (k input : Nat) (mid : Level) : s.edged c k input mid =
    { s with inputs := (s.edged c k input mid).inputs, gates := (s.edged c k input mid).gates } := rfl

theorem gate_edged (s : State) (c : Corridor) (k input : Nat) (mid : Level) :
    (s.edged c k input mid).gate c k = ((s.gate c k).filtered .present mid).risen s.millis := by
  rw [State.edged, gate_modGate, if_pos ⟨rfl, rfl⟩, gate_filterTo, if_pos ⟨rfl, rfl⟩]

theorem clear_ne_present {s : State} {c : Corridor} {k : Nat} (h : (s.gate c k).level = .clear) : (s.gate c k).level ≠ .present := by
  rw [h]
  decide

theorem edgeUp_out {s : State} {c : Corridor} {k i : Nat} (hi : s.gateInput c k = some i) (hlevel : (s.gate c k).level = .clear)
    (hout : (s.gate c k).service = .outOfService) (mid : Level) : s.edgeUp c k mid = s.filterTo c k i .present mid := by
  have hin : (s.gate c k).service ≠ .inService := by rw [hout]; decide
  simp only [State.edgeUp, hi, if_neg (clear_ne_present hlevel), if_neg hin]

theorem edgeUp_in {s : State} {c : Corridor} {k i : Nat} (hi : s.gateInput c k = some i) (hlevel : (s.gate c k).level = .clear)
    (hin : (s.gate c k).service = .inService) (mid : Level) : s.edgeUp c k mid =
      match s.layout.gatePos c k with
      | none => (s.edged c k i mid).intrude c k
      | some g =>
        match s.edgeCandidates c (g : Int) with
        | [] => (s.edged c k i mid).intrude c k
        | [(n, e)] => ((s.edged c k i mid).modGate c k fun g => { g with attributed := some n }).edgeOne c k n e
        | _ :: _ :: _ => (s.edged c k i mid).modGate c k fun g => { g with outcome := .ambiguous } := by
  have hup : s.edgeUp c k mid = (s.filterTo c k i .present mid).risingEdge c k := by
    simp only [State.edgeUp, hi, if_neg (clear_ne_present hlevel), if_pos hin]
  rw [hup]
  rfl

/-! ## One candidate -/

/-- The gate of an edge attributed to a carriage (R102). -/
def Gate.attributedTo (g : Gate) (n : CarriageName) : Gate := { g with attributed := some n }

/-- The unit at a rising edge attributed to a carriage. -/
def State.found (s : State) (c : Corridor) (k input : Nat) (mid : Level) (n : CarriageName) : State :=
  (s.edged c k input mid).modGate c k fun g => g.attributedTo n

theorem found_fields (s : State) (c : Corridor) (k input : Nat) (mid : Level) (n : CarriageName) : s.found c k input mid n =
    { s with inputs := (s.found c k input mid n).inputs, gates := (s.found c k input mid n).gates } := rfl

theorem gate_found (s : State) (c : Corridor) (k input : Nat) (mid : Level) (n : CarriageName) :
    (s.found c k input mid n).gate c k = (((s.gate c k).filtered .present mid).risen s.millis).attributedTo n := by
  rw [State.found, gate_modGate, if_pos ⟨rfl, rfl⟩, gate_edged]

theorem edgeUp_one {s : State} {c : Corridor} {k i g : Nat} {n : CarriageName} {e : Int} (hi : s.gateInput c k = some i)
    (hlevel : (s.gate c k).level = .clear) (hin : (s.gate c k).service = .inService) (hpos : s.layout.gatePos c k = some g)
    (hone : s.edgeCandidates c (g : Int) = [(n, e)]) (mid : Level) : s.edgeUp c k mid = (s.found c k i mid n).edgeOne c k n e := by
  rw [edgeUp_in hi hlevel hin]
  simp only [hpos, hone]
  rfl

/-- What an edge with one candidate leaves of its gate: its outcome is noted, its miss count may be cleared (R102). -/
theorem edgeOne_gate (s : State) (k : Nat) (n : CarriageName) (e : Int) :
    ∃ misses outcome, (s.edgeOne n.corridor k n e).gate n.corridor k = { s.gate n.corridor k with misses := misses, outcome := outcome } := by
  have hrails {t u : State} (h : SameRails t u) : u.gate n.corridor k = t.gate n.corridor k := by simp only [State.gate, h.gates]
  simp only [State.edgeOne]
  split
  · exact ⟨_, .attributed, by rw [gate_modGate, if_pos ⟨rfl, rfl⟩]⟩
  · split
    · refine ⟨0, .homed, ?_⟩
      rw [hrails (.of_calm (homingSucceeds_calm s n k e)), State.homedAt, gate_modGate, if_pos ⟨rfl, rfl⟩]
      rfl
    · split
      · refine ⟨0, .corrected, ?_⟩
        rw [State.correct, hrails (refreshU_rails ..), gate_modGate, if_pos ⟨rfl, rfl⟩]
        rfl
      · refine ⟨(s.gate n.corridor k).misses, .rejected, ?_⟩
        rw [hrails (SameRails.fault ..), gate_modGate, if_pos ⟨rfl, rfl⟩]

/-- An edge moves no other carriage than the one it is attributed to. -/
theorem edgeOne_other (s : State) (k : Nat) {n m : CarriageName} (e : Int) (hne : m ≠ n) :
    ((s.edgeOne n.corridor k n e).car m).stand = (s.car m).stand := by
  simp only [State.edgeOne]
  split
  · rfl
  · split
    · rw [(homingSucceeds_calm s n k e).cars, car_homedAt, if_neg hne]
    · split
      · rw [State.correct, State.shiftPosition, modCar_modCar, refreshU_other _ hne]
        exact congrArg Carriage.stand ((State.car_setCar ..).trans (if_neg hne))
      · exact fault_stand_other _ hne _ _

theorem gate_setCar (s : State) (n : CarriageName) (v : Carriage) (c : Corridor) (k : Nat) : (s.setCar n v).gate c k = s.gate c k := rfl

/-- Settles O52: an edge with one candidate, by the state of the carriage and the deviation. -/
theorem risingEdgeWithOneCandidate : Obligations.RisingEdgeWithOneCandidate := by
  intro s c k i g mid n e hp hi hlevel hin hgate hone htol
  have hcand (m : CarriageName) (x : Int) : Candidate s c g m x ↔ m = n ∧ x = e := by
    rw [← mem_edgeCandidates, hone]
    simp
  have hself : Candidate s c g n e := (hcand n e).mpr ⟨rfl, rfl⟩
  obtain ⟨hmem, -, -, ⟨-, p, -, -, -, hpos, -⟩, -⟩ := id hself
  obtain rfl := corridor_of_mem_carsOf hmem
  refine ⟨hself, fun m x => (hcand m x).mp, ?_⟩
  refine ⟨_, (exec_gateRisingEdge hp n.corridor k mid).trans
    (congrArg (fun u => Host.Outcome.next (s.finish u)) (edgeUp_one hi hlevel hin hgate hone mid)), ?_⟩
  have hfields := found_fields s n.corridor k i mid n
  have hvgate := gate_found s n.corridor k i mid n
  have hlayout : (s.found n.corridor k i mid n).layout = s.layout := by rw [hfields]
  have hmillis : (s.found n.corridor k i mid n).millis = s.millis := by rw [hfields]
  have hmode : (s.found n.corridor k i mid n).mode = s.mode := by rw [hfields]
  have hbenches : (s.found n.corridor k i mid n).benches = s.benches := by rw [hfields]
  have hcars (m : CarriageName) : (s.found n.corridor k i mid n).car m = s.car m := by rw [hfields]; rfl
  have htiming : (s.found n.corridor k i mid n).timing n.corridor = s.timing n.corridor := by rw [State.timing, hlayout]; rfl
  have htoward : (s.found n.corridor k i mid n).homesToward n k = s.homesToward n k := by simp only [State.homesToward, hcars]
  generalize s.found n.corridor k i mid n = v at *
  have hcalm := Calm.finish s (v.edgeOne n.corridor k n e)
  have hsteady := Steady.finish s (v.edgeOne n.corridor k n e)
  have hquiet := EndsQuietly.finish s (v.edgeOne n.corridor k n e)
  have hwithin := (Within.edgeOne v n.corridor k n e).trans (.finish s _)
  obtain ⟨misses, outcome, hedge⟩ := edgeOne_gate v k n e
  have hother {m : CarriageName} (hne : m ≠ n) := (hcalm.cars m).trans ((edgeOne_other v k e hne).trans (congrArg Carriage.stand (hcars m)))
  have hends (j : Nat) : (s.finish (v.edgeOne n.corridor k n e)).gate n.corridor j = (v.edgeOne n.corridor k n e).gate n.corridor j := by
    simp only [State.gate, hcalm.gates]
  rw [hends, hedge, hvgate]
  refine ⟨hwithin.layout.trans hlayout, hwithin.millis.trans hmillis, rfl, rfl, rfl, fun m hne => ?_, fun h => ?_, fun h1 h2 h3 => ?_,
    fun h1 h2 h3 h4 => ?_, fun h1 h2 h3 h4 => ?_⟩
  · have hm := hother hne
    have hfield {α : Type} (f : Carriage → α) : f (State.car _ m).stand = f (s.car m).stand := congrArg f hm
    exact ⟨hfield Carriage.p, hfield Carriage.u, hfield Carriage.offset⟩
  all_goals
    have houtcome : outcome = ((v.edgeOne n.corridor k n e).gate n.corridor k).outcome := by rw [hedge]
    have hmisses : misses = ((v.edgeOne n.corridor k n e).gate n.corridor k).misses := by rw [hedge]
    clear hedge hwithin
    subst houtcome hmisses
  · have heq := edgeOne_attributed (s := v) (c := n.corridor) (k := k) (n := n) (e := e) (by rw [hcars]; exact h)
    rw [heq] at hcalm ⊢
    refine ⟨?_, hcalm.benches.trans hbenches, (hcalm.cars n).trans (congrArg Carriage.stand (hcars n))⟩
    rw [gate_modGate, if_pos ⟨rfl, rfl⟩]
  · have hnot : ¬ ((v.car n).state = .faulted ∨ (v.car n).state = .unplaced) := by rw [hcars]; grind
    have heq := edgeOne_homed (c := n.corridor) (e := e) hnot (by rw [htoward]; exact h3)
    rw [heq] at hcalm hsteady hquiet ⊢
    have hsucceeds := homingSucceeds_calm v n k e
    have hgates : (v.homingSucceeds n k e).gate n.corridor k = { v.gate n.corridor k with misses := 0, outcome := .homed } := by
      simp only [State.gate, hsucceeds.gates]
      exact (gate_modGate (v.setCar n ((v.car n).homedBy e)) n.corridor n.corridor k k _).trans (if_pos ⟨rfl, rfl⟩)
    have hself' : (v.homedAt n k e).car n = (v.car n).homedBy e := (car_homedAt ..).trans (if_pos rfl)
    rw [hgates]
    refine ⟨rfl, rfl, (hcalm.benches.trans hsucceeds.benches).trans hbenches, ?_, ⟨_, rfl, ?_, fun hh => ?_⟩, fun hh hconf => ?_, fun hh => ?_⟩
    · rw [hcalm.cars, hsucceeds.cars, hself', hcars]
      rfl
    · rw [homingSucceeds_eq]
      split
      · rw [car_modCar, if_pos rfl, hself']
        rfl
      · rw [(becomeIdle_touched (v.homedAt n k e) n).homing, hself']
        rfl
    · rw [homingSucceeds_eq, if_neg (by rw [hcars, hh]; decide)]
      exact becomeIdle_idled ..
    · have hidle : (v.homingSucceeds n k e).car n = ((v.car n).homedBy e).idleNow := by
        rw [homingSucceeds_eq, if_neg (by rw [hcars, hh]; decide), becomeIdle_configuring, hself']
        exact hmode.trans hconf
      have hend := (hquiet (((homingSucceeds_calm v n k e).mode.trans hmode).trans hconf)).cars n (by rw [hidle]; exact nofun)
      rw [hend, hidle]
      exact ⟨rfl, rfl, rfl, rfl⟩
    · have hhalted : (v.homingSucceeds n k e).car n = { (v.car n).homedBy e with remembered := some .idle } := by
        rw [homingSucceeds_eq, if_pos (by rw [hcars]; exact hh), car_modCar, if_pos rfl, hself']
      have hstate : ((v.homingSucceeds n k e).car n).state = .halted := by
        rw [hhalted]
        exact (congrArg Carriage.state (hcars n)).trans hh
      have hpost := hsteady.post (n := n) (by rw [hstate]; decide) (by rw [hstate]; decide)
      exact ⟨(congrArg (fun x => x.1) hpost).trans hstate, (congrArg (fun x => x.2.1) hpost).trans (congrArg Carriage.remembered hhalted)⟩
  · have hnot : ¬ ((v.car n).state = .faulted ∨ (v.car n).state = .unplaced) := by rw [hcars]; grind
    have heq := edgeOne_corrected (c := n.corridor) hnot (by rw [htoward]; exact h3) (by rw [hcars, htiming]; exact h4)
    have hcorrect := correct_eq (s := v) (n := n) (k := k) (e := e) (by rw [hcars, hpos]; exact nofun) (by rw [htiming]; exact htol)
    rw [heq, hcorrect] at hcalm ⊢
    have hgates : ((v.modGate n.corridor k fun g => { g with misses := 0, outcome := .corrected }).setCar n
        ((v.car n).correctedBy e (v.timing n.corridor).tol)).gate n.corridor k =
        { v.gate n.corridor k with misses := 0, outcome := .corrected } := by
      rw [gate_setCar, gate_modGate, if_pos ⟨rfl, rfl⟩]
    rw [hgates]
    refine ⟨rfl, rfl, hcalm.benches.trans hbenches, ?_⟩
    rw [hcalm.cars, State.car_setCar, if_pos rfl, hcars, htiming]
    rfl
  · have hnot : ¬ ((v.car n).state = .faulted ∨ (v.car n).state = .unplaced) := by rw [hcars]; grind
    have heq := edgeOne_rejected (c := n.corridor) (k := k) hnot (by rw [htoward]; exact h3) (by rw [hcars, htiming]; exact h4)
    rw [heq] at hcalm ⊢
    have hne : ((v.modGate n.corridor k fun g => { g with outcome := .rejected }).car n).state ≠ .faulted := fun h => hnot (.inl h)
    have hgates : ((v.modGate n.corridor k fun g => { g with outcome := .rejected }).fault n .positionLost none).gate n.corridor k =
        { v.gate n.corridor k with outcome := .rejected } := by
      have hrails := SameRails.fault (v.modGate n.corridor k fun g => { g with outcome := .rejected }) n .positionLost none
      simp only [State.gate, hrails.gates]
      exact (gate_modGate v n.corridor n.corridor k k _).trans (if_pos ⟨rfl, rfl⟩)
    have hfaulted := fault_car hne .positionLost none
    obtain ⟨hf, hkind, hstand⟩ := finish_faulted (b := s) (congrArg Carriage.state hfaulted)
    obtain ⟨hp', hoffset, hu⟩ := fault_position hne .positionLost none
    have hcar' : (v.modGate n.corridor k fun g => { g with outcome := .rejected }).car n = s.car n := hcars n
    rw [hcar'] at hp' hoffset hu
    rw [hgates]
    exact ⟨rfl, hf, hkind.trans (congrArg Carriage.faultKind hfaulted), (hcalm.p n).trans hp',
      (show (State.car _ n).stand.offset = (State.car _ n).stand.offset by rw [hcalm.cars]).trans hoffset, (hcalm.u n).trans hu⟩

end Sys2Proof.Machine
end

section
/-! PROOFS. Rising edges without one candidate: intrusions and ambiguous edges (R91, R103, R104). -/

namespace Sys2Proof.Machine

theorem modGate_modGate (s : State) (c : Corridor) (k : Nat) (g h : Gate → Gate) :
    (s.modGate c k g).modGate c k h = s.modGate c k fun x => h (g x) := by
  have hgate := gate_modGate s c c k k g
  rw [if_pos ⟨rfl, rfl⟩] at hgate
  rw [State.modGate, hgate]
  simp only [State.modGate, State.setGate, Two.get_set, if_true, Two.set_set, Table.put_put]

/-! ## Intrusions (R91, R104) -/

theorem adjoining_eq (s : State) (c : Corridor) (k : Nat) :
    s.adjoining c k = (s.segsInUse c).filter fun i => decide (i + 1 = k ∨ i = k) := by
  simp only [State.adjoining, Bool.decide_or]

theorem runningNear_iff (s : State) (c : Corridor) (k : Nat) :
    s.runningNear c k = true ↔ ∃ i ∈ s.segsInUse c, k ≤ i + 2 ∧ i ≤ k + 1 ∧ (s.seg c i).running ≠ none := by
  simp only [State.runningNear, List.any_eq_true, Bool.and_eq_true, decide_eq_true_eq, Option.isSome_iff_ne_none, and_assoc]

/-- The fences of an intrusion. -/
def State.fencedAt (s : State) (c : Corridor) (k : Nat) (l : List Nat) : State :=
  l.foldl (fun t i => t.setFence c i (.auto (.intrusion k))) s

/-- A change of segments and notices that names no carriage anew: fences alone. -/
structure Fences (s t : State) : Prop where
  fields : t = { s with segments := t.segments, links := t.links }
  layers : ∀ d j, (t.seg d j).running = (s.seg d j).running ∧ (t.seg d j).standing = (s.seg d j).standing

theorem Fences.refl (s : State) : Fences s s := ⟨rfl, fun _ _ => ⟨rfl, rfl⟩⟩

theorem Fences.trans {s t u : State} (h : Fences s t) (k : Fences t u) : Fences s u :=
  ⟨k.fields.trans (by rw [h.fields]), fun d j => ⟨(k.layers d j).1.trans (h.layers d j).1, (k.layers d j).2.trans (h.layers d j).2⟩⟩

theorem Fences.setFence (s : State) (c : Corridor) (k : Nat) (f : Fence) : Fences s (s.setFence c k f) := by
  constructor
  · cases h : (s.seg c k).fence with
    | none => rw [setFence_fresh h, offer_fields]
    | some g => rw [setFence_standing (by rw [h]; exact nofun)]
  · intro d j
    rw [seg_setFence]
    split
    · rename_i hdj
      obtain ⟨rfl, rfl⟩ := hdj
      exact ⟨rfl, rfl⟩
    · exact ⟨rfl, rfl⟩

theorem Fences.fencedAt (s : State) (c : Corridor) (k : Nat) (l : List Nat) : Fences s (s.fencedAt c k l) := by
  induction l generalizing s with
  | nil => exact .refl s
  | cons a rest ih => exact (Fences.setFence s c a _).trans (ih _)

/-- Every segment of the list is fenced, by the fence that stood or by the intrusion's. -/
theorem fencedAt_fence (s : State) (c : Corridor) (k : Nat) (l : List Nat) (j : Nat) (h : j ∈ l) :
    ((s.fencedAt c k l).seg c j).fence = some ((s.seg c j).fence.getD (.auto (.intrusion k))) := by
  have hkeep (l : List Nat) (t : State) (f : Fence) (hf : (t.seg c j).fence = some f) : ((t.fencedAt c k l).seg c j).fence = some f := by
    induction l generalizing t with
    | nil => exact hf
    | cons a rest ih =>
      refine ih _ ?_
      rw [seg_setFence]
      split
      · rename_i hja
        obtain ⟨-, rfl⟩ := hja
        simp [hf]
      · exact hf
  induction l generalizing s with
  | nil => exact absurd h (by simp)
  | cons a rest ih =>
    by_cases ha : j = a
    · subst ha
      refine hkeep rest _ _ ?_
      rw [seg_setFence, if_pos ⟨rfl, rfl⟩]
    · have hrest := ih (s.setFence c a (.auto (.intrusion k))) ((List.mem_cons.mp h).resolve_left ha)
      rw [seg_setFence, if_neg fun h => ha h.2] at hrest
      exact hrest

theorem intrude_eq (s : State) (c : Corridor) (k : Nat) : s.intrude c k =
    (if s.runningNear c k = true then
      ((s.modGate c k fun g => { g with outcome := .intrusion }).fencedAt c k (s.adjoining c k)).askBroadcast c
    else (s.modGate c k fun g => { g with outcome := .intrusion }).fencedAt c k (s.adjoining c k)).notifyAll (.intrusion c k) := rfl

/-- What an intrusion writes (R91, R104). -/
structure Intruded (s t : State) (c : Corridor) (k : Nat) : Prop where
  fields : t = { s with gates := t.gates, segments := t.segments, links := t.links, lines := t.lines }
  gate : t.gate c k = { s.gate c k with outcome := .intrusion }
  line : (t.line c).broadcast = ((s.line c).broadcast || s.runningNear c k)
  fences : ∀ j ∈ s.adjoining c k, (t.seg c j).fence = some ((s.seg c j).fence.getD (.auto (.intrusion k)))
  layers : ∀ d j, (t.seg d j).running = (s.seg d j).running ∧ (t.seg d j).standing = (s.seg d j).standing

theorem intrude_intruded (s : State) (c : Corridor) (k : Nat) : Intruded s (s.intrude c k) c k := by
  have hgate := gate_modGate s c c k k fun g => { g with outcome := .intrusion }
  rw [if_pos ⟨rfl, rfl⟩] at hgate
  have hfences := Fences.fencedAt (s.modGate c k fun g => { g with outcome := .intrusion }) c k (s.adjoining c k)
  have hfence := fencedAt_fence (s.modGate c k fun g => { g with outcome := .intrusion }) c k (s.adjoining c k)
  rw [intrude_eq]
  obtain ⟨hfields, hlayers⟩ := hfences
  generalize hu : (s.modGate c k fun g => { g with outcome := .intrusion }).fencedAt c k (s.adjoining c k) = u at *
  have hugate : u.gate c k = { s.gate c k with outcome := .intrusion } := by
    rw [← hgate, hfields]
    rfl
  have huline : u.line c = s.line c := by rw [hfields]; rfl
  have hufields : u = { s with gates := u.gates, segments := u.segments, links := u.links } := by
    rw [hfields]
    rfl
  have hnotice (v : State) (h : v = { u with lines := v.lines }) (hb : (v.line c).broadcast = ((s.line c).broadcast || s.runningNear c k)) :
      Intruded s (v.notifyAll (.intrusion c k)) c k := by
    have hvgate : v.gate c k = u.gate c k := by rw [h]; rfl
    have hvseg (d : Corridor) (j : Nat) : v.seg d j = u.seg d j := by rw [h]; rfl
    refine ⟨?_, hvgate.trans hugate, hb, fun j hj => ?_, fun d j => ?_⟩
    · rw [notifyAll_fields, h, hufields]
    · exact (congrArg Segment.fence (hvseg c j)).trans (hfence j hj)
    · obtain ⟨h1, h2⟩ := hlayers d j
      exact ⟨(congrArg Segment.running (hvseg d j)).trans h1, (congrArg Segment.standing (hvseg d j)).trans h2⟩
  split
  · rename_i hnear
    refine hnotice _ rfl ?_
    rw [State.askBroadcast, State.line_modLine, hnear, Bool.or_true]
  · rename_i hnear
    refine hnotice u rfl ?_
    rw [huline, Bool.not_eq_true _ |>.mp hnear, Bool.or_false]

/-- Settles O51: candidates, intrusions, and edges that are ambiguous. -/
theorem risingEdgeWithoutOneCandidate : Obligations.RisingEdgeWithoutOneCandidate := by
  refine ⟨mem_edgeCandidates, fun s u c k => ⟨adjoining_eq s c k, runningNear_iff s c k, ?_⟩, fun s c k mid hp ho =>
    ⟨fun h => ?_, fun i hi hlevel hout => ?_, fun i hi hlevel hin hnone => ?_, fun i g hi hlevel hin hpos hmany => ?_⟩⟩
  · rintro rfl
    rfl
  · rw [exec_gateRisingEdge hp, edgeUp_of_not h, State.finish_of_same s s ho fun _ => rfl]
  · rw [exec_gateRisingEdge hp, edgeUp_out hi hlevel hout, finish_of_rails ho (filterTo_fields ..)]
  · have hup : s.edgeUp c k mid = (s.edged c k i mid).intrude c k := by
      rw [edgeUp_in hi hlevel hin]
      cases hpos : s.layout.gatePos c k with
      | none => rfl
      | some g => simp only [hnone g hpos]
    have hfields := edged_fields s c k i mid
    have hgate := gate_edged s c k i mid
    have hseg (d : Corridor) (j : Nat) : (s.edged c k i mid).seg d j = s.seg d j := by rw [hfields]; rfl
    have hnear : (s.edged c k i mid).runningNear c k = s.runningNear c k := by rw [hfields]; rfl
    have hadj : (s.edged c k i mid).adjoining c k = s.adjoining c k := by rw [hfields]; rfl
    have hline : (s.edged c k i mid).line c = s.line c := by rw [hfields]; rfl
    obtain ⟨htfields, htgate, htline, htfences, htlayers⟩ := intrude_intruded (s.edged c k i mid) c k
    rw [hgate] at htgate
    rw [hnear, hline] at htline
    rw [hadj] at htfences
    have hsame : s.finish ((s.edged c k i mid).intrude c k) = (s.edged c k i mid).intrude c k := by
      refine State.finish_of_same s _ ?_ fun d => ?_
      · rw [htfields, hfields]
        exact ho
      · rw [htfields, hfields]
        rfl
    refine ⟨(s.edged c k i mid).intrude c k, ?_, ?_, ?_, ?_, ?_, ?_, ?_, ?_, ?_, htline, fun j hj hadjoins => ?_, fun d j => ?_, fun n => ?_⟩
    · rw [exec_gateRisingEdge hp, hup, hsame]
    · rintro u rfl
      rfl
    · rw [htfields, hfields]
      rfl
    · rw [htgate]; rfl
    · rw [htgate]
    · rw [htgate]; rfl
    · rw [htgate]; rfl
    · rw [htgate]; rfl
    · rw [htgate]; rfl
    · have hmem : j ∈ s.adjoining c k := by
        rw [adjoining_eq, List.mem_filter]
        exact ⟨hj, by simpa using hadjoins⟩
      rw [htfences j hmem, hseg]
      cases (s.seg c j).fence <;> rfl
    · rw [← hseg]
      exact htlayers d j
    · rw [htfields, hfields]
      rfl
  · have hup : s.edgeUp c k mid = (s.edged c k i mid).modGate c k fun g => { g with outcome := .ambiguous } := by
      rw [edgeUp_in hi hlevel hin]
      simp only [hpos]
      generalize s.edgeCandidates c (g : Int) = l at *
      match l, hmany with
      | _ :: _ :: _, _ => rfl
    rw [exec_gateRisingEdge hp, hup, finish_of_rails ho rfl, State.edged, modGate_modGate]
    rfl

end Sys2Proof.Machine
end

section
/-! PROOFS. Closings of a stop loop (R159). -/

namespace Sys2Proof.Machine

/-! ## One carriage returns -/

theorem resume_running {s : State} {n : CarriageName} (h : (s.car n).state = .halted) (hr : (s.car n).remembered = some .running) :
    s.resume n = s.setCar n { s.car n with state := .running, remembered := none } := by
  simp only [State.resume, h, hr]
  rfl

theorem resume_homing {s : State} {n : CarriageName} (h : (s.car n).state = .halted) (hr : (s.car n).remembered = some .homing) :
    s.resume n = s.setCar n { s.car n with
      state := .homing, remembered := none, homing := (s.car n).homing.map fun h => { h with start := s.millis } } := by
  simp only [State.resume, h, hr]
  rfl

theorem resume_docked {s : State} {n : CarriageName} (h : (s.car n).state = .halted) (hr : (s.car n).remembered = some .docked) :
    s.resume n = ((s.setCar n { s.car n with state := .docked, remembered := none }).convert n).lockRequest n := by
  simp only [State.resume, h, hr]
  rfl

theorem resume_idle {s : State} {n : CarriageName} (h : (s.car n).state = .halted) (hr : (s.car n).remembered = some .idle) :
    s.resume n = s.becomeIdle n := by
  simp only [State.resume, h, hr]

theorem resume_of_not_halted {s : State} {n : CarriageName} (h : (s.car n).state ≠ .halted) : s.resume n = s := by
  unfold State.resume
  split
  · rename_i hs _; exact absurd hs h
  · rename_i hs _; exact absurd hs h
  · rename_i hs _; exact absurd hs h
  · rename_i hs _; exact absurd hs h
  · rfl

theorem resume_of_nothing {s : State} {n : CarriageName} (hr : (s.car n).remembered = none) : s.resume n = s := by
  unfold State.resume
  split
  · rename_i hs; exact absurd (hr.symm.trans hs) nofun
  · rename_i hs; exact absurd (hr.symm.trans hs) nofun
  · rename_i hs; exact absurd (hr.symm.trans hs) nofun
  · rename_i hs; exact absurd (hr.symm.trans hs) nofun
  · rfl

/-! ## The lock request -/

theorem startTransfer_other {s : State} {n m : CarriageName} (hne : m ≠ n) : (s.startTransfer n).car m = s.car m := by
  have hmod (g : Carriage → Carriage) : (s.modCar n g).car m = s.car m := (car_modCar ..).trans (if_neg hne)
  simp only [State.startTransfer]
  split
  · split
    · rw [car_modOrder, hmod]
    · rfl
  · rfl

theorem startTransfer_self (s : State) (n : CarriageName) : (s.startTransfer n).car n = s.car n ∨
    (((s.startTransfer n).car n).state = .transferring ∧ ((s.startTransfer n).car n).remembered = (s.car n).remembered) := by
  have hmod (g : Carriage → Carriage) : (s.modCar n g).car n = g (s.car n) := (car_modCar ..).trans (if_pos rfl)
  simp only [State.startTransfer]
  split
  · split
    · rw [car_modOrder, hmod]
      exact .inr ⟨rfl, rfl⟩
    · exact .inl rfl
  · exact .inl rfl

theorem lockRequest_other {s : State} {n m : CarriageName} (hne : m ≠ n) : (s.lockRequest n).car m = s.car m := by
  simp only [State.lockRequest]
  split
  · rfl
  · split
    · split
      · exact startTransfer_other hne
      · rfl
    · exact startTransfer_other hne

theorem lockRequest_self (s : State) (n : CarriageName) : (s.lockRequest n).car n = s.car n ∨
    (((s.lockRequest n).car n).state = .transferring ∧ ((s.lockRequest n).car n).remembered = (s.car n).remembered) := by
  simp only [State.lockRequest]
  split
  · exact .inl rfl
  · split
    · split
      · exact startTransfer_self ..
      · exact .inl rfl
    · exact startTransfer_self ..

theorem lockRequest_rails (s : State) (n : CarriageName) : SameRails s (s.lockRequest n) := by
  have hstart (t : State) : SameRails t (t.startTransfer n) := by
    obtain ⟨_, _, h, -⟩ := startTransfer_shape t n
    rw [h]
    exact ⟨rfl, rfl⟩
  have hlane (k : Nat) (g : Lane → Lane) : SameRails s (s.modLane k g) := ⟨rfl, rfl⟩
  simp only [State.lockRequest]
  split
  · exact .refl s
  · split
    · split
      · exact (hlane ..).trans (hstart _)
      · exact hlane ..
    · exact hstart s

theorem resume_rails (s : State) (n : CarriageName) : SameRails s (s.resume n) := by
  have hset (v : Carriage) : SameRails s (s.setCar n v) := ⟨rfl, rfl⟩
  by_cases h : (s.car n).state = .halted
  · cases hr : (s.car n).remembered with
    | none => rw [resume_of_nothing hr]; exact .refl s
    | some r =>
      cases r with
      | running => rw [resume_running h hr]; exact hset _
      | homing => rw [resume_homing h hr]; exact hset _
      | docked =>
        rw [resume_docked h hr]
        exact ((hset _).trans (.of_calm (Calm.convert ..))).trans (lockRequest_rails ..)
      | idle => rw [resume_idle h hr]; exact .of_calm (Calm.becomeIdle ..)
  · rw [resume_of_not_halted h]
    exact .refl s

/-! ## The others' turns -/

/-- A carriage that does not return to IDLE at a closing. -/
def Carriage.Working (v : Carriage) : Prop := v.state = .halted → v.remembered ≠ some .idle

theorem Touched.working {v w : Carriage} (h : Touched v w) (hv : v.Working) : w.Working := by
  obtain ⟨a, b, rfl | ⟨_, _, _, _, _, _, _, rfl⟩⟩ := h
  · exact hv
  · exact nofun

/-- The return of a carriage that does not become IDLE: the others are touched by the retries of its conversion at most, and it
does not become IDLE at a later turn. -/
theorem resume_working {s : State} {n : CarriageName} (hn : (s.car n).Working) :
    (∀ m, m ≠ n → Touched (s.car m) ((s.resume n).car m)) ∧ ((s.resume n).car n).Working := by
  have hset (v : Carriage) {m : CarriageName} (hne : m ≠ n) : (s.setCar n v).car m = s.car m := (State.car_setCar ..).trans (if_neg hne)
  have hself (v : Carriage) : (s.setCar n v).car n = v := (State.car_setCar ..).trans (if_pos rfl)
  by_cases h : (s.car n).state = .halted
  · cases hr : (s.car n).remembered with
    | none =>
      rw [resume_of_nothing hr]
      exact ⟨fun m _ => .refl _, hn⟩
    | some r =>
      cases r with
      | running =>
        rw [resume_running h hr]
        refine ⟨fun m hne => by rw [hset _ hne]; exact .refl _, ?_⟩
        rw [hself]
        exact nofun
      | homing =>
        rw [resume_homing h hr]
        refine ⟨fun m hne => by rw [hset _ hne]; exact .refl _, ?_⟩
        rw [hself]
        exact nofun
      | docked =>
        rw [resume_docked h hr]
        have hconvert := Tracked.convert (s.setCar n { s.car n with state := .docked, remembered := none }) n
        refine ⟨fun m hne => ?_, ?_⟩
        · have hm := hconvert.cars m
          rw [hset _ hne] at hm
          rwa [lockRequest_other hne]
        · have hm := hconvert.cars n
          rw [hself] at hm
          rcases lockRequest_self ((s.setCar n { s.car n with state := .docked, remembered := none }).convert n) n with hsame | ⟨hstate, -⟩
          · rw [hsame]
            exact hm.working nofun
          · intro hhalted
            exact absurd (hstate.symm.trans hhalted) nofun
      | idle => exact absurd hr (hn h)
  · rw [resume_of_not_halted h]
    exact ⟨fun m _ => .refl _, hn⟩

/-- One carriage's turn at a closing that makes none IDLE: the turns of the others touch it at most. -/
theorem closing_turn {s : State} {n : CarriageName} {l : List CarriageName} (hn : n ∈ l) (hnd : l.Nodup)
    (h : ∀ m ∈ l, (s.car m).Working) :
    ∃ u : State, Touched (s.car n) (u.car n) ∧ (u.car n).Working ∧ Touched ((u.resume n).car n) ((l.foldl State.resume s).car n) := by
  have hstep (t : State) (m : CarriageName) (hm : m ∈ l) (ht : ∀ m ∈ l, (t.car m).Working) : ∀ j ∈ l, ((t.resume m).car j).Working := by
    obtain ⟨hother, hself⟩ := resume_working (ht m hm)
    intro j hj
    by_cases hjm : j = m
    · subst hjm
      exact hself
    · exact (hother j hjm).working (ht j hj)
  obtain ⟨u, hbefore, hafter⟩ := foldl_turn
    (R := fun s t => (∀ m ∈ l, (s.car m).Working) → (∀ m ∈ l, (t.car m).Working) ∧ Touched (s.car n) (t.car n))
    (fun s hs => ⟨hs, .refl _⟩)
    (fun {s t u} h k hs => by
      obtain ⟨h1, h2⟩ := h hs
      obtain ⟨k1, k2⟩ := k h1
      exact ⟨k1, h2.trans k2⟩)
    (fun t m hm hne ht => ⟨hstep t m hm ht, (resume_working (ht m hm)).1 n (Ne.symm hne)⟩) hn hnd s
  obtain ⟨hworking, htouched⟩ := hbefore h
  exact ⟨u, htouched, hworking n hn, (hafter (hstep u n hn hworking)).2⟩

/-- A closing at which one carriage alone is HALTED, and stays alone. -/
theorem closing_alone {s : State} {n : CarriageName} {l : List CarriageName} (hn : n ∈ l) (hnd : l.Nodup)
    (hbefore : ∀ m ∈ l, m ≠ n → (s.car m).state ≠ .halted) (hafter : ∀ m ∈ l, m ≠ n → ((s.resume n).car m).state ≠ .halted) :
    l.foldl State.resume s = s.resume n := by
  obtain ⟨u, hu, hend⟩ := foldl_turn (f := State.resume) (R := fun s t => (∀ m ∈ l, m ≠ n → (s.car m).state ≠ .halted) → t = s)
    (fun _ _ => rfl)
    (fun {s t u} h k hs => by
      obtain rfl := h hs
      exact k hs)
    (fun t m hm hne ht => resume_of_not_halted (ht m hm hne)) hn hnd s
  obtain rfl := hu hbefore
  exact hend hafter

theorem becomeIdle_configuring_other {s : State} {n m : CarriageName} (h : s.mode = .configuring) (hshift : (s.car n).onShift = false)
    (hne : m ≠ n) : (s.becomeIdle n).car m = s.car m := by
  simp only [State.becomeIdle, hshift, Bool.false_eq_true, if_false]
  exact ((SameCars.convert (s := s.modCar n Carriage.idleNow) h n).car m).trans ((car_modCar ..).trans (if_neg hne))

/-! ## The row -/

/-- The unit as a loop closes, before its carriages return (R159). -/
def State.closed (s : State) (c : Corridor) (mid : LoopState) : State :=
  (s.modStop c fun _ => stopRecord .closed mid).notifyAll (.stopClosed c)

theorem closed_eq (s : State) (c : Corridor) (mid : LoopState) : s.closed c mid =
    ({ s with stops := s.stops.set c (stopRecord .closed mid) } : State).notifyAll (.stopClosed c) := rfl

theorem loopTurned_closed (s : State) (c : Corridor) (mid : LoopState) : LoopTurned s (s.closed c mid) c mid .closed := by
  rw [closed_eq, notifyAll_fields]
  exact ⟨rfl, rfl, fun _ => rfl, rfl, fun d => Two.get_set ..⟩

theorem closed_mode (s : State) (c : Corridor) (mid : LoopState) : (s.closed c mid).mode = s.mode := by
  rw [closed_eq, notifyAll_fields]

theorem closed_lines (s : State) (c : Corridor) (mid : LoopState) : (s.closed c mid).lines = s.lines := by
  rw [closed_eq, notifyAll_fields]

theorem execStopClosed_opened {s : State} {c : Corridor} (hp : s.powered = true) (h : (s.stop c).loop = .opened) (mid : LoopState) :
    exec (.stopClosed c mid) s = .next (s.finish (((s.carsOf c).foldl State.resume (s.closed c mid)).owe c)) := by
  have hclosed : (s.stop c).loop ≠ .closed := by rw [h]; decide
  have hloop : s.closeLoop c mid = ((s.carsOf c).foldl State.resume (s.closed c mid)).owe c := by
    simp only [State.closeLoop, if_neg hclosed]
    rfl
  exact congrArg Host.Outcome.next ((if_pos hp).trans (congrArg s.finish hloop))

/-- The post of a carriage after requests of the reservation table, and the leg of its work. -/
theorem Touched.work {v w : Carriage} (h : Touched v w) (hv : v.state ≠ .idle) :
    w.state = v.state ∧ w.remembered = v.remembered ∧ w.leg = v.leg := by
  rw [h.of_not_idle hv]
  exact ⟨rfl, rfl, rfl⟩

theorem Steady.work {s t : State} (h : Steady s t) {n : CarriageName} (h1 : (s.car n).state ≠ .idle) (h2 : (s.car n).state ≠ .unhomed) :
    (t.car n).state = (s.car n).state ∧ (t.car n).remembered = (s.car n).remembered ∧ (t.car n).leg = (s.car n).leg := by
  have hdoing := h n h1 h2
  simp only [Carriage.doing, Prod.mk.injEq] at hdoing
  obtain ⟨hstate, hrem, -, -, hleg, -⟩ := hdoing
  exact ⟨hstate, hrem, hleg⟩

/-- A halted carriage that returns to work, to the end of the event. -/
theorem closing_ends {v b : State} {n : CarriageName} {c : Corridor} {l : List CarriageName} (hn : n ∈ l) (hnd : l.Nodup)
    (hall : ∀ m ∈ l, (v.car m).Working) (h : (v.car n).state = .halted) :
    ∃ u : State, (u.car n).state = .halted ∧ (u.car n).remembered = (v.car n).remembered ∧ (u.car n).leg = (v.car n).leg ∧
      (((u.resume n).car n).state ≠ .idle → ((u.resume n).car n).state ≠ .unhomed →
        ((b.finish ((l.foldl State.resume v).owe c)).car n).state = ((u.resume n).car n).state ∧
        ((b.finish ((l.foldl State.resume v).owe c)).car n).remembered = ((u.resume n).car n).remembered ∧
        ((b.finish ((l.foldl State.resume v).owe c)).car n).leg = ((u.resume n).car n).leg) := by
  obtain ⟨u, hbefore, -, hafter⟩ := closing_turn hn hnd hall
  obtain ⟨hstate, hrem, hleg⟩ := hbefore.work (by rw [h]; decide)
  refine ⟨u, hstate.trans h, hrem, hleg, fun h1 h2 => ?_⟩
  obtain ⟨kstate, krem, kleg⟩ := hafter.work h1
  obtain ⟨estate, erem, eleg⟩ := (Steady.finish b ((l.foldl State.resume v).owe c)).work (n := n)
    (by rw [State.car_owe, kstate]; exact h1) (by rw [State.car_owe, kstate]; exact h2)
  exact ⟨estate.trans kstate, erem.trans krem, eleg.trans kleg⟩

/-- Settles O55: what a closing does to each carriage of its corridor. -/
theorem closingReturnsTheHalted : Obligations.ClosingReturnsTheHalted := by
  refine ⟨fun s c mid hp => ⟨fun ho hclosed => ?_, fun hopen => ⟨?_, _, execStopClosed_opened hp hopen mid, ?_⟩⟩,
    fun s n h => ⟨fun hr => ?_, fun hr => ?_, fun hr => ?_, fun hr => ?_⟩⟩
  · have hsame : s.closeLoop c mid = s := by simp only [State.closeLoop, if_pos hclosed]
    exact congrArg Host.Outcome.next ((event_of_same hp (by rw [hsame]; exact ho) (by rw [hsame]; exact fun _ => rfl)).trans hsame)
  · intro u hu
    subst hu
    exact execStopClosed_opened hp hopen mid
  · have hturned := loopTurned_closed s c mid
    have hmode := closed_mode s c mid
    have hlines := closed_lines s c mid
    generalize s.closed c mid = v at *
    obtain ⟨hlayout, hmillis, hcars, -, hstop⟩ := hturned
    have hfold : Within v (((s.carsOf c).foldl State.resume v).owe c) := (Within.foldl _ (fun t n => within_resume t n) _ v).trans (.owe ..)
    have hwithin := hfold.trans (.finish s _)
    have hcalm := Calm.finish s (((s.carsOf c).foldl State.resume v).owe c)
    have hrails : SameRails v (s.finish (((s.carsOf c).foldl State.resume v).owe c)) := by
      have hall (l : List CarriageName) (t : State) : SameRails t (l.foldl State.resume t) := by
        induction l generalizing t with
        | nil => exact .refl t
        | cons a rest ih => exact (resume_rails t a).trans (ih _)
      have howe (t : State) : SameRails t (t.owe c) := ⟨rfl, rfl⟩
      exact ((hall _ v).trans (howe _)).trans (.of_calm hcalm)
    have hstops (d : Corridor) : (s.finish (((s.carsOf c).foldl State.resume v).owe c)).stop d =
        if d = c then stopRecord .closed mid else s.stop d := by
      rw [← hstop]
      exact congrArg (Two.get · d) hwithin.stops
    refine ⟨hwithin.layout.trans hlayout, hwithin.millis.trans hmillis, ?_, ?_, hrails.lines.trans hlines, ?_, fun hall n hn h => ?_,
      fun n hn hconf h hr htask hothers => ?_⟩
    · rw [hstops, if_pos rfl]
      rfl
    · rw [hstops, if_pos rfl]
      rfl
    · rw [hstops, if_neg (by cases c <;> decide)]
    · obtain ⟨u, hstate, hrem, hleg, hend⟩ := closing_ends (v := v) (b := s) (c := c) hn (carsOf_nodup s c)
        (fun m hm => by rw [hcars]; exact hall m hm) (by rw [hcars]; exact h)
      rw [hcars] at hrem hleg
      refine ⟨fun hr => ?_, fun hr => ?_, fun hr => ?_⟩
      · rw [resume_running hstate (hrem.trans hr), State.car_setCar, if_pos rfl] at hend
        obtain ⟨h1, h2, h3⟩ := hend nofun nofun
        exact ⟨h1, h2, h3.trans hleg⟩
      · rw [resume_homing hstate (hrem.trans hr), State.car_setCar, if_pos rfl] at hend
        obtain ⟨h1, h2, h3⟩ := hend nofun nofun
        exact ⟨h1, h2, h3.trans hleg⟩
      · rw [resume_docked hstate (hrem.trans hr)] at hend
        have htouched := (Tracked.convert (u.setCar n { u.car n with state := .docked, remembered := none }) n).cars n
        rw [State.car_setCar, if_pos rfl] at htouched
        obtain ⟨cstate, crem, -⟩ := htouched.work nofun
        generalize (u.setCar n { u.car n with state := .docked, remembered := none }).convert n = w at *
        rcases lockRequest_self w n with hsame | ⟨htrans, hkeeps⟩
        · rw [hsame] at hend
          obtain ⟨h1, h2, -⟩ := hend (by rw [cstate]; exact nofun) (by rw [cstate]; exact nofun)
          exact ⟨.inl (h1.trans cstate), h2.trans crem⟩
        · obtain ⟨h1, h2, -⟩ := hend (by rw [htrans]; decide) (by rw [htrans]; decide)
          exact ⟨.inr (h1.trans htrans), (h2.trans hkeeps).trans crem⟩
    · have hshift : (v.car n).onShift = false := by rw [hcars, Carriage.onShift, htask]
      have hself := becomeIdle_configuring (hmode.trans hconf) n
      have hresume := resume_idle (s := v) (n := n) (by rw [hcars]; exact h) (by rw [hcars]; exact hr)
      have hfold := closing_alone (s := v) hn (carsOf_nodup s c) (fun m hm hne => by rw [hcars]; exact hothers m hm hne)
        (fun m hm hne => by
          rw [hresume, becomeIdle_configuring_other (hmode.trans hconf) hshift hne, hcars]
          exact hothers m hm hne)
      rw [hfold, hresume]
      have hend := (EndsQuietly.finish s ((v.becomeIdle n).owe c) ((Calm.becomeIdle v n).mode.trans (hmode.trans hconf))).cars n
        (by rw [State.car_owe, hself]; exact nofun)
      rw [hend, State.car_owe, hself]
      exact ⟨rfl, rfl⟩
  · rw [resume_idle h hr]
    exact becomeIdle_idled s n
  · exact resume_running h hr
  · exact resume_homing h hr
  · exact resume_docked h hr

end Sys2Proof.Machine
end

section
/-! PROOFS. CANCEL and ABORT (R55 to R57). -/

namespace Sys2Proof.Machine

/-! ## The end of an order as a request writes it -/

theorem unclaimed_congr {s t : State} (h : t.benches = s.benches) (o : Order) : (t.unclaimed o).benches = (s.unclaimed o).benches := by
  have hbench (b : Nat) : t.bench? b = s.bench? b := congrArg (Table.get? · b) h
  unfold State.unclaimed
  cases o.bench with
  | none => exact h
  | some b =>
    simp only [State.unclaim, State.modBench, hbench]
    cases s.bench? b with
    | none => exact h
    | some v => simp only [State.setBench, h]

theorem giveBack_benches (s : State) (o : Order) (st : EndState) : (s.giveBack o st).benches = (s.unclaimed o).benches := by
  have hunheld (u : State) : (u.unheld o).benches = u.benches := by
    unfold State.unheld
    cases o.phase <;> cases o.srcLane <;> rfl
  rw [giveBack_eq]
  split
  · exact hunheld _
  · exact hunheld _

theorem unheld_congr {s t : State} (h : t.lanes = s.lanes) (o : Order) : (t.unheld o).lanes = (s.unheld o).lanes := by
  have hlane (k : Nat) : t.lane k = s.lane k := congrArg (fun x : Table Lane => (x.get? k).getD Lane.blank) h
  unfold State.unheld
  cases o.phase <;> cases o.srcLane <;> simp only [State.decOutgoing, State.modLane, State.setLane, hlane, h]

theorem giveBack_lanes_congr {s t : State} (h : t.lanes = s.lanes) (o : Order) (st : EndState) :
    (t.giveBack o st).lanes = (s.giveBack o st).lanes := by
  have hunclaimed (u : State) : (u.unclaimed o).lanes = u.lanes := by
    unfold State.unclaimed
    split
    · rename_i b _
      obtain ⟨y, hy, -⟩ := modBench_shape u b fun v => if v.claim = some o.id then { v with claim := none } else v
      rw [State.unclaim, hy]
    · rfl
  have hunheld := unheld_congr (s := s.unclaimed o) (t := t.unclaimed o) (by rw [hunclaimed, hunclaimed, h]) o
  have hlane (k : Nat) : ((t.unclaimed o).unheld o).lane k = ((s.unclaimed o).unheld o).lane k :=
    congrArg (fun x : Table Lane => (x.get? k).getD Lane.blank) hunheld
  rw [giveBack_eq, giveBack_eq]
  split
  · exact hunheld
  · simp only [State.decIncoming, State.modLane, State.setLane, hlane, hunheld]

theorem giveBack_takeLine (s : State) (l : LinkId) (w : ReqWord) (o : Order) (st : EndState) :
    (s.takeLine l w).giveBack o st = (s.giveBack o st).takeLine l w := by
  have hbenches : ((s.takeLine l w).giveBack o st).benches = (s.giveBack o st).benches := by
    rw [giveBack_benches, giveBack_benches]
    exact unclaimed_congr (s := s) (t := s.takeLine l w) rfl o
  have hlanes : ((s.takeLine l w).giveBack o st).lanes = (s.giveBack o st).lanes :=
    giveBack_lanes_congr (s := s) (t := s.takeLine l w) rfl o st
  rw [giveBack_fields (s.takeLine l w), hbenches, hlanes, giveBack_fields s]
  rfl

/-- Beyond its returns and the book, the end of an order is notices, the carriage's work and runs owed. -/
theorem endOrder_calm {s : State} {id : Nat} {o : Order} (h : s.order? id = some o) (st : EndState) (reason : Option EndReason) :
    Calm { s.giveBack o st with book := s.book.filter fun q => decide (q.id ≠ id) } (s.endOrder id st reason) := by
  have hcars (m : CarriageName) : ((s.leftBy o).car m).stand = (s.car m).stand := by
    rw [leftBy_car]
    split <;> rfl
  have hports := (Calm.offer s (o.ended st reason)).ports
  have hgive := giveBack_fields s o st
  obtain ⟨x, hx⟩ := endOrder_shape h st reason
  rw [hx]
  generalize (s.giveBack o st).benches = benches at hgive ⊢
  generalize (s.giveBack o st).lanes = lanes at hgive ⊢
  rw [hgive]
  exact ⟨rfl, fun _ => rfl, hports, hcars, rfl⟩

theorem endOrder_calm_takeLine {s : State} {id : Nat} {o : Order} (h : s.order? id = some o) (l : LinkId) (w : ReqWord)
    (st : EndState) (reason : Option EndReason) :
    Calm (({ s.giveBack o st with book := s.book.filter fun q => decide (q.id ≠ id) } : State).takeLine l w)
      ((s.takeLine l w).endOrder id st reason) := by
  have hcalm := endOrder_calm (s := s.takeLine l w) h st reason
  rw [giveBack_takeLine] at hcalm
  exact hcalm

theorem endAndWithdraw_calm (s : State) (o : Order) (st : EndState) : Calm (s.endOrder o.id st none) (s.endAndWithdraw o st) := by
  simp only [State.endAndWithdraw]
  split
  · exact .withdraw ..
  · exact .refl _

theorem endAndWithdraw_held {s : State} {o : Order} {n : CarriageName} (hn : o.carriage = some n) (ha : (s.car n).assigned = some o.id)
    (st : EndState) : s.endAndWithdraw o st = (s.endOrder o.id st none).withdraw n := by
  simp only [State.endAndWithdraw, State.holder, hn, Option.bind_some, if_pos ha]

theorem endAndWithdraw_unheld {s : State} {o : Order} (h : ∀ n, o.carriage = some n → (s.car n).assigned ≠ some o.id) (st : EndState) :
    s.endAndWithdraw o st = s.endOrder o.id st none := by
  have hnone : s.holder o = none := by
    unfold State.holder
    cases hn : o.carriage with
    | none => rfl
    | some n => exact if_neg (h n hn)
  simp only [State.endAndWithdraw, hnone]

/-! ## Lock waits -/

/-- No lane has a carriage waiting that it had not. -/
structure WaitsLess (s t : State) : Prop where
  waits : ∀ k m, (t.lane k).waiting = some m → (s.lane k).waiting = some m

namespace WaitsLess

theorem refl (s : State) : WaitsLess s s := ⟨fun _ _ h => h⟩

theorem trans {s t u : State} (h : WaitsLess s t) (k : WaitsLess t u) : WaitsLess s u := ⟨fun i m hm => h.waits i m (k.waits i m hm)⟩

theorem of_lanes {s t : State} (h : t.lanes = s.lanes) : WaitsLess s t := by
  refine ⟨fun k m hm => ?_⟩
  rwa [State.lane, h] at hm

theorem withdrawWait (s : State) (n : CarriageName) : WaitsLess s (s.withdrawWait n) :=
  ⟨fun _ _ => HaltsQuietly.withdrawWait_waiting⟩

theorem shiftFailed (s : State) (n : CarriageName) : WaitsLess s (s.shiftFailed n) := by
  refine of_lanes ?_
  simp only [State.shiftFailed]
  split
  · rfl
  · rename_i w _
    cases (s.car w).assigned <;> rfl

theorem enterFaulted (s : State) (n : CarriageName) (k : FaultKind) (code : Option Nat) : WaitsLess s (s.enterFaulted n k code) := by
  have hself : WaitsLess s (((s.withdrawWait n).unwait n).modCar n fun v => v.faultedBy k code) := (withdrawWait s n).trans (of_lanes rfl)
  have howe (t : State) : WaitsLess t (t.owe n.corridor) := of_lanes rfl
  simp only [State.enterFaulted]
  split
  · exact (hself.trans (shiftFailed _ n)).trans (howe _)
  · exact hself.trans (howe _)

theorem notifyAll (s : State) (b : NoticeBody) : WaitsLess s (s.notifyAll b) := of_lanes rfl

theorem startWork (s : State) (n : CarriageName) : WaitsLess s (s.startWork n) := by
  simp only [State.startWork]
  split
  · split
    · refine of_lanes ?_
      simp only [State.startOrder]
      split
      · rfl
      · split <;> rfl
    · simp only [State.enterHoming]
      split
      · exact of_lanes (by rfl)
      · exact (enterFaulted ..).trans (notifyAll ..)
    · exact refl s
  · exact refl s

theorem endShift (s : State) (n : CarriageName) : WaitsLess s (s.endShift n) := by
  simp only [State.endShift]
  split
  · exact of_lanes (by rfl)
  · split
    · split
      · exact (of_lanes (by rfl)).trans (startWork ..)
      · exact of_lanes (by rfl)
    · exact of_lanes (by rfl)

theorem becomeIdle (s : State) (n : CarriageName) : WaitsLess s (s.becomeIdle n) := by
  have hidle : WaitsLess s (((s.modCar n Carriage.idleNow).convert n).owe n.corridor) :=
    of_lanes (Tracked.convert (s.modCar n Carriage.idleNow) n).lanes
  simp only [State.becomeIdle]
  split
  · exact hidle.trans (endShift ..)
  · exact hidle

end WaitsLess

/-! ## CANCEL -/

theorem committed_iff (o : Order) : o.committed = true ↔ o.phase = .pulling ∨ o.phase = .carrying ∨ o.phase = .pushing := by
  cases h : o.phase <;> simp [Order.committed, h]

theorem serveCancel_eq {l : LinkId} {s : State} {id : Nat} {o : Order} (h1 : 1 ≤ id) (h2 : id ≤ 65535) (h : s.order? id = some o) :
    serveCancel l s id =
      if o.link ≠ l ∧ s.permits l .override = false then refuse s .denied
      else if o.committed then refuse s .committed
      else okWith (s.endAndWithdraw o .cancelled) [] := by
  simp only [serveCancel, (orderNo_iff id).mpr ⟨h1, h2⟩, Bool.not_true, Bool.false_eq_true, if_false, h]

theorem withdraw_idle {s : State} {n : CarriageName} (h : (s.car n).state = .idle) :
    s.withdraw n = s.setCar n { s.car n with task := none } := by
  have heq : s.withdraw n = s.modCar n fun v => { v with task := none } := by simp only [State.withdraw, h]
  exact heq

theorem withdraw_halted {s : State} {n : CarriageName} (h : (s.car n).state = .halted) :
    s.withdraw n = s.setCar n { s.car n with remembered := some .idle } := by
  have heq : s.withdraw n = s.modCar n fun v => { v with remembered := some .idle } := by simp only [State.withdraw, h]
  exact heq

theorem withdraw_docked {s : State} {n : CarriageName} (h : (s.car n).state = .docked) :
    s.withdraw n = (s.withdrawWait n).becomeIdle n := by
  simp only [State.withdraw, h]

theorem withdraw_otherwise {s : State} {n : CarriageName} (h1 : (s.car n).state ≠ .idle) (h2 : (s.car n).state ≠ .halted)
    (h3 : (s.car n).state ≠ .docked) : s.withdraw n = s := by
  unfold State.withdraw
  split
  · rename_i h; exact absurd h h1
  · rename_i h; exact absurd h h3
  · rename_i h; exact absurd h h2
  · rfl

/-- Settles O38: by range, book, permission and phase; the end of the order and the withdrawal of its carriage. -/
theorem cancelEndsTheOrder : Obligations.CancelEndsTheOrder := by
  refine ⟨fun s l id h hid => ⟨fun hr => congrArg Host.Outcome.next (request_refuses h hid nofun ?_), fun h1 h2 =>
    ⟨fun hnone => congrArg Host.Outcome.next (request_refuses h hid nofun ?_), fun o ho =>
      ⟨fun hl hp => congrArg Host.Outcome.next (request_refuses h hid nofun ?_), fun hmay =>
        ⟨fun hphase => congrArg Host.Outcome.next (request_refuses h hid nofun ?_), fun hphase => ?_⟩⟩⟩⟩,
    fun s o st reason ho => ⟨endOrder_book .., ?_, fun n => endOrder_car ho st reason n, fun n hn ha => endAndWithdraw_held hn ha st,
      fun h => endAndWithdraw_unheld h st⟩,
    fun s n => ⟨withdraw_idle, withdraw_halted, fun hd => ?_, withdraw_otherwise⟩⟩
  · simp only [serveCancel, (orderNo_false id).mpr hr, Bool.not_false, if_true]
  · have hnone' : (s.takeLine l .cancel).order? id = none := hnone
    simp only [serveCancel, (orderNo_iff id).mpr ⟨h1, h2⟩, Bool.not_true, Bool.false_eq_true, if_false, hnone']
  · exact (serveCancel_eq (s := s.takeLine l .cancel) h1 h2 ho).trans (if_pos ⟨hl, hp⟩)
  · refine (serveCancel_eq (s := s.takeLine l .cancel) h1 h2 ho).trans ((if_neg ?_).trans (if_pos ((committed_iff o).mpr hphase)))
    rintro ⟨hl, hp⟩
    rcases hmay with hmay | hmay
    · exact hl hmay
    · exact absurd (hmay.symm.trans hp) nofun
  · have hserve : serveCancel l (s.takeLine l .cancel) id = okWith ((s.takeLine l .cancel).endAndWithdraw o .cancelled) [] := by
      refine (serveCancel_eq (s := s.takeLine l .cancel) h1 h2 ho).trans ((if_neg ?_).trans (if_neg ?_))
      · rintro ⟨hl, hp⟩
        rcases hmay with hmay | hmay
        · exact hl hmay
        · exact absurd (hmay.symm.trans hp) nofun
      · rw [committed_iff]
        rintro (h | h | h) <;> simp [h] at hphase
    refine ⟨_, congrArg Host.Outcome.next (request_serves h hid nofun hserve), rfl, ?_⟩
    obtain rfl := order?_id ho
    exact Calm.answered (((endOrder_calm_takeLine ho l .cancel .cancelled none).trans (endAndWithdraw_calm _ o .cancelled)).trans
      (.finish ..)) l .cancel _
  · obtain ⟨x, hx⟩ := endOrder_shape ho st reason
    rw [hx]
    rfl
  · have hcar : (s.withdrawWait n).car n = s.car n := Steady.withdrawWait_car s n n
    have hcalm := Calm.withdraw s n
    refine ⟨by rw [withdraw_docked hd]; exact becomeIdle_idled .., fun k hk hwait => ?_, hcalm.lanes⟩
    rw [withdraw_docked hd] at hwait
    exact withdrawWait_withdraws hk ((WaitsLess.becomeIdle (s.withdrawWait n) n).waits k n hwait)

end Sys2Proof.Machine
end

section
/-! PROOFS. ABORT (R57, R138). -/

namespace Sys2Proof.Machine

/-! ## Orders through what an interruption writes -/

theorem order?_of_book {s t : State} (h : t.book = s.book) (id : Nat) : t.order? id = s.order? id := by rw [State.order?, State.order?, h]

theorem find?_map_stand (l : List Order) (id : Nat) :
    ((l.map Order.stand).find? fun o => decide (o.id = id)) = (l.find? fun o => decide (o.id = id)).map Order.stand := by
  rw [List.find?_map]
  rfl

/-- Beside phase and carriage, a calm change leaves every order what it is. -/
theorem order?_of_calm {s t : State} (h : Calm s t) (id : Nat) : (t.order? id).map Order.stand = (s.order? id).map Order.stand := by
  rw [State.order?, State.order?, ← find?_map_stand, ← find?_map_stand, h.orders]

theorem endOrder_order?_other (s : State) {id k : Nat} (hne : k ≠ id) (st : EndState) (reason : Option EndReason) :
    (s.endOrder id st reason).order? k = s.order? k := by
  rw [State.order?, endOrder_book, List.find?_filter]
  refine congrArg (List.find? · s.book) (funext fun q => ?_)
  by_cases hq : q.id = k
  · simp [hq, hne]
  · simp [hq]

/-- The pull that takes a claimed bench keeps its own order. -/
theorem cancelClaimant_order? (s : State) (c : Corridor) (b puller : Nat) :
    ((s.cancelClaimant c b puller).order? puller).map Order.stand = (s.order? puller).map Order.stand := by
  simp only [State.cancelClaimant]
  split
  · rename_i id _
    split
    · rfl
    · rename_i hne
      have hend := congrArg (Option.map Order.stand) (endOrder_order?_other s (Ne.symm hne) .cancelled none)
      split
      · split
        · exact hend
        · exact (order?_of_calm (Calm.withdraw ..) puller).trans hend
      · exact hend
  · rfl

theorem order?_modOrder {s : State} {id : Nat} {g : Order → Order} (hg : ∀ o, (g o).id = o.id) :
    (s.modOrder id g).order? id = (s.order? id).map g := by
  have hid : (fun o : Order => decide ((if o.id = id then g o else o).id = id)) = fun o => decide (o.id = id) := by
    funext o
    split
    · rw [hg]
    · rfl
  rw [State.order?, State.modOrder_book, List.find?_map, Function.comp_def, hid, State.order?]
  cases h : s.book.find? (fun o => decide (o.id = id)) with
  | none => rfl
  | some o =>
    have ho : o.id = id := by simpa using List.find?_some h
    simp only [Option.map_some, if_pos ho]

theorem leaveStraddling_book (s : State) (n : CarriageName) (tr : Transfer) : (s.leaveStraddling n tr).book = (s.pulledOff n tr).book := by
  have howe (t : State) : (t.oweAt n.corridor tr.lane).book = t.book := by
    simp only [State.oweAt]
    split <;> rfl
  have hmove (t : State) (b : Nat) (pl : Place) : (t.moveBench b pl).book = t.book := by
    obtain ⟨y, hy, -⟩ := modBench_shape t b fun v => { v with place := pl, lastMoved := t.seconds }
    rw [State.moveBench, hy]
  rw [leaveStraddling_eq, howe]
  exact hmove ..

/-- An interruption leaves the interrupted order in the book; the order of a pull names its bench (R138). -/
theorem leaveStraddling_order? {s : State} {n : CarriageName} {tr : Transfer} {o : Order} (h : s.order? tr.order = some o) :
    ∃ q, (s.leaveStraddling n tr).order? tr.order = some q ∧ q.link = o.link ∧ q.dest = o.dest ∧
      q.bench = (match tr.kind with | .pull => some tr.bench | .push => o.bench) := by
  rw [order?_of_book (leaveStraddling_book s n tr)]
  unfold State.pulledOff
  cases tr.kind with
  | push => exact ⟨o, h, rfl, rfl, rfl⟩
  | pull =>
    have hkept := cancelClaimant_order? s n.corridor tr.bench tr.order
    rw [h] at hkept
    obtain ⟨q, hq, hstand⟩ := Option.map_eq_some_iff.mp hkept
    have hlink : q.link = o.link := by
      show q.stand.link = o.stand.link
      rw [hstand]
    have hdest : q.dest = o.dest := by
      show q.stand.dest = o.stand.dest
      rw [hstand]
    have hleft : ((s.cancelClaimant n.corridor tr.bench tr.order).leaveLane tr.lane tr.bench).order? tr.order = some q := hq
    refine ⟨{ q with bench := some tr.bench }, ?_, hlink, hdest, rfl⟩
    exact (order?_modOrder (g := fun o => { o with bench := some tr.bench }) fun _ => rfl).trans (congrArg (Option.map _) hleft)

/-! ## ABORT -/

theorem abort_waiting {s : State} {o : Order} (h1 : o.phase ≠ .pulling) (h2 : o.phase ≠ .pushing) : s.abort o = s.endAndWithdraw o .aborted := by
  unfold State.abort
  split
  · rename_i h _; exact absurd h h1
  · rename_i h _; exact absurd h h2
  · rfl

/-- The unit once the transfer of a carriage is interrupted by ABORT, its order ended and the carriage faulted (R57, R138). -/
def State.interrupted (s : State) (n : CarriageName) (tr : Transfer) (id : Nat) : State :=
  (((s.leaveStraddling n tr).endOrder id .aborted none).enterFaulted n .transferInterrupted none).notifyAll
    (.fault n .transferInterrupted none)

/-- An interruption, to the end of its event. -/
theorem interrupted_finish {b s : State} {n : CarriageName} {tr : Transfer} (id : Nat) :
    Within s (s.interrupted n tr id) ∧ (∀ q ∈ (b.finish (s.interrupted n tr id)).book, q.id ≠ id) ∧
      ((b.finish (s.interrupted n tr id)).car n).state = .faulted ∧
      ((b.finish (s.interrupted n tr id)).car n).faultKind = some .transferInterrupted ∧
      ((b.finish (s.interrupted n tr id)).car n).stand = (s.car n).stand.straddled ∧
      ∀ v, s.bench? tr.bench = some v →
        ((b.finish (s.interrupted n tr id)).bench? tr.bench).map Bench.place = some (.straddling n tr.lane n.corridor) := by
  have hcar : (s.interrupted n tr id).car n = (((s.leaveStraddling n tr).endOrder id .aborted none).car n).faultedBy .transferInterrupted none :=
    (State.car_notifyAll ..).trans (enterFaulted_self ..)
  have hstand : ((s.interrupted n tr id).car n).stand = (s.car n).stand.straddled := by
    rw [hcar, faultedBy_stand, endOrder_stand, leaveStraddling_stand, if_pos rfl]
  have hends : Calm ((s.leaveStraddling n tr).endOrder id .aborted none) (b.finish (s.interrupted n tr id)) :=
    ((Calm.enterFaulted ..).trans (.notifyAll ..)).trans (.finish ..)
  obtain ⟨hf, hkind, hcarstand⟩ := finish_faulted (b := b) (congrArg Carriage.state hcar)
  refine ⟨((Within.leaveStraddling ..).trans (.endOrder ..)).trans ((Within.enterFaulted ..).trans (.notifyAll ..)), fun q hq hid => ?_,
    hf, hkind.trans (congrArg Carriage.faultKind hcar), hcarstand.trans hstand, fun v hv => ?_⟩
  · refine endOrder_ids (s.leaveStraddling n tr) id .aborted none ?_
    rw [← ids_of_calm hends]
    exact List.mem_map.mpr ⟨q, hq, hid⟩
  · rw [bench?_of_calm hends, endOrder_place]
    exact leaveStraddling_place n hv

theorem abort_transferring {s : State} {o : Order} {n : CarriageName} {tr : Transfer} (hp : o.phase = .pulling ∨ o.phase = .pushing)
    (hn : o.carriage = some n) (ha : (s.car n).assigned = some o.id) (hs : (s.car n).state = .transferring)
    (ht : (s.car n).transfer = some tr) : s.abort o = s.interrupted n tr tr.order := by
  have hholder : s.holder o = some n := by simp only [State.holder, hn, Option.bind_some, if_pos ha]
  have habort : s.abort o = State.faultNotice n (s.faultCore n .transferInterrupted none .aborted) := by
    rcases hp with hp | hp <;> simp only [State.abort, hp, hholder]
  rw [habort, faultCore_first (by rw [hs]; decide), beforeFault_transferring hs ht, if_neg (by decide)]
  rfl

theorem serveAbort_eq {s : State} {id : Nat} {o : Order} (h1 : 1 ≤ id) (h2 : id ≤ 65535) (h : s.order? id = some o) :
    serveAbort s id = okWith (s.abort o) [] := by
  simp only [serveAbort, (orderNo_iff id).mpr ⟨h1, h2⟩, Bool.not_true, Bool.false_eq_true, if_false, h]

theorem endAndWithdraw_eq (s : State) (o : Order) (st : EndState) : s.endAndWithdraw o st =
    (match o.carriage with
     | some n => if (s.car n).assigned = some o.id then (s.endOrder o.id st none).withdraw n else s.endOrder o.id st none
     | none => s.endOrder o.id st none) := by
  cases hn : o.carriage with
  | none => exact endAndWithdraw_unheld (by simp [hn]) st
  | some n =>
    by_cases ha : (s.car n).assigned = some o.id
    · exact (endAndWithdraw_held hn ha st).trans (if_pos ha).symm
    · refine (endAndWithdraw_unheld (fun m hm => ?_) st).trans (if_neg ha).symm
      obtain rfl := Option.some.inj (hn.symm.trans hm)
      exact ha

/-- The carriage whose order ends: one that runs goes on with no leg, one that is HALTED remembers IDLE (R56, R75). -/
theorem endAndWithdraw_working {s : State} {o : Order} {n : CarriageName} (ho : s.order? o.id = some o) (hn : o.carriage = some n)
    (ha : (s.car n).assigned = some o.id) (st : EndState) :
    ((s.car n).state = .running →
      ((s.endAndWithdraw o st).car n).state = .running ∧ ((s.endAndWithdraw o st).car n).leg = none) ∧
    ((s.car n).state = .halted →
      ((s.endAndWithdraw o st).car n).state = .halted ∧ ((s.endAndWithdraw o st).car n).remembered = some .idle ∧
      ((s.endAndWithdraw o st).car n).leg = (s.car n).leg) := by
  rw [endAndWithdraw_held hn ha]
  have hcar : (s.endOrder o.id st none).car n = (s.car n).released := (endOrder_car ho st none n).trans (if_pos ⟨hn, ha⟩)
  have hstate : ((s.endOrder o.id st none).car n).state = (s.car n).state :=
    endOrder_state ..
  refine ⟨fun hrun => ?_, fun hhalt => ?_⟩
  · rw [withdraw_otherwise (by rw [hstate, hrun]; decide) (by rw [hstate, hrun]; decide) (by rw [hstate, hrun]; decide), hcar]
    exact ⟨hrun, if_pos hrun⟩
  · rw [withdraw_halted (hstate.trans hhalt), State.car_setCar, if_pos rfl, hcar]
    exact ⟨hhalt, rfl, if_neg (by rw [hhalt]; decide)⟩

/-- Settles O39: an order out of transfer ends as a CANCEL ends it; one in transfer is interrupted and its carriage faults. -/
theorem abortEndsTheOrder : Obligations.AbortEndsTheOrder := by
  refine fun s l id h hid => ⟨fun hr => congrArg Host.Outcome.next (request_refuses h hid nofun ?_), fun h1 h2 =>
    ⟨fun hnone => congrArg Host.Outcome.next (request_refuses h hid nofun ?_), fun o ho => ⟨fun hp1 hp2 => ?_,
      fun n tr hp hn ha hs ht hid' => ?_⟩⟩⟩
  · simp only [serveAbort, (orderNo_false id).mpr hr, Bool.not_false, if_true]
  · have hnone' : (s.takeLine l .abort).order? id = none := hnone
    simp only [serveAbort, (orderNo_iff id).mpr ⟨h1, h2⟩, Bool.not_true, Bool.false_eq_true, if_false, hnone']
  · obtain rfl := order?_id ho
    have hserve : serveAbort (s.takeLine l .abort) o.id = okWith ((s.takeLine l .abort).endAndWithdraw o .aborted) [] :=
      (serveAbort_eq (s := s.takeLine l .abort) h1 h2 ho).trans (congrArg (okWith · []) (abort_waiting hp1 hp2))
    refine ⟨_, congrArg Host.Outcome.next (request_serves h hid nofun hserve), by rw [endAndWithdraw_eq]; rfl,
      Calm.answered (((endOrder_calm_takeLine ho l .abort .aborted none).trans (endAndWithdraw_calm _ o .aborted)).trans
        (.finish ..)) l .abort _, fun n hn ha => ?_⟩
    obtain ⟨hrun, hhalt⟩ := endAndWithdraw_working (s := s.takeLine l .abort) ho hn ha .aborted
    have hsteady := Steady.finish (s.takeLine l .abort) ((s.takeLine l .abort).endAndWithdraw o .aborted)
    generalize (s.takeLine l .abort).endAndWithdraw o .aborted = u at hrun hhalt hsteady ⊢
    refine ⟨fun hr => ?_, fun hr => ?_⟩
    · obtain ⟨hstate, hleg⟩ := hrun hr
      obtain ⟨k1, -, k3⟩ := hsteady.work (n := n) (by rw [hstate]; decide) (by rw [hstate]; decide)
      exact ⟨k1.trans hstate, k3.trans hleg⟩
    · obtain ⟨hstate, hrem, hleg⟩ := hhalt hr
      obtain ⟨k1, k2, k3⟩ := hsteady.work (n := n) (by rw [hstate]; decide) (by rw [hstate]; decide)
      exact ⟨k1.trans hstate, k2.trans hrem, k3.trans hleg⟩
  · obtain rfl := order?_id ho
    have habort := abort_transferring (s := s.takeLine l .abort) hp hn ha hs ht
    rw [hid'] at habort
    refine ⟨_, congrArg Host.Outcome.next (request_serves h hid nofun (serveAbort_eq (s := s.takeLine l .abort) h1 h2 ho)),
      by rw [habort]; rfl, ?_⟩
    rw [habort]
    have hfacts := interrupted_finish (b := s.takeLine l .abort) (s := s.takeLine l .abort) (n := n) (tr := tr) o.id
    have horder : ∃ q, ((s.takeLine l .abort).leaveStraddling n tr).order? o.id = some q ∧ q.link = o.link ∧ q.dest = o.dest ∧
        q.bench = (match tr.kind with | .pull => some tr.bench | .push => o.bench) := by
      obtain ⟨q, hq, hlink, hdest, hbench⟩ := leaveStraddling_order? (s := s.takeLine l .abort) (n := n) (tr := tr) (o := o)
        (by rw [hid']; exact ho)
      rw [hid'] at hq
      exact ⟨q, hq, hlink, hdest, hbench.trans (by cases tr.kind <;> rfl)⟩
    generalize (s.takeLine l .abort).interrupted n tr o.id = u at hfacts ⊢
    obtain ⟨hwithin, hends, hfaulted, hkind, hstand, hplace⟩ := hfacts
    have hruns : RunsOnly (u.answer l .abort (.ok [])) (((s.takeLine l .abort).finish u).answer l .abort (.ok [])) :=
      (RunsOnly.finish _ u).answer ..
    have hload : ((((s.takeLine l .abort).finish u).answer l .abort (.ok [])).car n).stand =
      ((s.takeLine l .abort).car n).stand.straddled := hstand
    refine ⟨horder, ?_, hends, hfaulted, hkind, congrArg Carriage.load hload, congrArg Carriage.transfer hload,
      congrArg Carriage.mark hload, fun v hv => hplace v hv, ?_, ?_⟩
    · rw [hruns.answer_line, hwithin.overrun l, State.takeLine_overrun]
      rfl
    · exact (congrArg Still.layout hruns.calm.still).trans hwithin.layout
    · exact (congrArg Still.millis hruns.calm.still).trans hwithin.millis

end Sys2Proof.Machine
end

section
/-! PROOFS. CLEAR (R65, R66). -/

namespace Sys2Proof.Machine

/-! ## CARRIAGE_LOST fences (R84, R92) -/

namespace SameLayers

theorem startWork (s : State) (n : CarriageName) : SameLayers s (s.startWork n) := by
  simp only [State.startWork]
  split
  · split
    · exact startOrder s n
    · exact enterHoming s n
    · exact refl s
  · exact refl s

theorem endShift (s : State) (n : CarriageName) : SameLayers s (s.endShift n) := by
  simp only [State.endShift]
  split
  · exact of_segments (by rfl)
  · split
    · split
      · exact trans (of_segments (by rfl)) (startWork _ _)
      · exact of_segments (by rfl)
    · exact of_segments (by rfl)

end SameLayers

/-- No fence for the loss of a carriage comes. -/
structure NoneLost (n : CarriageName) (s t : State) : Prop where
  lost : ∀ c k, (t.seg c k).fence = some (.auto (.carriageLost n)) → (s.seg c k).fence = some (.auto (.carriageLost n))

namespace NoneLost

variable {n : CarriageName}

theorem trans {s t u : State} (h : NoneLost n s t) (k : NoneLost n t u) : NoneLost n s u := ⟨fun c i hl => h.lost c i (k.lost c i hl)⟩

theorem of_tracked {s t : State} (h : Tracked s t) : NoneLost n s t := ⟨fun c k => h.lost c k n⟩

theorem of_layers {s t : State} (h : SameLayers s t) : NoneLost n s t := by
  refine ⟨fun c k hl => ?_⟩
  have hfence : (t.seg c k).fence = (s.seg c k).fence := congrArg Prod.fst (h c k)
  exact hfence ▸ hl

theorem becomeIdle (s : State) (m : CarriageName) : NoneLost n s (s.becomeIdle m) := by
  have hmod : NoneLost n s (s.modCar m Carriage.idleNow) := ⟨fun _ _ h => h⟩
  have hidle : NoneLost n s (((s.modCar m Carriage.idleNow).convert m).owe m.corridor) :=
    hmod.trans (of_tracked ((Tracked.convert _ m).trans (.owe ..)))
  simp only [State.becomeIdle]
  split
  · exact hidle.trans (of_layers (SameLayers.endShift _ m))
  · exact hidle

end NoneLost

theorem mem_lostFences {s : State} {n : CarriageName} {k : Nat} (h : (s.seg n.corridor k).fence = some (.auto (.carriageLost n))) :
    k ∈ s.lostFences n := by
  cases hk : (s.segments.get n.corridor).get? k with
  | none =>
    rw [State.seg, hk] at h
    exact absurd h nofun
  | some v =>
    rw [State.seg, hk] at h
    exact List.mem_map.mpr ⟨(k, v), List.mem_filter.mpr ⟨mem_entries_of_get? _ k v hk, by simpa using h⟩, rfl⟩

theorem liftFence_fence (s : State) (c : Corridor) (k : Nat) : ((s.liftFence c k).seg c k).fence = none := by
  cases h : (s.seg c k).fence with
  | none =>
    simp only [State.liftFence, h]
  | some f =>
    simp only [State.liftFence, h, State.offerFence, seg_offer, State.seg_modSeg, and_self, if_true]

theorem liftFences_lost {n : CarriageName} {l : List Nat} {s : State} (h : ∀ k, (s.seg n.corridor k).fence = some (.auto (.carriageLost n)) → k ∈ l)
    (k : Nat) : ((l.foldl (fun t k => t.liftFence n.corridor k) s).seg n.corridor k).fence ≠ some (.auto (.carriageLost n)) := by
  induction l generalizing s with
  | nil => exact fun hk => absurd (h k hk) (by simp)
  | cons a rest ih =>
    refine ih fun j hj => ?_
    rcases List.mem_cons.mp (h j ((Tracked.liftFence s n.corridor a).lost _ _ _ hj)) with rfl | hmem
    · rw [liftFence_fence] at hj
      exact absurd hj nofun
    · exact hmem

/-! ## An accepted CLEAR -/

/-- The unit as the fences of a cleared carriage are lifted (R92). -/
def State.unfenced (s : State) (n : CarriageName) : State :=
  (s.lostFences n).foldl (fun t k => t.liftFence n.corridor k) (s.setCar n (s.clearedRecord n))

/-- The cleared carriage takes its place in the table (R66, R84, R93). -/
def State.returned (s : State) (n : CarriageName) : State :=
  if s.clearedState n = .idle then (s.unfenced n).becomeIdle n
  else if s.clearedState n = .unhomed then ((s.unfenced n).seat n).owe n.corridor else s.unfenced n

theorem clearCarriage_eq (s : State) (n : CarriageName) : s.clearCarriage n = State.retryAll n.corridor (s.lostFences n) (s.returned n) := rfl

theorem unfenced_car (s : State) (n : CarriageName) : (s.unfenced n).car n = s.clearedRecord n := by
  rw [State.unfenced, (SameCars.foldl _ (fun t k => .liftFence t n.corridor k) _ _).car n, State.car_setCar, if_pos rfl]

theorem clearedRecord_state (s : State) (n : CarriageName) : (s.clearedRecord n).state = s.clearedState n := by
  simp only [State.clearedRecord]
  split
  · split <;> split <;> rfl
  all_goals split <;> rfl

theorem clearedRecord_fault (s : State) (n : CarriageName) : (s.clearedRecord n).faultKind = none ∧ (s.clearedRecord n).faultCode = none := by
  simp only [State.clearedRecord]
  split
  · split <;> split <;> exact ⟨rfl, rfl⟩
  all_goals split <;> exact ⟨rfl, rfl⟩

/-- What CLEAR leaves of a carriage beside its work, its state and its fault kind. -/
def State.clearedStand (s : State) (n : CarriageName) : Carriage :=
  { s.clearedRecord n with state := (s.car n).state, faultKind := (s.car n).faultKind, faultCode := (s.car n).faultCode }

theorem clearCarriage_calm (s : State) (n : CarriageName) : Calm (s.setCar n (s.clearedRecord n)) (s.clearCarriage n) := by
  have hlift : Calm (s.setCar n (s.clearedRecord n)) (s.unfenced n) := Calm.foldl _ (fun t k => Calm.liftFence t n.corridor k) _ _
  have hreturn : Calm (s.unfenced n) (s.returned n) := by
    unfold State.returned
    split
    · exact .becomeIdle ..
    · split
      · exact (Calm.seat ..).trans (.owe ..)
      · exact .refl _
  rw [clearCarriage_eq]
  exact (hlift.trans hreturn).trans (.retryAll ..)

theorem clearCarriage_lost (s : State) (n : CarriageName) (k : Nat) :
    ((s.clearCarriage n).seg n.corridor k).fence ≠ some (.auto (.carriageLost n)) := by
  have hreturn : NoneLost n (s.unfenced n) (s.returned n) := by
    unfold State.returned
    split
    · exact .becomeIdle ..
    · split
      · exact .of_tracked ((Tracked.seat ..).trans (.owe ..))
      · exact .of_tracked (.refl _)
  rw [clearCarriage_eq]
  intro h
  refine liftFences_lost (l := s.lostFences n) (s := s.setCar n (s.clearedRecord n)) (fun j hj => mem_lostFences hj) k ?_
  exact (hreturn.trans (.of_tracked (.retryAll ..))).lost _ _ h

theorem Touched.fault {v w : Carriage} (h : Touched v w) : w.faultKind = v.faultKind ∧ w.faultCode = v.faultCode := by
  obtain ⟨a, b, rfl | ⟨_, _, _, _, _, _, _, rfl⟩⟩ := h <;> exact ⟨rfl, rfl⟩

/-- The cleared carriage, but for IDLE, stands in the state given with no fault kind. -/
theorem clearCarriage_car {s : State} {n : CarriageName} (h : s.clearedState n ≠ .idle) :
    Touched (s.clearedRecord n) ((s.clearCarriage n).car n) := by
  have hreturn : Touched (s.clearedRecord n) ((s.returned n).car n) := by
    unfold State.returned
    rw [if_neg h, ← unfenced_car]
    split
    · exact ((Tracked.seat ..).trans (.owe ..)).cars n
    · exact .refl _
  rw [clearCarriage_eq]
  exact hreturn.trans ((Tracked.retryAll ..).cars n)

theorem clearCarriage_idle {s : State} {n : CarriageName} (h : s.clearedState n = .idle) :
    Touched (s.clearedRecord n).idleNow ((s.clearCarriage n).car n) := by
  rw [clearCarriage_eq, State.returned, if_pos h, ← unfenced_car]
  exact (becomeIdle_touched ..).trans ((Tracked.retryAll ..).cars n)

theorem unfenced_mode (s : State) (n : CarriageName) : (s.unfenced n).mode = s.mode :=
  (SameCars.foldl (fun t k => t.liftFence n.corridor k) (fun t k => .liftFence t n.corridor k) (s.lostFences n)
    (s.setCar n (s.clearedRecord n))).mode

theorem clearCarriage_configuring {s : State} {n : CarriageName} (hm : s.mode = .configuring) (h : s.clearedState n = .idle) :
    (s.clearCarriage n).car n = (s.clearedRecord n).idleNow := by
  have hmode : (s.unfenced n).mode = .configuring := (unfenced_mode s n).trans hm
  rw [clearCarriage_eq, State.returned, if_pos h,
    (SameCars.retryAll (((Within.becomeIdle ..).mode).trans hmode) n.corridor (s.lostFences n)).car n, becomeIdle_configuring hmode, unfenced_car]

/-! ## The request -/

theorem clearBarred_iff (s : State) (n : CarriageName) : s.clearBarred n = true ↔
    (s.car n).state ≠ .faulted ∨ (s.car n).link = .lost ∨ (s.car n).driveState = some .driveFault ∨ (s.car n).load = .straddled := by
  simp only [State.clearBarred, Bool.or_eq_true, decide_eq_true_eq, or_assoc]

theorem serveClear_eq {s : State} {n : CarriageName} {it : CarriageItem} (h : s.item n = some it) : serveClear s (.known n) =
    if s.clearBarred n then refuse s .state else okWith (s.clearCarriage n) [.word (s.clearedState n).word] := by
  have hrecord : s.hasRecord n = true := (hasRecord_iff s n).mpr (by simp [h])
  simp only [serveClear, hrecord, Bool.not_true, Bool.false_eq_true, if_false]

theorem grownU_eq {s : State} {n : CarriageName} {it : CarriageItem} (h : s.item n = some it) :
    s.grownU n = (s.car n).u + stopDistance it.decel (s.timing n.corridor).reaction (s.car n).lostSpeed := by
  simp only [State.grownU, h]

/-- What CLEAR makes of the record, kind by kind (R66). -/
theorem clearedStand_cases {s : State} {n : CarriageName} {it : CarriageItem} {k : FaultKind} (hit : s.item n = some it)
    (hk : (s.car n).faultKind = some k) :
    ((k = .transferInterrupted ∨ (k = .driveFault ∧ (s.car n).p ≠ none)) → s.clearedState n = .idle ∧ s.clearedStand n = s.car n) ∧
    (k = .driveFault → (s.car n).p = none →
      s.clearedState n = .unplaced ∧ s.clearedStand n = { s.car n with rehome := false, slip := false }) ∧
    (k = .linkLost → (s.car n).p ≠ none →
      s.clearedState n = (if (s.car n).u + stopDistance it.decel (s.timing n.corridor).reaction (s.car n).lostSpeed < 1500 then .unhomed
        else .unplaced) ∧
      s.clearedStand n = { s.car n with
        rehome := false, slip := false, sinceCorrection := 0
        u := min 1500 ((s.car n).u + stopDistance it.decel (s.timing n.corridor).reaction (s.car n).lostSpeed)
        uBase := min 1500 ((s.car n).u + stopDistance it.decel (s.timing n.corridor).reaction (s.car n).lostSpeed) }) ∧
    (k = .linkLost → (s.car n).p = none →
      s.clearedState n = .unplaced ∧ s.clearedStand n = { s.car n with rehome := false, slip := false }) ∧
    ((k = .positionLost ∨ k = .homingFailed) →
      s.clearedState n = .unplaced ∧
      s.clearedStand n = { s.car n with
        rehome := false, slip := false, p := none, offset := none, sinceCorrection := 0, sinceHoming := 0, u := 0, uBase := 0 }) := by
  have hstand : s.clearedStand n = { s.clearedRecord n with state := (s.car n).state, faultKind := some k, faultCode := (s.car n).faultCode } := by
    rw [State.clearedStand, hk]
  have hgrown := grownU_eq hit
  rw [hstand]
  refine ⟨fun h => ?_, fun h hp => ?_, fun h hp => ?_, fun h hp => ?_, fun h => ?_⟩
  · have hidle : s.clearedState n = .idle := by
      rcases h with rfl | ⟨rfl, hp⟩
      · simp only [State.clearedState, hk]
      · simp only [State.clearedState, hk, Option.isSome_iff_ne_none.mpr hp, if_true]
    refine ⟨hidle, ?_⟩
    simp only [State.clearedRecord, hidle, if_true, hk]
    rcases h with rfl | ⟨rfl, -⟩ <;> simp only [← hk]
  · subst h
    have hstate : s.clearedState n = .unplaced := by simp [State.clearedState, hk, hp]
    exact ⟨hstate, by simp [State.clearedRecord, hstate, hk, hp]⟩
  · subst h
    have hsome := Option.isSome_iff_ne_none.mpr hp
    have hstate : s.clearedState n = (if (s.car n).u + stopDistance it.decel (s.timing n.corridor).reaction (s.car n).lostSpeed < 1500
        then .unhomed else .unplaced) := by simp [State.clearedState, hk, hsome, hgrown, Config.maxU]
    have hne : s.clearedState n ≠ .idle := by rw [hstate]; split <;> decide
    exact ⟨hstate, by simp [State.clearedRecord, if_neg hne, hk, hsome, hgrown, Config.maxU]⟩
  · subst h
    have hstate : s.clearedState n = .unplaced := by simp [State.clearedState, hk, hp]
    exact ⟨hstate, by simp [State.clearedRecord, hstate, hk, hp]⟩
  · have hstate : s.clearedState n = .unplaced := by rcases h with rfl | rfl <;> simp only [State.clearedState, hk]
    exact ⟨hstate, by rcases h with rfl | rfl <;> simp [State.clearedRecord, hstate, hk]⟩

/-- What an accepted CLEAR gives, to the end of its event: the state, the record kept, and no fence left. -/
theorem clearCarriage_ends {s : State} {n : CarriageName} :
    (s.clearedState n ≠ .idle → ((s.clearCarriage n).car n).state = s.clearedState n ∧
      ((s.clearCarriage n).car n).faultKind = none ∧ ((s.clearCarriage n).car n).faultCode = none) ∧
    (s.clearedState n = .idle → Idled ((s.clearCarriage n).car n) ∧
      ((s.clearCarriage n).car n).faultKind = none ∧ ((s.clearCarriage n).car n).faultCode = none) := by
  obtain ⟨hkind, hcode⟩ := clearedRecord_fault s n
  refine ⟨fun h => ?_, fun h => ?_⟩
  · have ht := clearCarriage_car h
    have hstate := clearedRecord_state s n
    obtain ⟨h1, h2⟩ := ht.fault
    exact ⟨(ht.work (by rwa [hstate])).1.trans hstate, h1.trans hkind, h2.trans hcode⟩
  · have ht := clearCarriage_idle h
    obtain ⟨h1, h2⟩ := ht.fault
    exact ⟨ht.idled rfl rfl rfl rfl rfl, h1.trans hkind, h2.trans hcode⟩

/-- In CONFIGURING the carriage ends the event in the state given; so does one that is UNPLACED. -/
theorem clearCarriage_finish {b s : State} {n : CarriageName} (h : s.mode = .configuring ∨ s.clearedState n = .unplaced) :
    ((b.finish (s.clearCarriage n)).car n).state = s.clearedState n ∧
      ((b.finish (s.clearCarriage n)).car n).faultKind = none ∧ ((b.finish (s.clearCarriage n)).car n).faultCode = none := by
  obtain ⟨hother, hidled⟩ := clearCarriage_ends (s := s) (n := n)
  rcases h with hm | hu
  · have hstate : ((s.clearCarriage n).car n).state = s.clearedState n := by
      by_cases hi : s.clearedState n = .idle
      · rw [clearCarriage_configuring hm hi, hi]
        rfl
      · exact (hother hi).1
    have hfaults : ((s.clearCarriage n).car n).faultKind = none ∧ ((s.clearCarriage n).car n).faultCode = none := by
      by_cases hi : s.clearedState n = .idle
      · exact (hidled hi).2
      · exact (hother hi).2
    have hnot : s.clearedState n ≠ .homing := by
      simp only [State.clearedState]
      split
      · split <;> decide
      · decide
      · split <;> decide
      all_goals decide
    have hmode : (s.clearCarriage n).mode = .configuring := (congrArg Still.mode (clearCarriage_calm s n).still).trans hm
    rw [(EndsQuietly.finish b _ hmode).cars n (by rwa [hstate])]
    exact ⟨hstate, hfaults⟩
  · obtain ⟨hstate, hkind, hcode⟩ := hother (by rw [hu]; decide)
    have hdoing := Steady.finish b (s.clearCarriage n) n (by rw [hstate, hu]; decide) (by rw [hstate, hu]; decide)
    exact ⟨(congrArg (·.1) hdoing).trans hstate, (congrArg (·.2.2.1) hdoing).trans hkind, (congrArg (·.2.2.2.1) hdoing).trans hcode⟩

/-- Settles O41: the refusals, then what an accepted CLEAR makes of the carriage, kind by kind. -/
theorem clearRestoresTheCarriage : Obligations.ClearRestoresTheCarriage := by
  refine fun s l h => ⟨congrArg Host.Outcome.next (request_refuses h rfl nofun rfl), fun n =>
    ⟨fun hnone => congrArg Host.Outcome.next (request_refuses h rfl nofun ?_), fun it hit =>
      ⟨fun hbar => congrArg Host.Outcome.next (request_refuses h rfl nofun ?_), fun k hf hlink hdrive hload hk => ?_⟩⟩⟩
  · have hrecord : (s.takeLine l .clear).hasRecord n = false := congrArg Option.isSome hnone
    simp only [serveClear, hrecord, Bool.not_false, if_true]
  · exact (serveClear_eq (s := s.takeLine l .clear) hit).trans (if_pos ((clearBarred_iff _ n).mpr hbar))
  · have hserve := (serveClear_eq (s := s.takeLine l .clear) hit).trans (if_neg fun hb => by
      rcases (clearBarred_iff _ n).mp hb with hb | hb | hb | hb
      · exact hb hf
      · exact absurd (hlink.symm.trans hb) nofun
      · exact hdrive hb
      · exact hload hb)
    have hruns : RunsOnly (((s.takeLine l .clear).clearCarriage n).answer l .clear (.ok [.word (s.clearedState n).word])) _ :=
      (RunsOnly.finish (s.takeLine l .clear) ((s.takeLine l .clear).clearCarriage n)).answer l .clear
        (.ok [.word (s.clearedState n).word])
    have hcalm := (clearCarriage_calm (s.takeLine l .clear) n).trans (.finish (s.takeLine l .clear) _)
    obtain ⟨hother, hidle⟩ := clearCarriage_ends (s := s.takeLine l .clear) (n := n)
    obtain ⟨c1, c2, c3, c4, c5⟩ := clearedStand_cases hit hk
    refine ⟨_, _, s.clearedState n, s.clearedStand n, congrArg Host.Outcome.next (request_serves h rfl nofun hserve), rfl, rfl, hother,
      hidle, clearCarriage_finish (s := s.takeLine l .clear), ?_, ?_, fun m hm => ?_, hcalm.still, fun i hi => ?_, c1, c2, c3, c4, c5⟩
    · refine (hcalm.cars n).trans ?_
      rw [State.car_setCar, if_pos rfl]
      rfl
    · have hover : (((s.takeLine l .clear).clearCarriage n).link l).overrun = (s.link l).overrun :=
        ((clearCarriage_calm (s.takeLine l .clear) n).overrun l).trans (State.takeLine_overrun s l .clear)
      rw [← hover]
      exact hruns.answer_line
    · refine (hcalm.cars m).trans ?_
      rw [State.car_setCar, if_neg hm]
      rfl
    · have hlayers := congrArg Prod.fst (hruns.layers n.corridor i)
      exact clearCarriage_lost (s.takeLine l .clear) n i (hlayers.symm.trans hi)

end Sys2Proof.Machine
end

section
/-! PROOFS. The seating of one carriage (R93) and DECLARE (R114). -/

namespace Sys2Proof.Machine

/-! ## What the requests of others leave a carriage -/

/-- What a segment keeps where a carriage asks for nothing: its layer, its absence from the waiting set, every holder and every fence. -/
structure Segment.KeptFor (n : CarriageName) (g h : Segment) : Prop where
  waits : n ∈ h.waiting → n ∈ g.waiting
  holds : h.holds n = g.holds n
  holders : ∀ m, g.holds m = true → h.holds m = true
  fences : ∀ f, g.fence = some f → h.fence = some f
  stands : g.standing = some n → g.running = none → h.standing = some n ∧ h.running = none

/-- Every segment of a carriage's corridor is kept for it. -/
structure Bystander (n : CarriageName) (s t : State) : Prop where
  kept : ∀ k, (s.seg n.corridor k).KeptFor n (t.seg n.corridor k)

theorem Segment.KeptFor.refl (n : CarriageName) (g : Segment) : g.KeptFor n g := ⟨id, rfl, fun _ h => h, fun _ h => h, fun h k => ⟨h, k⟩⟩

namespace Bystander

variable {n : CarriageName}

theorem refl (s : State) : Bystander n s s := ⟨fun _ => .refl ..⟩

theorem trans {s t u : State} (h : Bystander n s t) (k : Bystander n t u) : Bystander n s u := by
  refine ⟨fun i => ⟨fun hw => (h.kept i).waits ((k.kept i).waits hw), (k.kept i).holds.trans (h.kept i).holds,
    fun m hm => (k.kept i).holders m ((h.kept i).holders m hm),
    fun f hf => (k.kept i).fences f ((h.kept i).fences f hf), fun hs hr => ?_⟩⟩
  obtain ⟨hs', hr'⟩ := (h.kept i).stands hs hr
  exact (k.kept i).stands hs' hr'

theorem foldl {α : Type} (f : State → α → State) (hf : ∀ t a, Bystander n t (f t a)) (l : List α) (s : State) :
    Bystander n s (l.foldl f s) := by
  induction l generalizing s with
  | nil => exact refl s
  | cons a rest ih => exact (hf s a).trans (ih (f s a))

theorem of_segments {s t : State} (h : t.segments = s.segments) : Bystander n s t := by
  refine ⟨fun k => ?_⟩
  rw [State.seg_of_segments h]
  exact .refl ..

theorem modSeg (s : State) (c : Corridor) (k : Nat) (g : Segment → Segment)
    (hg : c = n.corridor → (s.seg c k).KeptFor n (g (s.seg c k))) : Bystander n s (s.modSeg c k g) := by
  refine ⟨fun j => ?_⟩
  rw [State.seg_modSeg]
  split
  · rename_i h
    obtain ⟨rfl, rfl⟩ := h
    exact hg rfl
  · exact .refl ..

theorem unwait (s : State) (m : CarriageName) : Bystander n s (s.unwait m) := by
  refine ⟨fun k => ?_⟩
  rw [seg_unwait]
  split
  · exact ⟨fun h => (List.mem_filter.1 h).1, rfl, fun _ h => h, fun _ h => h, fun h k => ⟨h, k⟩⟩
  · exact .refl ..

theorem setFence (s : State) (c : Corridor) (k : Nat) (f : Fence) : Bystander n s (s.setFence c k f) := by
  refine ⟨fun j => ?_⟩
  rw [seg_setFence]
  split
  · rename_i h
    obtain ⟨hc, rfl⟩ := h
    subst hc
    exact ⟨id, rfl, fun _ h => h, fun f hf => by simp [hf], fun h k => ⟨h, k⟩⟩
  · exact .refl ..

theorem waitAt {s : State} {m : CarriageName} (hne : n ≠ m) (k : Nat) : Bystander n s (s.waitAt m k) := by
  refine (unwait s m).trans (modSeg _ _ _ _ fun _ => ⟨fun h => ?_, rfl, fun _ h => h, fun _ h => h, fun h k => ⟨h, k⟩⟩)
  simp only [List.mem_filter, Bool.or_eq_true, decide_eq_true_eq, List.contains_iff_mem] at h
  exact h.2.resolve_left hne

/-- A grant to another carriage takes no segment that a carriage holds. -/
theorem grant {s : State} {m : CarriageName} {k : Nat} (hne : n ≠ m) (dir : Dir) (h : s.openTo m k = true) : Bystander n s (s.grant m dir k) := by
  refine modSeg s _ _ _ fun hc => ?_
  have hfree : (s.seg m.corridor k).holds n = false :=
    Bool.eq_false_iff.mpr fun hholds => hne (Within.openTo_only s m k h n hholds)
  refine ⟨id, ?_, fun a ha => ?_, fun _ h => h, fun hstand _ => ?_⟩
  · rw [hfree]
    simp [Segment.holds, Ne.symm hne]
  · simp [Segment.holds, Within.openTo_only s m k h a ha]
  · exact absurd hfree (by simp [Segment.holds, hstand])

theorem judge {m : CarriageName} (hne : n ≠ m) (dir : Dir) (l : List Nat) (s : State) : Bystander n s (State.judge m dir l s).1 := by
  induction l generalizing s with
  | nil => exact refl s
  | cons k rest ih =>
    simp only [State.judge]
    split
    · rename_i hopen
      simp only [Bool.and_eq_true] at hopen
      exact (grant hne dir hopen.2).trans (ih _)
    · split
      · split
        · rename_i hopen
          exact (grant hne dir hopen).trans (ih _)
        · split
          · exact (setFence ..).trans (ih _)
          · exact ih _
      · exact refl s

theorem askShift (s : State) (m : CarriageName) (k : Nat) : Bystander n s (s.askShift m k) := by
  simp only [State.askShift]
  split
  · split
    · split
      · exact foldl _ (fun _ _ => of_segments (by rfl)) _ _
      · exact refl s
    · exact refl s
  · exact refl s

theorem grantRequest {m : CarriageName} (hne : n ≠ m) (s : State) : Bystander n s (s.grantRequest m) := by
  simp only [State.grantRequest]
  split
  · split
    · exact unwait ..
    · split
      · rename_i it p leg _ _ _
        have hfigures : Bystander n s (s.modCar m fun w =>
            { w with
              horizon := some (s.requestStretch m leg p it).1
              requestList := s.requestList m leg.dir (s.requestStretch m leg p it).2 }) := of_segments rfl
        have hjudge := hfigures.trans (judge hne leg.dir (s.requestList m leg.dir (s.requestStretch m leg p it).2) _)
        split
        · rename_i s2 heq
          rw [heq] at hjudge
          exact hjudge.trans (unwait ..)
        · rename_i s2 k heq
          rw [heq] at hjudge
          exact (hjudge.trans (waitAt hne _)).trans (askShift ..)
      · exact unwait ..
  · exact refl s

theorem retry {s : State} {c : Corridor} {k : Nat} (h : n ∉ (s.seg c k).waiting) : Bystander n s (s.retry c k) := by
  have hfree : Bystander n s { s with free := s.free + 1 } := of_segments rfl
  have hne {m : CarriageName} (hm : m ∈ (s.seg c k).waiting) : n ≠ m := fun heq => h (heq ▸ hm)
  simp only [State.retry]
  split
  · exact refl s
  · rename_i a ha
    exact grantRequest (hne (by simp [ha])) s
  · rename_i a b rest hab
    have hna : n ≠ a := hne (by simp [hab])
    have hnb : n ≠ b := hne (by simp [hab])
    split
    · exact (hfree.trans (grantRequest hnb _)).trans (grantRequest hna _)
    · exact (hfree.trans (grantRequest hna _)).trans (grantRequest hnb _)

theorem retryAll {s : State} (h : ∀ k, n ∉ (s.seg n.corridor k).waiting) (l : List Nat) :
    Bystander n s (State.retryAll n.corridor l s) := by
  induction l generalizing s with
  | nil => exact refl s
  | cons k rest ih =>
    have hfirst : Bystander n s (s.retry n.corridor k) := retry (h k)
    exact hfirst.trans (ih fun j hj => h j ((hfirst.kept j).waits hj))

end Bystander

/-! ## Seating (R93) -/

/-- A segment a carriage is seated on: standing where no layer names another carriage, fenced where one does. -/
def Segment.seatedBy (g : Segment) (n : CarriageName) : Segment :=
  if g.namesOther n then { g with fence := some (g.fence.getD (.auto .restartOverlap)) } else { g with standing := some n }

theorem seg_seatOne (n : CarriageName) (s : State) (k : Nat) (c : Corridor) (j : Nat) : (State.seatOne n s k).seg c j =
    if c = n.corridor ∧ j = k then (s.seg n.corridor k).seatedBy n else s.seg c j := by
  simp only [State.seatOne, Segment.seatedBy]
  split
  · exact seg_setFence ..
  · exact State.seg_modSeg ..

theorem seatedBy_namesOther (g : Segment) (n : CarriageName) : (g.seatedBy n).namesOther n = g.namesOther n := by
  unfold Segment.seatedBy
  split
  · rfl
  · rename_i h
    have hnot : g.namesOther n = false := Bool.eq_false_iff.mpr h
    rw [hnot, namesOther_false_iff]
    rw [namesOther_false_iff] at hnot
    intro m hm
    rw [holds_iff] at hm
    rcases hm with hm | hm
    · exact hnot m ((holds_iff ..).mpr (.inl hm))
    · exact (Option.some.inj hm).symm

theorem seatedBy_seatedBy (g : Segment) (n : CarriageName) : (g.seatedBy n).seatedBy n = g.seatedBy n := by
  have hnames := seatedBy_namesOther g n
  rw [Segment.seatedBy, hnames]
  by_cases h : g.namesOther n = true <;> simp [Segment.seatedBy, h]

theorem seg_seatOnes (n : CarriageName) (l : List Nat) (s : State) (k : Nat) : (l.foldl (State.seatOne n) s).seg n.corridor k =
    if k ∈ l then (s.seg n.corridor k).seatedBy n else s.seg n.corridor k := by
  induction l generalizing s with
  | nil => simp
  | cons a rest ih =>
    rw [List.foldl_cons, ih, seg_seatOne]
    by_cases hk : k = a
    · subst hk
      simp [seatedBy_seatedBy]
    · simp [hk]

/-- The segments of a carriage once it gave up its run, waiting at none. -/
def Segment.leftBy (g : Segment) (n : CarriageName) : Segment :=
  { g.clearOf n with waiting := g.waiting.filter fun m => decide (m ≠ n) }

theorem clearOf_of_not_holds {g : Segment} {n : CarriageName} (h : g.holds n = false) : g.clearOf n = g := by
  have hnot : ¬ (g.running.map (·.1) = some n ∨ g.standing = some n) := fun hor => by
    rw [← holds_iff, h] at hor
    exact absurd hor nofun
  rw [not_or] at hnot
  simp only [Segment.clearOf, if_neg hnot.1, if_neg hnot.2]

theorem seg_givenUp (s : State) (n : CarriageName) (k : Nat) :
    ((s.clearLayers n (s.heldRun n)).unwait n).seg n.corridor k = (s.seg n.corridor k).leftBy n := by
  rw [seg_unwait, if_pos rfl, seg_clearLayers]
  by_cases hk : k ∈ s.heldRun n
  · rw [if_pos ⟨rfl, hk⟩]
    rfl
  · have hnot : (s.seg n.corridor k).holds n = false := Bool.eq_false_iff.mpr fun h => hk (mem_heldRun_of_holds h)
    rw [if_neg fun h => hk h.2, Segment.leftBy, clearOf_of_not_holds hnot]

theorem leftBy_waiting (g : Segment) (n : CarriageName) : n ∉ (g.leftBy n).waiting := by simp [Segment.leftBy]

theorem leftBy_holds (g : Segment) (n : CarriageName) : (g.leftBy n).holds n = false := clearOf_not_holds g n

theorem leftBy_holds_other (g : Segment) {n m : CarriageName} (hne : m ≠ n) : (g.leftBy n).holds m = g.holds m := by
  rw [Bool.eq_iff_iff, holds_iff, holds_iff]
  simp only [Segment.leftBy, Segment.clearOf]
  refine or_congr ?_ ?_
  · split
    · rename_i h
      simp [h, Ne.symm hne]
    · rfl
  · split
    · rename_i h
      simp [h, Ne.symm hne]
    · rfl

theorem leftBy_seatedBy_alone {g : Segment} {n : CarriageName} (h : ∀ m, m ≠ n → g.holds m = false) :
    ((g.leftBy n).seatedBy n).standing = some n ∧ ((g.leftBy n).seatedBy n).running = none := by
  have hnobody (m : CarriageName) : (g.leftBy n).holds m = false := by
    by_cases hm : m = n
    · rw [hm]; exact leftBy_holds g n
    · rw [leftBy_holds_other g hm]; exact h m hm
  have hnames : (g.leftBy n).namesOther n = false :=
    (namesOther_false_iff ..).mpr fun m hm => absurd ((hnobody m).symm.trans hm) nofun
  have hrunning : (g.leftBy n).running = none := by
    cases hr : (g.leftBy n).running with
    | none => rfl
    | some x => exact absurd ((hnobody x.1).symm.trans ((holds_iff ..).mpr (.inl (by simp [hr])))) nofun
  simp only [Segment.seatedBy, hnames, Bool.false_eq_true, if_false]
  exact ⟨trivial, hrunning⟩

theorem leftBy_seatedBy_held {g : Segment} {n m : CarriageName} (hne : m ≠ n) (h : g.holds m = true) :
    ((g.leftBy n).seatedBy n).fence = some (g.fence.getD (.auto .restartOverlap)) ∧ ((g.leftBy n).seatedBy n).holds m = true ∧
      ((g.leftBy n).seatedBy n).holds n = false := by
  have hheld : (g.leftBy n).holds m = true := (leftBy_holds_other g hne).trans h
  have hnames : (g.leftBy n).namesOther n = true :=
    Bool.of_not_eq_false fun hf => hne ((namesOther_false_iff ..).mp hf m hheld)
  simp only [Segment.seatedBy, hnames, if_true]
  exact ⟨rfl, hheld, leftBy_holds g n⟩

/-- The unit once a carriage gave up its run. -/
def State.givenUp (s : State) (n : CarriageName) : State := (s.clearLayers n (s.heldRun n)).unwait n

theorem givenUp_layout (s : State) (n : CarriageName) : (s.givenUp n).layout = s.layout := by
  unfold State.givenUp
  rw [clearLayers_fields]
  rfl

theorem seat_unseated {s : State} {n : CarriageName} (h : (s.car n).state = .unplaced ∨ s.uncertain n = none) :
    s.seat n = State.retryAll n.corridor (s.heldRun n) (s.givenUp n) := by
  simp only [State.seat]
  split
  · rfl
  · rename_i hp
    simp only [h.resolve_left hp]
    rfl

theorem seat_placed {s : State} {n : CarriageName} {r : Int × Int} (h : (s.car n).state ≠ .unplaced) (hr : s.uncertain n = some r) :
    s.seat n = State.retryAll n.corridor ((s.heldRun n).filter fun k => !((s.givenUp n).segsMeeting n.corridor r).contains k || s.runsOn n k)
      (((s.givenUp n).segsMeeting n.corridor r).foldl (State.seatOne n) (s.givenUp n)) := by
  simp only [State.seat, if_neg h, hr]
  rfl

theorem givenUp_segsMeeting (s : State) (n : CarriageName) (r : Int × Int) : (s.givenUp n).segsMeeting n.corridor r = s.segsMeeting n.corridor r := by
  simp only [State.segsMeeting, State.segsInUse, givenUp_layout]

theorem mem_segsMeeting (s : State) (c : Corridor) (r : Int × Int) (k : Nat) :
    k ∈ s.segsMeeting c r ↔ k ∈ s.segsInUse c ∧ s.layout.segMeets c k r = true := List.mem_filter

/-- A segment as the seating leaves it, before the retries. -/
theorem seg_seated (s : State) (n : CarriageName) (r : Int × Int) (k : Nat) :
    (((s.givenUp n).segsMeeting n.corridor r).foldl (State.seatOne n) (s.givenUp n)).seg n.corridor k =
      if k ∈ s.segsInUse n.corridor ∧ s.layout.segMeets n.corridor k r = true then ((s.seg n.corridor k).leftBy n).seatedBy n
      else (s.seg n.corridor k).leftBy n := by
  rw [seg_seatOnes, givenUp_segsMeeting, State.givenUp, seg_givenUp]
  simp only [mem_segsMeeting]

theorem seatedBy_waiting (g : Segment) (n : CarriageName) : (g.seatedBy n).waiting = g.waiting := by
  unfold Segment.seatedBy
  split <;> rfl

/-- The retries of a seating leave the carriage its seat (R82, R93). -/
theorem seat_bystander (s : State) (n : CarriageName) :
    Bystander n (if (s.car n).state = .unplaced then s.givenUp n else
      match s.uncertain n with
      | none => s.givenUp n
      | some r => ((s.givenUp n).segsMeeting n.corridor r).foldl (State.seatOne n) (s.givenUp n)) (s.seat n) := by
  have hleft (k : Nat) : n ∉ ((s.givenUp n).seg n.corridor k).waiting := by
    rw [State.givenUp, seg_givenUp]
    exact leftBy_waiting _ n
  split
  · rename_i h
    rw [seat_unseated (.inl h)]
    exact .retryAll hleft _
  · rename_i h
    cases hr : s.uncertain n with
    | none =>
      rw [seat_unseated (.inr hr)]
      exact .retryAll hleft _
    | some r =>
      rw [seat_placed h hr]
      refine .retryAll (fun k => ?_) _
      rw [seg_seated]
      split
      · rw [seatedBy_waiting]
        exact leftBy_waiting _ n
      · exact leftBy_waiting _ n

theorem seat_seated {s : State} {n : CarriageName} {r : Int × Int} (h : (s.car n).state ≠ .unplaced) (hr : s.uncertain n = some r) :
    Seated s (s.seat n) n r := by
  have hby := seat_bystander s n
  rw [if_neg h, hr] at hby
  refine fun k => ⟨fun hin hmeets => ⟨fun halone => ?_, fun m hm hheld => ?_⟩, fun hout => ?_⟩
  · have hseg := seg_seated s n r k
    rw [if_pos ⟨hin, hmeets⟩] at hseg
    obtain ⟨hstand, hrun⟩ := leftBy_seatedBy_alone halone
    rw [← hseg] at hstand hrun
    exact (hby.kept k).stands hstand hrun
  · have hseg := seg_seated s n r k
    rw [if_pos ⟨hin, hmeets⟩] at hseg
    obtain ⟨hfence, hholds, hnot⟩ := leftBy_seatedBy_held hm hheld
    rw [← hseg] at hfence hholds hnot
    exact ⟨(hby.kept k).fences _ hfence, (hby.kept k).holders m hholds, (hby.kept k).holds.trans hnot⟩
  · have hseg := seg_seated s n r k
    have hboth : ¬ (k ∈ s.segsInUse n.corridor ∧ s.layout.segMeets n.corridor k r = true) := by
      rintro ⟨hin, hmeets⟩
      rcases hout with hout | hout
      · exact hout hin
      · exact absurd (hout.symm.trans hmeets) nofun
    rw [if_neg hboth] at hseg
    exact (hby.kept k).holds.trans (by rw [hseg]; exact leftBy_holds ..)

end Sys2Proof.Machine
end

section
/-! PROOFS. DECLARE (R114). -/

namespace Sys2Proof.Machine

/-! ## What a seating leaves -/

theorem seat_waiting (s : State) (n : CarriageName) (k : Nat) : n ∉ ((s.seat n).seg n.corridor k).waiting := by
  have hleft (k : Nat) : n ∉ ((s.givenUp n).seg n.corridor k).waiting := by
    rw [State.givenUp, seg_givenUp]
    exact leftBy_waiting _ n
  intro hw
  have hbefore := ((seat_bystander s n).kept k).waits hw
  split at hbefore
  · exact hleft k hbefore
  · split at hbefore
    · exact hleft k hbefore
    · rename_i r _
      rw [seg_seated] at hbefore
      split at hbefore
      · rw [seatedBy_waiting] at hbefore
        exact leftBy_waiting _ n hbefore
      · exact leftBy_waiting _ n hbefore

theorem seat_unseated_holds {s : State} {n : CarriageName} (h : (s.car n).state = .unplaced ∨ s.uncertain n = none) (k : Nat) :
    ((s.seat n).seg n.corridor k).holds n = false := by
  have hleft (k : Nat) : ((s.givenUp n).seg n.corridor k) = (s.seg n.corridor k).leftBy n := seg_givenUp s n k
  rw [seat_unseated h]
  refine ((Bystander.retryAll (fun j => ?_) _).kept k).holds.trans ?_
  · rw [hleft]
    exact leftBy_waiting _ n
  · rw [hleft]
    exact leftBy_holds ..

/-- A seating is read off the layers alone. -/
theorem Seated.of_layers {s t u : State} {n : CarriageName} {r : Int × Int} (h : Seated s t n r) (hl : SameLayers t u) : Seated s u n r := by
  intro k
  have hlayers := hl n.corridor k
  simp only [State.layers, Prod.mk.injEq] at hlayers
  obtain ⟨hfence, hrun, hstand⟩ := hlayers
  have hholds (m : CarriageName) : (u.seg n.corridor k).holds m = (t.seg n.corridor k).holds m := by
    simp only [Segment.holds, hrun, hstand]
  rw [hstand, hrun, hfence, hholds n]
  simp only [hholds]
  exact h k

/-! ## The range of DECLARE -/

theorem orderKept_iff (s : State) (n : CarriageName) (p : Int) (length : Nat) : s.orderKept n p length = true ↔
    ∀ (m : CarriageName) (jt : CarriageItem) (q : Int), m.corridor = n.corridor → m ≠ n → s.item m = some jt → (s.car m).p = some q →
      if m.ordinal < n.ordinal then q + jt.length < p else p + length < q := by
  have hmem (m : CarriageName) : m ∈ s.carsOf n.corridor ↔ m.corridor = n.corridor ∧ s.item m ≠ none := by
    rw [State.carsOf, List.mem_filter, mem_corridor_carriages, hasRecord_iff]
  simp only [State.orderKept, List.all_eq_true, Bool.or_eq_true, decide_eq_true_eq, hmem, State.footprint]
  constructor
  · intro h m jt q hc hne hit hq
    have hone := (h m ⟨hc, by simp [hit]⟩).resolve_left hne
    simp only [hit, hq] at hone
    split
    · rename_i ho
      simpa [ho] using hone
    · rename_i ho
      simpa [ho] using hone
  · rintro h m ⟨hc, hit⟩
    by_cases hne : m = n
    · exact .inl hne
    · right
      obtain ⟨jt, hjt⟩ := Option.ne_none_iff_exists'.mp hit
      cases hq : (s.car m).p with
      | none => simp only [hjt]
      | some q =>
        have hone := h m jt q hc hne hjt hq
        simp only [hjt]
        split
        · rename_i ho
          simpa [ho] using hone
        · rename_i ho
          simpa [ho] using hone

theorem declareOk_iff (s : State) (n : CarriageName) (p tolerance : Nat) : s.declareOk n p tolerance = true ↔
    tolerance ≤ 65535 ∧ ∀ it, s.item n = some it →
      (∀ e, s.layout.length.get n.corridor = some e → p + it.length ≤ e) ∧
      ∀ (m : CarriageName) (jt : CarriageItem) (q : Int), m.corridor = n.corridor → m ≠ n → s.item m = some jt → (s.car m).p = some q →
        if m.ordinal < n.ordinal then q + jt.length < p else (p : Int) + it.length < q := by
  simp only [State.declareOk, Bool.and_eq_true, word16_iff]
  refine and_congr_right fun _ => ?_
  cases hit : s.item n with
  | none => simp
  | some it =>
    simp only [Bool.and_eq_true, orderKept_iff, Option.some.injEq, forall_eq']
    refine and_congr ?_ Iff.rfl
    cases s.layout.length.get n.corridor <;> simp

/-! ## The request -/

/-- The record a DECLARE writes (R114). -/
def Carriage.declared (v : Carriage) (p tolerance : Nat) : Carriage :=
  { v with
    state := .unhomed, p := some (p : Int), offset := none, uBase := clampTolerance tolerance, sinceCorrection := 0
    u := clampTolerance tolerance, task := none, prevAnswer := none }

theorem declare_eq (s : State) (n : CarriageName) (p tolerance : Nat) : s.declare n p tolerance =
    ((s.setCar n ((s.car n).declared p tolerance)).seat n).owe n.corridor := rfl

theorem serveDeclare_eq {s : State} {n : CarriageName} {p tolerance : Nat} (h : s.declareOk n p tolerance = true) (hit : s.item n ≠ none) :
    serveDeclare s ⟨.known n, p, tolerance⟩ =
      if (s.car n).state = .unplaced ∨ (s.car n).state = .unhomed then okWith (s.declare n p tolerance) [.num (clampTolerance tolerance)]
      else refuse s .state := by
  simp only [serveDeclare, h, (hasRecord_iff s n).mpr hit, Bool.not_true, Bool.false_eq_true, if_false]
  cases (s.car n).state <;> rfl

theorem setCar_car_self (s : State) (n : CarriageName) (v : Carriage) : (s.setCar n v).car n = v := by rw [State.car_setCar, if_pos rfl]

theorem declared_uncertain {s : State} {n : CarriageName} {it : CarriageItem} (hit : s.item n = some it) (p tolerance : Nat) :
    (s.setCar n ((s.car n).declared p tolerance)).uncertain n =
      some ((p : Int) - (clampTolerance tolerance : Nat), (p : Int) + it.length + (clampTolerance tolerance : Nat)) := by
  have hitem : (s.setCar n ((s.car n).declared p tolerance)).item n = some it := hit
  have hcar : ((s.setCar n ((s.car n).declared p tolerance)).car n) = (s.car n).declared p tolerance := setCar_car_self ..
  simp only [State.uncertain, hitem, hcar]
  rfl

/-- Settles O43: the range of a declaration, the seating of one carriage, and the request row by row. -/
theorem declareStatesThePosition : Obligations.DeclareStatesThePosition := by
  refine ⟨declareOk_iff, fun s n _ => ⟨seat_waiting s n, seat_unseated_holds, fun r => seat_seated⟩, fun s l p tolerance h hp ht => ?_⟩
  have hform (c : Named CarriageName) : DeclareArgs.form ⟨c, p, tolerance⟩ = true := by simp only [DeclareArgs.form, hp, ht, Bool.and_self]
  refine ⟨congrArg Host.Outcome.next (request_refuses h (hform _) nofun rfl), fun n =>
    ⟨fun hno => congrArg Host.Outcome.next (request_refuses h (hform _) nofun ?_), fun hok =>
      ⟨fun hnone => congrArg Host.Outcome.next (request_refuses h (hform _) nofun ?_),
        fun hit h1 h2 => congrArg Host.Outcome.next (request_refuses h (hform _) nofun ?_), fun hit hstate => ?_⟩⟩⟩
  · have hno' : (s.takeLine l .declare).declareOk n p tolerance = false := hno
    simp only [serveDeclare, hno', Bool.not_false, if_true]
  · have hok' : (s.takeLine l .declare).declareOk n p tolerance = true := hok
    have hrecord : (s.takeLine l .declare).hasRecord n = false := congrArg Option.isSome hnone
    simp only [serveDeclare, hok', hrecord, Bool.not_true, Bool.false_eq_true, if_false, Bool.not_false, if_true]
  · exact (serveDeclare_eq (s := s.takeLine l .declare) hok hit).trans (if_neg fun hor => hor.elim h1 h2)
  · have hserve := (serveDeclare_eq (s := s.takeLine l .declare) hok hit).trans (if_pos hstate)
    rw [declare_eq] at hserve
    refine ⟨_, congrArg Host.Outcome.next (request_serves h (hform _) nofun hserve), ?_, fun hm => ?_, fun it u _ hit' hu => ?_⟩
    · have hwrites : Calm (({ s with
          carriages := s.carriages.set n
            { s.car n with
              p := some (p : Int), offset := none, uBase := max 100 (min 1000 tolerance), sinceCorrection := 0
              u := max 100 (min 1000 tolerance), prevAnswer := none } } : State).takeLine l .declare)
          ((s.takeLine l .declare).setCar n ((s.car n).declared p tolerance)) := by
        refine ⟨rfl, fun _ => rfl, fun _ => rfl, fun m => ?_, rfl⟩
        refine (congrArg Carriage.stand (State.car_setCar s n m _)).trans
          (Eq.trans ?_ (congrArg Carriage.stand (State.car_setCar s n m _)).symm)
        split <;> rfl
      exact Calm.answered (((hwrites.trans (.seat _ n)).trans (.owe _ n.corridor)).trans (.finish (s.takeLine l .declare) _)) l .declare _
    · have hseat := (SameCars.seat (s := (s.takeLine l .declare).setCar n ((s.car n).declared p tolerance)) hm n).car n
      have hunhomed : (((((s.takeLine l .declare).setCar n ((s.car n).declared p tolerance)).seat n).owe n.corridor).car n).state = .unhomed :=
        congrArg Carriage.state (hseat.trans (setCar_car_self ..))
      have hends := (EndsQuietly.finish (s.takeLine l .declare)
        ((((s.takeLine l .declare).setCar n ((s.car n).declared p tolerance)).seat n).owe n.corridor)
        ((SameCars.seat (s := (s.takeLine l .declare).setCar n ((s.car n).declared p tolerance)) hm n).configuring hm)).cars n
          (by rw [hunhomed]; decide)
      exact (congrArg Carriage.state hends).trans hunhomed
    · subst hu
      have hseated : Seated ((s.takeLine l .declare).setCar n ((s.car n).declared p tolerance)) _ n _ :=
        seat_seated (by rw [setCar_car_self]; exact nofun) (declared_uncertain (s := s.takeLine l .declare) hit' p tolerance)
      have hlayers : SameLayers (((s.takeLine l .declare).setCar n ((s.car n).declared p tolerance)).seat n)
          (((s.takeLine l .declare).finish ((((s.takeLine l .declare).setCar n ((s.car n).declared p tolerance)).seat n).owe
            n.corridor)).answer l .declare (.ok [.num (clampTolerance tolerance)])) :=
        fun c k => SameLayers.finish (s.takeLine l .declare) _ c k
      exact hseated.of_layers hlayers

end Sys2Proof.Machine
end

section
/-! PROOFS. How an answer is judged (R147, R148): docking, transfers, shifts that end and work that starts. -/

namespace Sys2Proof.Machine

/-! ## The judgement of an answer (R147 step 4) -/

theorem judgeAnswer_fault {s : State} {n : CarriageName} {mode : SetMode} {a : StatusAnswer} (h : a.state = .driveFault) :
    s.judgeAnswer n mode a = s.fault n .driveFault (some a.faultCode) := if_pos h

theorem judgeAnswer_transferring {s : State} {n : CarriageName} {mode : SetMode} {a : StatusAnswer} {tr : Transfer}
    (h : a.state ≠ .driveFault) (hs : (s.car n).state = .transferring) (ht : (s.car n).transfer = some tr) : s.judgeAnswer n mode a =
      if mode = State.modeOf tr.kind ∧ a.state = .transferDone then s.transferOutcome n tr false a.loaded
      else if mode = State.modeOf tr.kind ∧ a.state = .transferFailed then s.transferOutcome n tr true a.loaded
      else s := by
  simp only [State.judgeAnswer, if_neg h, hs, ht]

theorem judgeAnswer_running {s : State} {n : CarriageName} {mode : SetMode} {a : StatusAnswer} (h : a.state ≠ .driveFault)
    (hs : (s.car n).state = .running) : s.judgeAnswer n mode a = s.judgeRunning n a := by
  simp only [State.judgeAnswer, if_neg h, hs]

theorem judgeAnswer_unrecorded {s : State} {n : CarriageName} {mode : SetMode} {a : StatusAnswer} (h : a.state ≠ .driveFault)
    (hs : (s.car n).state = .transferring) (ht : (s.car n).transfer = none) : s.judgeAnswer n mode a = s := by
  simp only [State.judgeAnswer, if_neg h, hs, ht]

theorem judgeAnswer_otherwise {s : State} {n : CarriageName} {mode : SetMode} {a : StatusAnswer} (h : a.state ≠ .driveFault)
    (h1 : (s.car n).state ≠ .transferring) (h2 : (s.car n).state ≠ .running) : s.judgeAnswer n mode a = s := by
  unfold State.judgeAnswer
  rw [if_neg h]
  split
  · rename_i hs _; exact absurd hs h1
  · rename_i hs; exact absurd hs h2
  · rfl

theorem judgeRunning_shift {s : State} {n : CarriageName} {a : StatusAnswer} (h : (s.car n).onShift = true) (ha : a.state = .atTarget) :
    s.judgeRunning n a = s.becomeIdle n := if_pos ⟨ha, h⟩

theorem judgeRunning_withdrawn {s : State} {n : CarriageName} {a : StatusAnswer} (h : (s.car n).onShift = false)
    (hn : (s.car n).assigned = none) (ha : a.speed = 0) : s.judgeRunning n a = s.becomeIdle n := by
  simp only [State.judgeRunning, h, hn, ha, Bool.false_eq_true, and_false, if_false, and_self, if_true]

theorem judgeRunning_ordered {s : State} {n : CarriageName} {a : StatusAnswer} {o : Order} {id : Nat} {leg : Leg} {k : Nat} {m : MouthItem}
    (h : (s.car n).onShift = false) (hid : (s.car n).assigned = some id) (ho : s.order? id = some o) (hleg : (s.car n).leg = some leg)
    (hnext : State.nextLane o = some k) (hm : s.mouth k o.corridor = some m) :
    s.judgeRunning n a = if a.state = .atTarget ∧ leg.target = m.dock then s.dockAt n k else s := by
  have htarget : s.orderTarget o = some (m.dock : Int) := by simp only [State.orderTarget, hnext, Option.bind_some, State.dock, hm, Option.map_some]
  simp only [State.judgeRunning, h, hid, hleg, Option.bind_some, ho, htarget, hnext, Bool.false_eq_true, and_false, if_false,
    Option.map_some, Option.isSome_some, true_and, Option.some.injEq, reduceCtorEq, false_and, eq_comm (a := leg.target)]

theorem judgeRunning_quiet {s : State} {n : CarriageName} {a : StatusAnswer} (ha : a.state ≠ .atTarget)
    (h : (s.car n).onShift = true ∨ (s.car n).assigned ≠ none ∨ a.speed ≠ 0) : s.judgeRunning n a = s := by
  have hnot : ¬ (a.speed = 0 ∧ (s.car n).assigned = none ∧ (s.car n).onShift = false) := by
    rintro ⟨hv, hn, hs⟩
    rcases h with h | h | h
    · exact absurd (h.symm.trans hs) nofun
    · exact h hn
    · exact h hv
  simp only [State.judgeRunning, ha, false_and, if_false, if_neg hnot]

theorem nextLane_eq_some {o : Order} {k : Nat} (h : (o.phase = .fetching ∧ o.srcLane = some k) ∨ (o.phase = .carrying ∧ o.dest = k)) :
    State.nextLane o = some k := by
  rcases h with ⟨hp, hk⟩ | ⟨hp, rfl⟩
  · simp only [State.nextLane, hp, hk]
  · simp only [State.nextLane, hp]

/-! ## Docking and the start of a transfer (R128, R129, R132) -/

theorem lockRequest_free {s : State} {n : CarriageName} {k : Nat} (hd : (s.car n).docked = some k) (hb : s.isBay k = false) :
    s.lockRequest n = s.startTransfer n := by
  simp only [State.lockRequest, hd, hb, Bool.false_eq_true, if_false]

theorem lockRequest_granted {s : State} {n : CarriageName} {k : Nat} (hd : (s.car n).docked = some k) (hb : s.isBay k = true)
    (hl : (s.lane k).lock = none) : s.lockRequest n = (s.setLane k { s.lane k with lock := some n.corridor }).startTransfer n := by
  simp only [State.lockRequest, hd, hb, if_true, hl, State.modLane]

theorem lockRequest_waits {s : State} {n : CarriageName} {k : Nat} (hd : (s.car n).docked = some k) (hb : s.isBay k = true)
    (hl : (s.lane k).lock ≠ none) : s.lockRequest n = s.setLane k { s.lane k with waiting := some n } := by
  obtain ⟨c, hc⟩ := Option.ne_none_iff_exists'.mp hl
  simp only [State.lockRequest, hd, hb, if_true, hc, State.modLane]

/-- A carriage as its transfer starts (R132). -/
def Carriage.transferringBy (v : Carriage) (tr : Transfer) (c : Corridor) : Carriage :=
  { v with
    slot := none, slotOverrun := false, docked := none, state := .transferring, mark := some ⟨tr.lane, c, tr.bench⟩, transfer := some tr }

theorem startTransfer_eq {s : State} {n : CarriageName} {k id b : Nat} {o : Order} {m : MouthItem} (hd : (s.car n).docked = some k)
    (ha : (s.car n).assigned = some id) (ho : s.order? id = some o)
    (hb : if o.phase = .carrying then (s.car n).load = .bench b else s.endMost k n.corridor = some b)
    (hm : s.mouth k n.corridor = some m) :
    s.startTransfer n = (s.setCar n ((s.car n).transferringBy
      ⟨if o.phase = .carrying then .push else .pull, k, m.side, id, b, decide (o.phase = .carrying), s.millis⟩ n.corridor)).modOrder
        id fun q => { q with phase := if o.phase = .carrying then .pushing else .pulling } := by
  have hid : o.id = id := order?_id ho
  by_cases hp : o.phase = .carrying
  · rw [if_pos hp] at hb
    simp only [State.startTransfer, hd, ha, Option.bind_some, ho, hp, if_true, hb, Load.bench?, hm, hid]
    rfl
  · rw [if_neg hp] at hb
    simp only [State.startTransfer, hd, ha, Option.bind_some, ho, hp, if_false, hb, hm, hid]
    rfl

/-! ## Shifts that end and work that starts (R63, R72, R73) -/

theorem becomeIdle_eq (s : State) (n : CarriageName) : s.becomeIdle n =
    if (s.car n).onShift = true then (((s.setCar n (s.car n).idleNow).convert n).owe n.corridor).endShift n
    else ((s.setCar n (s.car n).idleNow).convert n).owe n.corridor := rfl

theorem waitsOn_iff (s : State) (n w : CarriageName) : s.waitsOn n w = true ↔ ∃ k, (s.car w).task = some k ∧ n ∈ k.waitingFor := by
  unfold State.waitsOn
  cases (s.car w).task <;> simp

theorem endShift_nobody {s : State} {n : CarriageName} (h : ∀ w ∈ s.carsOf n.corridor, ∀ k, (s.car w).task = some k → n ∉ k.waitingFor) :
    s.endShift n = s.owe n.corridor := by
  have hnone : (s.carsOf n.corridor).find? (s.waitsOn n) = none := by
    rw [List.find?_eq_none]
    intro w hw hwaits
    obtain ⟨k, hk, hmem⟩ := (waitsOn_iff ..).mp hwaits
    exact h w hw k hk hmem
  simp only [State.endShift]
  split
  · rfl
  · rename_i w hw
    exact absurd (hnone.symm.trans hw) nofun

/-- The work of a carriage as a shift it waits for has ended (R73). -/
def Carriage.unwaiting (v : Carriage) (n : CarriageName) (k : Task) : Carriage :=
  { v with task := some { k with waitingFor := k.waitingFor.filter fun m => decide (m ≠ n) } }

theorem endShift_waited {s : State} {n w : CarriageName} {k : Task} (hw : w ∈ s.carsOf n.corridor) (hk : (s.car w).task = some k)
    (hn : n ∈ k.waitingFor) (honly : ∀ m ∈ s.carsOf n.corridor, m ≠ w → ∀ j, (s.car m).task = some j → n ∉ j.waitingFor) :
    s.endShift n =
      if k.waitingFor.filter (fun m => decide (m ≠ n)) = [] then ((s.owe n.corridor).setCar w ((s.car w).unwaiting n k)).startWork w
      else (s.owe n.corridor).setCar w ((s.car w).unwaiting n k) := by
  have hmod : (s.owe n.corridor).modCar w (fun v =>
      { v with task := v.task.map fun k => { k with waitingFor := k.waitingFor.filter fun m => decide (m ≠ n) } }) =
      (s.owe n.corridor).setCar w ((s.car w).unwaiting n k) := by
    simp only [State.modCar, State.car_owe, hk, Option.map_some]
    rfl
  have htask : ((s.car w).unwaiting n k).task = some { k with waitingFor := k.waitingFor.filter fun m => decide (m ≠ n) } := rfl
  simp only [State.endShift]
  split
  · rename_i hnone
    exact absurd ((waitsOn_iff ..).mpr ⟨k, hk, hn⟩) (List.find?_eq_none.mp hnone w hw)
  · rename_i m hm
    have heq : m = w := by
      refine Classical.byContradiction fun hne => ?_
      obtain ⟨j, hj, hmem⟩ := (waitsOn_iff ..).mp (List.find?_some (p := s.waitsOn n) hm)
      exact honly m (List.mem_of_find?_eq_some hm) hne j hj hmem
    subst heq
    rw [hmod, setCar_car_self, htask]
    simp only [List.isEmpty_iff]

theorem startWork_homing {s : State} {w : CarriageName} {k : Task} (hk : (s.car w).task = some k) (hh : k.kind = .homing) :
    s.startWork w = s.enterHoming w := by
  simp only [State.startWork, hk, hh]

/-- The lane an order's carriage travels to first (R72, R116). -/
def Order.firstLane (o : Order) : Option Nat :=
  match o.source with
  | .aboard _ => some o.dest
  | _ => o.srcLane

/-- An order as its carriage starts (R46). -/
def Order.started (o : Order) : Order := { o with phase := match o.source with | .aboard _ => .carrying | _ => .fetching }

theorem nextLane_started (o : Order) : State.nextLane o.started = o.firstLane := by
  unfold Order.started Order.firstLane
  cases o.source <;> rfl

theorem startWork_order {s : State} {w : CarriageName} {k : Task} {id j : Nat} {o : Order} {m : MouthItem} {p : Int}
    (hk : (s.car w).task = some k) (ho : k.kind = .order) (ha : (s.car w).assigned = some id) (hq : s.order? id = some o)
    (hp : (s.car w).p = some p) (hj : o.firstLane = some j) (hm : s.mouth j o.corridor = some m) :
    s.startWork w = (s.modOrder id Order.started).setCar w { s.car w with
      state := .running, leg := some ⟨m.dock, if p ≤ (m.dock : Int) then .south else .north⟩ } := by
  have hstarted : ((s.modOrder id Order.started).modCar w fun v => { v with state := .running }).order? id = some o.started :=
    (order?_modOrder (g := Order.started) fun _ => rfl).trans (congrArg (Option.map Order.started) hq)
  have htarget : ((s.modOrder id Order.started).modCar w fun v => { v with state := .running }).orderTarget o.started = some (m.dock : Int) := by
    have hmouth : ((s.modOrder id Order.started).modCar w fun v => { v with state := .running }).mouth j o.started.corridor = some m := hm
    simp only [State.orderTarget, nextLane_started, hj, Option.bind_some, State.dock, hmouth, Option.map_some]
  have hstart : s.startOrder w = ((s.modOrder id Order.started).modCar w fun v => { v with state := .running }).beginLeg w m.dock := by
    unfold State.startOrder
    rw [ha]
    show (match (((s.modOrder id Order.started).modCar w fun v => { v with state := .running }).order? id).bind
      ((s.modOrder id Order.started).modCar w fun v => { v with state := .running }).orderTarget with
      | some t => ((s.modOrder id Order.started).modCar w fun v => { v with state := .running }).beginLeg w t
      | none => (s.modOrder id Order.started).modCar w fun v => { v with state := .running }) = _
    rw [hstarted, Option.bind_some, htarget]
  have hwork : s.startWork w = s.startOrder w := by simp only [State.startWork, hk, ho]
  rw [hwork, hstart, State.beginLeg, modCar_modCar]
  refine congrArg ((s.modOrder id Order.started).setCar w) ?_
  show ({ s.car w with state := .running, leg := some ⟨m.dock, if (s.car w).p.getD (m.dock : Int) ≤ (m.dock : Int) then .south else .north⟩ } : Carriage) = _
  rw [hp]
  rfl

end Sys2Proof.Machine
end

section
/-! PROOFS. Readings, missed gates, release behind and conversion (R83, R84, R106, R141). -/

namespace Sys2Proof.Machine

/-! ## Readings (R141) -/

theorem takeReading_slot {s : State} {n : CarriageName} (number : Nat) (h : (s.car n).state = .transferring) (hs : (s.car n).slot = none) :
    s.takeReading n number = s.modCar n fun v => { v with slot := some number } := by
  simp only [State.takeReading, h, if_true, hs]

theorem takeReading_overrun {s : State} {n : CarriageName} (number : Nat) (h : (s.car n).state = .transferring)
    (hs : (s.car n).slot ≠ none) : s.takeReading n number = s.modCar n fun v => { v with slotOverrun := true } := by
  obtain ⟨x, hx⟩ := Option.ne_none_iff_exists'.mp hs
  simp only [State.takeReading, h, if_true, hx]

theorem takeReading_stray {s : State} {n : CarriageName} (number : Nat) (h : (s.car n).state ≠ .transferring) :
    s.takeReading n number = s.notifyAll (.strayRead n number) := by
  simp only [State.takeReading, if_neg h]

/-! ## Missed gates (R106) -/

theorem mem_keys {α : Type} (t : Table α) (k : Nat) : k ∈ t.keys ↔ t.get? k ≠ none := by
  constructor
  · intro h
    obtain ⟨e, he, rfl⟩ := List.mem_map.mp h
    exact getL_ne_none_of_mem he
  · intro h
    obtain ⟨v, hv⟩ := Option.ne_none_iff_exists'.mp h
    exact List.mem_map.mpr ⟨(k, v), mem_entries_of_get? t k v hv, rfl⟩

theorem mem_serviceGates (s : State) (c : Corridor) (k : Nat) (g : Int) : (k, g) ∈ s.serviceGates c ↔
    s.gateInput c k ≠ none ∧ (s.gate c k).service = .inService ∧ ∃ p, s.layout.gatePos c k = some p ∧ g = (p : Int) := by
  simp only [State.serviceGates, List.mem_filterMap, mem_keys]
  constructor
  · rintro ⟨j, hj, h⟩
    split at h
    · rename_i hservice
      cases hp : s.layout.gatePos c j with
      | none => rw [hp] at h; exact absurd h nofun
      | some p =>
        rw [hp] at h
        obtain ⟨rfl, rfl⟩ := Prod.mk.inj (Option.some.inj h)
        exact ⟨hj, hservice, p, hp, rfl⟩
    · exact absurd h nofun
  · rintro ⟨hj, hservice, p, hp, rfl⟩
    exact ⟨k, hj, by rw [if_pos hservice, hp]; rfl⟩

theorem past_front (dir : Dir) (p : Int) (length : Nat) (g : Int) :
    State.past dir (frontOf (p, p + length) dir) g = frontPast dir p length g := by
  cases dir <;> rfl

theorem mem_missedGates (s : State) (n : CarriageName) (prev : Option (Int × Nat)) (k : Nat) : k ∈ s.missedGates n prev ↔
    ∃ dir p it p0 u0 g, s.moving n = true ∧ (s.car n).dir = some dir ∧ (s.car n).p = some p ∧ s.item n = some it ∧
      prev = some (p0, u0) ∧ s.gateInput n.corridor k ≠ none ∧ (s.gate n.corridor k).service = .inService ∧
      (s.gate n.corridor k).level = .clear ∧ s.layout.gatePos n.corridor k = some g ∧
      ((s.car n).u : Int) + (s.timing n.corridor).tol < frontPast dir p it.length g ∧
      frontPast dir p0 it.length g ≤ (u0 : Int) + (s.timing n.corridor).tol := by
  simp only [State.missedGates]
  split
  · rename_i dir p it p0 u0 hmoving hdir hp hit
    simp only [List.mem_map, List.mem_filter, Bool.and_eq_true, decide_eq_true_eq, past_front]
    constructor
    · rintro ⟨⟨j, x⟩, ⟨hservice, ⟨hnow, hbefore⟩, hlevel⟩, rfl⟩
      obtain ⟨hinput, hin, g, hg, rfl⟩ := (mem_serviceGates ..).mp hservice
      exact ⟨dir, p, it, p0, u0, g, hmoving, hdir, hp, hit, rfl, hinput, hin, hlevel, hg, hnow, hbefore⟩
    · rintro ⟨dir', p', it', p0', u0', g, -, hdir', hp', hit', hprev, hinput, hservice, hlevel, hg, hnow, hbefore⟩
      obtain rfl := Option.some.inj (hdir.symm.trans hdir')
      obtain rfl := Option.some.inj (hp.symm.trans hp')
      obtain rfl := Option.some.inj (hit.symm.trans hit')
      obtain ⟨rfl, rfl⟩ := Prod.mk.inj (Option.some.inj hprev)
      exact ⟨(k, (g : Int)), ⟨(mem_serviceGates ..).mpr ⟨hinput, hservice, g, hg, rfl⟩, ⟨hnow, hbefore⟩, hlevel⟩, rfl⟩
  · rename_i hnot
    constructor
    · exact fun h => absurd h (by simp)
    · rintro ⟨dir, p, it, p0, u0, g, hmoving, hdir, hp, hit, hprev, -⟩
      exact (hnot dir p it p0 u0 hmoving hdir hp hit hprev).elim

theorem missGate_counts {s : State} {c : Corridor} {k : Nat} (h : (s.gate c k).misses < 2) :
    State.missGate c s k = s.modGate c k fun g => { g with misses := (s.gate c k).misses + 1 } := by
  have hcount : (s.gate c k).misses + 1 < 3 := by omega
  simp only [State.missGate, if_pos hcount]

theorem missGate_out {s : State} {c : Corridor} {k : Nat} (h : 2 ≤ (s.gate c k).misses) :
    State.missGate c s k = (s.modGate c k fun g => { g with misses := 3, service := .outOfService }).notifyAll (.gateOut c k .missed) := by
  have hcount : ¬ (s.gate c k).misses + 1 < 3 := by omega
  simp only [State.missGate, if_neg hcount]

/-! ## Release behind (R83) -/

theorem whollyBehind_eq (s : State) (n : CarriageName) (dir : Dir) (r : Int × Int) (k : Nat) : s.whollyBehind n dir r k =
    (s.layout.segSpan n.corridor k).any fun x : Int × Int =>
      match dir with | .south => decide (x.2 < r.1) | .north => decide (r.2 < x.1) := by
  unfold State.whollyBehind
  cases s.layout.segSpan n.corridor k with
  | none => rfl
  | some x => cases dir <;> rfl

theorem releaseBehind_unmoving {s : State} {n : CarriageName} (h : (s.car n).dir = none) : s.releaseBehind n = s := by
  simp only [State.releaseBehind, h]

theorem releaseBehind_eq {s : State} {n : CarriageName} {dir : Dir} {r : Int × Int} (hd : (s.car n).dir = some dir) (hr : s.uncertain n = some r) :
    s.releaseBehind n = State.retryAll n.corridor
      ((match dir with | .south => s.heldRun n | .north => (s.heldRun n).reverse).takeWhile fun k => s.whollyBehind n dir r k)
      (s.clearLayers n ((match dir with | .south => s.heldRun n | .north => (s.heldRun n).reverse).takeWhile fun k =>
        s.whollyBehind n dir r k)) := by
  cases dir <;> simp only [State.releaseBehind, hd, hr]

/-! ## Conversion (R84) -/

/-- A segment that passes to a carriage's standing layer. -/
def Segment.stoodBy (g : Segment) (n : CarriageName) : Segment :=
  { g with running := if g.running.map (·.1) = some n then none else g.running, standing := some n }

theorem stoodBy_stoodBy (g : Segment) (n : CarriageName) : (g.stoodBy n).stoodBy n = g.stoodBy n := by
  rcases g with ⟨f, r, d, w⟩
  simp only [Segment.stoodBy, Segment.mk.injEq, true_and, and_true]
  split <;> simp_all

theorem seg_toStandings (n : CarriageName) (l : List Nat) (s : State) (k : Nat) : (l.foldl (State.toStanding n) s).seg n.corridor k =
    if k ∈ l then (s.seg n.corridor k).stoodBy n else s.seg n.corridor k := by
  induction l generalizing s with
  | nil => simp
  | cons a rest ih =>
    have hone : (State.toStanding n s a).seg n.corridor k = if k = a then (s.seg n.corridor a).stoodBy n else s.seg n.corridor k := by
      refine (State.seg_modSeg ..).trans ?_
      simp only [true_and]
      rfl
    rw [List.foldl_cons, ih, hone]
    by_cases hk : k = a
    · subst hk
      simp [stoodBy_stoodBy]
    · simp [hk]

theorem stoodBy_stands {g : Segment} {n : CarriageName} (hone : g.OneHolder) (h : g.holds n = true) :
    (g.stoodBy n).standing = some n ∧ (g.stoodBy n).running = none := by
  refine ⟨rfl, ?_⟩
  simp only [Segment.stoodBy]
  split
  · rfl
  · rename_i hnot
    cases hr : g.running with
    | none => rfl
    | some x =>
      have hx : x.1 = n := hone x.1 n ((holds_iff ..).mpr (.inl (by simp [hr]))) h
      exact absurd (by rw [hr]; simp [hx]) hnot

/-- The unit once a carriage stands on the segments it keeps, and waits nowhere. -/
def State.stood (s : State) (n : CarriageName) (gone kept : List Nat) : State :=
  (kept.foldl (State.toStanding n) (s.clearLayers n gone)).unwait n

theorem seg_stood (s : State) (n : CarriageName) (gone kept : List Nat) (k : Nat) : (s.stood n gone kept).seg n.corridor k =
    { (if k ∈ kept then (if k ∈ gone then (s.seg n.corridor k).clearOf n else s.seg n.corridor k).stoodBy n
      else if k ∈ gone then (s.seg n.corridor k).clearOf n else s.seg n.corridor k) with
      waiting := (s.seg n.corridor k).waiting.filter fun m => decide (m ≠ n) } := by
  have hclear : (s.clearLayers n gone).seg n.corridor k = if k ∈ gone then (s.seg n.corridor k).clearOf n else s.seg n.corridor k := by
    rw [seg_clearLayers]
    simp only [true_and]
  have hwaiting : ((kept.foldl (State.toStanding n) (s.clearLayers n gone)).seg n.corridor k).waiting = (s.seg n.corridor k).waiting := by
    rw [seg_toStandings, hclear]
    split <;> split <;> rfl
  rw [State.stood, seg_unwait, if_pos rfl, hwaiting, seg_toStandings, hclear]

theorem convert_unplaced {s : State} {n : CarriageName} (h : s.uncertain n = none) :
    s.convert n = State.retryAll n.corridor ((s.heldRun n).filter (s.runsOn n)) (s.stood n [] (s.heldRun n)) := by
  simp only [State.convert, h]
  rfl

/-- The segments of a run that meet a stretch, and those that do not. -/
def State.keptOf (s : State) (n : CarriageName) (r : Int × Int) : List Nat :=
  (s.heldRun n).filter fun k => s.layout.segMeets n.corridor k r

def State.goneOf (s : State) (n : CarriageName) (r : Int × Int) : List Nat :=
  (s.heldRun n).filter fun k => !s.layout.segMeets n.corridor k r

theorem convert_placed {s : State} {n : CarriageName} {r : Int × Int} (h : s.uncertain n = some r) :
    s.convert n = ((s.segsMeeting n.corridor r).filter fun k => !(s.heldRun n).contains k).foldl (State.seatOne n)
      (State.retryAll n.corridor ((s.heldRun n).filter fun k => (s.goneOf n r).contains k || s.runsOn n k)
        (s.stood n (s.goneOf n r) (s.keptOf n r))) := by
  simp only [State.convert, h]
  rfl

theorem seg_stood_waiting (s : State) (n : CarriageName) (gone kept : List Nat) (k : Nat) :
    n ∉ ((s.stood n gone kept).seg n.corridor k).waiting := by
  rw [seg_stood]
  simp

/-- A held segment that is kept stands under its carriage. -/
theorem seg_stood_kept {s : State} {n : CarriageName} {gone kept : List Nat} {k : Nat} (hone : (s.seg n.corridor k).OneHolder)
    (h : (s.seg n.corridor k).holds n = true) (hk : k ∈ kept) (hg : k ∉ gone) :
    ((s.stood n gone kept).seg n.corridor k).standing = some n ∧ ((s.stood n gone kept).seg n.corridor k).running = none := by
  rw [seg_stood, if_pos hk, if_neg hg]
  exact stoodBy_stands hone h

theorem seg_stood_gone {s : State} {n : CarriageName} {gone kept : List Nat} {k : Nat} (hk : k ∉ kept) (hg : k ∈ gone) :
    ((s.stood n gone kept).seg n.corridor k).holds n = false := by
  rw [seg_stood, if_neg hk, if_pos hg]
  exact clearOf_not_holds ..

theorem convert_stands {s : State} {n : CarriageName} (hs : OneCarriage s) (h : s.uncertain n = none) {k : Nat}
    (hk : (s.seg n.corridor k).holds n = true) :
    ((s.convert n).seg n.corridor k).standing = some n ∧ ((s.convert n).seg n.corridor k).running = none := by
  obtain ⟨hstand, hrun⟩ := seg_stood_kept (gone := []) (((oneCarriage_iff s).mp hs).2 n.corridor k) hk (mem_heldRun_of_holds hk) (by simp)
  rw [convert_unplaced h]
  exact ((Bystander.retryAll (seg_stood_waiting s n [] (s.heldRun n)) _).kept k).stands hstand hrun

/-- A conversion, segment by segment (R84). -/
theorem convert_segment {s : State} {n : CarriageName} {r : Int × Int} (hs : OneCarriage s) (h : s.uncertain n = some r) (k : Nat) :
    n ∉ ((s.convert n).seg n.corridor k).waiting ∧
    ((s.seg n.corridor k).holds n = true → s.layout.segMeets n.corridor k r = true →
      ((s.convert n).seg n.corridor k).standing = some n ∧ ((s.convert n).seg n.corridor k).running = none) ∧
    ((s.seg n.corridor k).holds n = true → s.layout.segMeets n.corridor k r = false →
      ((s.convert n).seg n.corridor k).holds n = false) ∧
    ((s.seg n.corridor k).holds n = false → s.layout.segMeets n.corridor k r = true → s.segInUse n.corridor k = true →
      ((s.convert n).seg n.corridor k).standing = some n ∨
      (((s.convert n).seg n.corridor k).fence ≠ none ∧ ((s.convert n).seg n.corridor k).namesOther n = true)) := by
  obtain ⟨hwf, hone⟩ := (oneCarriage_iff s).mp hs
  have hrun := mem_heldRun s n (hwf n.corridor) k
  have hretry : Bystander n (s.stood n (s.goneOf n r) (s.keptOf n r)) (State.retryAll n.corridor
      ((s.heldRun n).filter fun k => (s.goneOf n r).contains k || s.runsOn n k) (s.stood n (s.goneOf n r) (s.keptOf n r))) :=
    .retryAll (seg_stood_waiting s n _ _) _
  have hfresh : k ∈ (s.segsMeeting n.corridor r).filter (fun k => !(s.heldRun n).contains k) ↔
      (k ∈ s.segsInUse n.corridor ∧ s.layout.segMeets n.corridor k r = true) ∧ k ∉ s.heldRun n := by
    simp [mem_segsMeeting]
  rw [convert_placed h, seg_seatOnes]
  generalize State.retryAll n.corridor ((s.heldRun n).filter fun k => (s.goneOf n r).contains k || s.runsOn n k)
    (s.stood n (s.goneOf n r) (s.keptOf n r)) = t at hretry ⊢
  have hwaits : n ∉ (t.seg n.corridor k).waiting := fun hw => seg_stood_waiting s n _ _ k ((hretry.kept k).waits hw)
  refine ⟨?_, fun hk hmeets => ?_, fun hk hmeets => ?_, fun hk hmeets hin => ?_⟩
  · split
    · rwa [seatedBy_waiting]
    · exact hwaits
  · rw [if_neg fun hf => (hfresh.mp hf).2 (hrun.mpr hk)]
    obtain ⟨hstand, hrunning⟩ := seg_stood_kept (gone := s.goneOf n r) (kept := s.keptOf n r) (hone n.corridor k) hk
      (by simp [State.keptOf, hrun.mpr hk, hmeets]) (by simp [State.goneOf, hmeets])
    exact (hretry.kept k).stands hstand hrunning
  · rw [if_neg fun hf => (hfresh.mp hf).2 (hrun.mpr hk)]
    refine (hretry.kept k).holds.trans (seg_stood_gone ?_ ?_)
    · simp [State.keptOf, hmeets]
    · simp [State.goneOf, hrun.mpr hk, hmeets]
  · have huse : k ∈ s.segsInUse n.corridor := (mem_keys ..).mpr (Option.isSome_iff_ne_none.mp hin)
    rw [if_pos (hfresh.mpr ⟨⟨huse, hmeets⟩, fun hr => absurd (hk.symm.trans (hrun.mp hr)) nofun⟩), seatedBy_namesOther]
    cases hnames : (t.seg n.corridor k).namesOther n with
    | true => exact .inr ⟨by simp [Segment.seatedBy, hnames], rfl⟩
    | false => exact .inl (by simp [Segment.seatedBy, hnames])

end Sys2Proof.Machine
end

section
/-! PROOFS. The taking of a valid answer (R145 to R147, R149, R152). -/

namespace Sys2Proof.Machine

/-! ## What a drive last reported -/

/-- What a carriage keeps of its drive's last answer (R147, R149, R152). -/
def Carriage.reported (v : Carriage) :
    (Nat × LinkState × Option Nat × Option DriveState × Nat × Option Bool) × Option (BitVec 32) × Bool :=
  ((v.misses, v.link, v.lastAnswer, v.driveState, v.speed, v.lastLoad), v.lastOdometer, v.returned)

/-- Every carriage keeps what its drive last reported. -/
structure Reports (s t : State) : Prop where
  cars : ∀ m, (t.car m).reported = (s.car m).reported

namespace Reports

theorem refl (s : State) : Reports s s := ⟨fun _ => rfl⟩

theorem trans {s t u : State} (h : Reports s t) (k : Reports t u) : Reports s u := ⟨fun m => (k.cars m).trans (h.cars m)⟩

theorem foldl {α : Type} (f : State → α → State) (hf : ∀ t a, Reports t (f t a)) (l : List α) (s : State) : Reports s (l.foldl f s) := by
  induction l generalizing s with
  | nil => exact refl s
  | cons a rest ih => exact (hf s a).trans (ih (f s a))

theorem of_stand {s t : State} (h : ∀ m, (t.car m).stand = (s.car m).stand) : Reports s t :=
  ⟨fun m => by
    show (t.car m).stand.reported = (s.car m).stand.reported
    rw [h m]⟩

theorem of_calm {s t : State} (h : Calm s t) : Reports s t := of_stand h.cars

theorem of_cars {s t : State} (h : t.carriages = s.carriages) : Reports s t := ⟨fun m => by rw [State.car, State.car, h]⟩

theorem modCar (s : State) (n : CarriageName) (g : Carriage → Carriage) (hg : ∀ v, (g v).reported = v.reported) :
    Reports s (s.modCar n g) := by
  refine ⟨fun m => ?_⟩
  rw [car_modCar]
  split
  · rename_i hm
    subst hm
    exact hg _
  · rfl

theorem fault (s : State) (n : CarriageName) (kind : FaultKind) (code : Option Nat) : Reports s (s.fault n kind code) := by
  refine ⟨fun m => ?_⟩
  show ((s.fault n kind code).car m).stand.reported = (s.car m).stand.reported
  by_cases hm : m = n
  · subst hm
    rcases fault_stand_or s m kind code with h | h <;> rw [h]
    rfl
  · rw [fault_stand_other s hm]

theorem moveBench (s : State) (b : Nat) (pl : Place) : Reports s (s.moveBench b pl) := ⟨fun m => by rw [car_moveBench]⟩

theorem modBench (s : State) (b : Nat) (g : Bench → Bench) : Reports s (s.modBench b g) := by
  obtain ⟨y, hy, -⟩ := modBench_shape s b g
  rw [hy]
  exact of_cars rfl

theorem setIdentity (s : State) (b : Nat) (i : Identity) : Reports s (s.setIdentity b i) := modBench ..

theorem modLane (s : State) (k : Nat) (g : Lane → Lane) : Reports s (s.modLane k g) := of_cars rfl

theorem modOrder (s : State) (id : Nat) (g : Order → Order) : Reports s (s.modOrder id g) := of_cars rfl

theorem oweAt (s : State) (c : Corridor) (k : Nat) : Reports s (s.oweAt c k) := ⟨fun m => by rw [car_oweAt]⟩

theorem offerIdentity (s : State) (c : Corridor) (l b : Nat) (i : Identity) : Reports s (s.offerIdentity c l b i) := by
  simp only [State.offerIdentity]
  split
  · exact refl s
  · exact of_calm (.offer ..)

/-! ### Step 2: the reader bytes -/

theorem takeReading (s : State) (n : CarriageName) (number : Nat) : Reports s (s.takeReading n number) := by
  simp only [State.takeReading]
  split
  · split
    · exact modCar _ _ _ fun _ => rfl
    · exact modCar _ _ _ fun _ => rfl
  · exact of_cars rfl

theorem takeByte (n : CarriageName) (s : State) (b : Nat) : Reports s (State.takeByte n s b) := by
  have hmod : Reports s (s.modCar n fun v => { v with recognizer := (recognize (s.car n).recognizer b).1 }) := modCar _ _ _ fun _ => rfl
  simp only [State.takeByte]
  split
  · exact hmod.trans (takeReading ..)
  · exact hmod

theorem takeBytes (s : State) (n : CarriageName) (l : List Nat) : Reports s (s.takeBytes n l) := foldl _ (takeByte n) l s

/-! ### Step 3: the position -/

theorem refreshU (s : State) (n : CarriageName) : Reports s (s.refreshU n) := by
  have hmod (x : Nat) : Reports s (s.modCar n fun w => { w with u := x }) := modCar _ _ _ fun _ => rfl
  simp only [State.refreshU]
  split
  · exact refl s
  · split
    · exact hmod _
    · split
      · exact hmod _
      · exact (hmod _).trans (fault ..)

theorem checkEnds (s : State) (n : CarriageName) : Reports s (s.checkEnds n) := by
  have hmod (q : Int) : Reports s (s.modCar n fun w =>
      { w with p := some q, offset := match w.lastOdometer with | some odo => some (q - odo.toInt) | none => w.offset }) :=
    modCar _ _ _ fun _ => rfl
  simp only [State.checkEnds]
  split
  · split
    · exact refl s
    · exact (hmod _).trans (fault ..)
  · exact refl s

theorem setRehome (s : State) (n : CarriageName) : Reports s (s.setRehome n) := by
  refine ⟨fun m => ?_⟩
  rw [setRehome_car]
  split
  · rename_i hm
    subst hm
    rfl
  · rfl

theorem checkRehome (s : State) (n : CarriageName) (before : Nat) : Reports s (s.checkRehome n before) := by
  simp only [State.checkRehome]
  split
  · exact setRehome ..
  · exact refl s

theorem missGate (c : Corridor) (s : State) (k : Nat) : Reports s (State.missGate c s k) := by
  simp only [State.missGate]
  split
  · exact of_cars rfl
  · exact of_cars rfl

theorem markStandstill (s : State) (n : CarriageName) : Reports s (s.markStandstill n) := by
  simp only [State.markStandstill]
  split
  · exact of_cars rfl
  · exact refl s

/-! ### Step 4: the judgement -/

theorem startTransfer (s : State) (n : CarriageName) : Reports s (s.startTransfer n) := by
  simp only [State.startTransfer]
  split
  · split
    · refine Reports.trans ?_ (modOrder ..)
      exact modCar _ _ _ fun _ => rfl
    · exact refl s
  · exact refl s

theorem lockRequest (s : State) (n : CarriageName) : Reports s (s.lockRequest n) := by
  simp only [State.lockRequest]
  split
  · exact refl s
  · split
    · split
      · exact (modLane ..).trans (startTransfer ..)
      · exact of_cars rfl
    · exact startTransfer ..

theorem dockAt (s : State) (n : CarriageName) (l : Nat) : Reports s (s.dockAt n l) := by
  have hmod : Reports s (s.modCar n fun v => { v with state := .docked, leg := none, docked := some l }) := modCar _ _ _ fun _ => rfl
  exact (hmod.trans (of_calm (.convert ..))).trans (lockRequest ..)

theorem releaseLock (s : State) (l : Nat) : Reports s (s.releaseLock l) := by
  simp only [State.releaseLock]
  split
  · split
    · exact (modLane ..).trans (startTransfer ..)
    · exact of_cars rfl
  · exact refl s

theorem endTransfer (s : State) (n : CarriageName) : Reports s (s.endTransfer n) := modCar _ _ _ fun _ => rfl

theorem endAtMouth (s : State) (n : CarriageName) (tr : Transfer) (st : EndState) (reason : Option EndReason) :
    Reports s (s.endAtMouth n tr st reason) := by
  have horder (t : State) : Reports t (t.endOrder tr.order st reason) := of_stand fun m => endOrder_stand ..
  exact ((((endTransfer ..).trans (horder _)).trans (of_calm (.becomeIdle ..))).trans (releaseLock ..)).trans (oweAt ..)

theorem pullNothing (s : State) (n : CarriageName) (tr : Transfer) : Reports s (s.pullNothing n tr) :=
  ((modBench ..).trans (offerIdentity ..)).trans (endAtMouth ..)

theorem pushDone (s : State) (n : CarriageName) (tr : Transfer) (gearFailed : Bool) : Reports s (s.pushDone n tr gearFailed) := by
  have hlists : Reports s ((s.joinAt tr.lane n.corridor tr.bench).decIncoming tr.lane) := of_cars rfl
  have hempty (t : State) : Reports t (t.modCar n fun v => { v with load := .empty }) := modCar _ _ _ fun _ => rfl
  simp only [State.pushDone]
  exact (((((hlists.trans (moveBench ..)).trans (setIdentity ..)).trans (hempty _)).trans (offerIdentity ..)).trans
    (of_calm (.offer ..))).trans (endAtMouth ..)

theorem pullDone (s : State) (n : CarriageName) (tr : Transfer) (gearFailed : Bool) : Reports s (s.pullDone n tr gearFailed) := by
  have hlists : Reports s (((s.cancelClaimant n.corridor tr.bench tr.order).leaveLane tr.lane tr.bench).decOutgoing tr.lane) :=
    trans (of_stand fun m => cancelClaimant_stand s n.corridor tr.bench tr.order m) (of_cars rfl)
  have hbench := (hlists.trans (moveBench _ tr.bench (.aboard n))).trans
    (setIdentity _ tr.bench (State.readIdentity (s.car n).slot tr.bench gearFailed))
  simp only [State.pullDone]
  refine Reports.trans ?_ (oweAt ..)
  refine Reports.trans ?_ (releaseLock ..)
  refine Reports.trans ?_ (of_calm (.offer ..))
  refine Reports.trans ?_ (offerIdentity ..)
  refine Reports.trans hbench ?_
  generalize (((((s.cancelClaimant n.corridor tr.bench tr.order).leaveLane tr.lane tr.bench).decOutgoing tr.lane).moveBench tr.bench
    (.aboard n)).setIdentity tr.bench (State.readIdentity (s.car n).slot tr.bench gearFailed)) = u
  have hclaim : Reports u (match u.order? tr.order with
      | some o => (match o.source with
        | .laneEnd _ => u.modBench tr.bench fun v => { v with claim := some o.id }
        | _ => u)
      | none => u) := by
    split
    · split
      · exact modBench ..
      · exact refl u
    · exact refl u
  have hload (t : State) : Reports t (((t.modOrder tr.order fun o => { o with phase := .carrying, bench := some tr.bench }).endTransfer n).modCar n
      fun v => { v with load := .bench tr.bench, state := .running }) := by
    have hmod (r : State) : Reports r (r.modCar n fun v => { v with load := .bench tr.bench, state := .running }) := modCar _ _ _ fun _ => rfl
    exact ((modOrder ..).trans (endTransfer ..)).trans (hmod _)
  split
  · exact (hclaim.trans (hload _)).trans (modCar _ _ _ fun _ => rfl)
  · exact hclaim.trans (hload _)

theorem transferOutcome (s : State) (n : CarriageName) (tr : Transfer) (gearFailed loaded : Bool) :
    Reports s (s.transferOutcome n tr gearFailed loaded) := by
  unfold State.transferOutcome
  split
  · exact pullDone ..
  · exact pullNothing ..
  · exact endAtMouth ..
  · exact pushDone ..
  · exact endAtMouth ..
  · exact endAtMouth ..

theorem judgeRunning (s : State) (n : CarriageName) (a : StatusAnswer) : Reports s (s.judgeRunning n a) := by
  simp only [State.judgeRunning]
  split
  · exact of_calm (.becomeIdle ..)
  · split
    · exact of_calm (.becomeIdle ..)
    · split
      · split
        · exact dockAt ..
        · exact refl s
      · exact refl s

theorem judgeAnswer (s : State) (n : CarriageName) (mode : SetMode) (a : StatusAnswer) : Reports s (s.judgeAnswer n mode a) := by
  simp only [State.judgeAnswer]
  split
  · exact fault ..
  · split
    · split
      · exact transferOutcome ..
      · split
        · exact transferOutcome ..
        · exact refl s
    · exact judgeRunning ..
    · exact refl s

/-! ### Step 5 -/

theorem releaseBehind (s : State) (n : CarriageName) : Reports s (s.releaseBehind n) := of_calm (.releaseBehind ..)

theorem convertStanding (s : State) (n : CarriageName) (speed : Nat) : Reports s (s.convertStanding n speed) := by
  simp only [State.convertStanding]
  split
  · exact of_calm (.convert ..)
  · exact refl s

end Reports

end Sys2Proof.Machine
end

section
/-! PROOFS. The taking of a valid answer (R145 to R147, R149, R152). -/

namespace Sys2Proof.Machine

theorem noteAnswer_reported (s : State) (n : CarriageName) (a : StatusAnswer) :
    (((s.noteAnswer n a).car n).reported).1 = (0, .up, some s.millis, some a.state, a.speed, some a.loaded) := by
  rw [State.noteAnswer, car_modCar, if_pos rfl]
  rfl

theorem trackOdometer_reported (s : State) (n : CarriageName) (odo : BitVec 32) :
    ((s.trackOdometer n odo).car n).reported = ((s.car n).reported.1, some odo, false) := by
  rw [State.trackOdometer, car_modCar, if_pos rfl]
  simp only [Carriage.reported]
  split
  · rfl
  · rfl
  · split <;> rfl

theorem track_reported (s : State) (n : CarriageName) (odo : BitVec 32) :
    ((s.track n odo).car n).reported = ((s.car n).reported.1, some odo, false) := by
  have hrest (t : State) (l : List Nat) : Reports t (((l.foldl (State.missGate n.corridor) t).markStandstill n).modCar n fun v =>
      { v with prevAnswer := v.p.map fun p => (p, v.u) }) :=
    ((Reports.foldl _ (Reports.missGate n.corridor) l t).trans (.markStandstill ..)).trans (.modCar _ _ _ fun _ => rfl)
  have hafter : Reports (s.trackOdometer n odo) (s.track n odo) := by
    simp only [State.track]
    exact (((Reports.refreshU ..).trans (.checkEnds ..)).trans (.checkRehome ..)).trans (hrest _ _)
  exact (hafter.cars n).trans (trackOdometer_reported s n odo)

/-- A valid answer leaves the carriage what its drive reported (R147). -/
theorem takeAnswer_reported (s : State) (n : CarriageName) (mode : SetMode) (a : StatusAnswer) :
    ((s.takeAnswer n mode a).car n).reported =
      ((0, .up, some s.millis, some a.state, a.speed, some a.loaded), some a.odometer, false) := by
  have hbytes := (Reports.takeBytes (s.noteAnswer n a) n a.bytes).cars n
  have hafter : Reports (((s.noteAnswer n a).takeBytes n a.bytes).track n a.odometer) (s.takeAnswer n mode a) :=
    (((Reports.judgeAnswer _ n mode a).trans (.releaseBehind ..)).trans (.convertStanding ..)).trans (.of_calm (.grantRequest ..))
  rw [hafter.cars n, track_reported, hbytes, noteAnswer_reported]

theorem answerArrives_taken {s : State} {c : Corridor} {a : StatusAnswer} {ex : Exchange} {n : CarriageName}
    (hex : (s.line c).inFlight = some ex) (h1 : ex.sentAt ≤ s.millis) (h2 : s.millis ≤ ex.sentAt + 20) (hf : ex.failed = false)
    (ha : a.form = true) (haddr : a.address = ex.address) (hn : ex.carriage = some n) :
    s.answerArrives c a = (if s.staleAnswer n ex.address then s else s.finish (s.takeAnswer n ex.mode a)).endExchange c := by
  have hwindow : ¬ (s.millis < ex.sentAt ∨ ex.sentAt + Config.answerWindow < s.millis ∨ ex.failed = true) := by
    rw [show Config.answerWindow = 20 from rfl, hf]
    rintro (h | h | h)
    · omega
    · omega
    · exact absurd h nofun
  simp only [State.answerArrives, hex, if_neg hwindow, if_pos (And.intro ha haddr), hn]

/-- An answer in its window that fails its tests, or comes from an exchange without a carriage. -/
theorem answerArrives_spoils {s : State} {c : Corridor} {a : StatusAnswer} {ex : Exchange} (hex : (s.line c).inFlight = some ex)
    (h1 : ex.sentAt ≤ s.millis) (h2 : s.millis ≤ ex.sentAt + 20) (hf : ex.failed = false) :
    (¬ (a.form = true ∧ a.address = ex.address) →
      s.answerArrives c a = s.modLine c fun w => { w with inFlight := some { ex with failed := true } }) ∧
    (a.form = true ∧ a.address = ex.address → ex.carriage = none → s.answerArrives c a = s.endExchange c) := by
  have hwindow : ¬ (s.millis < ex.sentAt ∨ ex.sentAt + Config.answerWindow < s.millis ∨ ex.failed = true) := by
    rw [show Config.answerWindow = 20 from rfl, hf]
    rintro (h | h | h)
    · omega
    · omega
    · exact absurd h nofun
  refine ⟨fun h => ?_, fun h hn => ?_⟩
  · simp only [State.answerArrives, hex, if_neg hwindow, if_neg h]
  · simp only [State.answerArrives, hex, if_neg hwindow, if_pos h, hn]

theorem answerArrives_late {s : State} {c : Corridor} {a : StatusAnswer} {ex : Exchange} (hex : (s.line c).inFlight = some ex)
    (h : s.millis < ex.sentAt ∨ ex.sentAt + 20 < s.millis ∨ ex.failed = true) : s.answerArrives c a = s := by
  simp only [State.answerArrives, hex]
  exact if_pos h

/-- The rows of an answer on a line (R145, R146). -/
theorem statusAnswer_rows (s : State) (c : Corridor) (a : StatusAnswer) (hp : s.powered = true) :
    ((s.line c).inFlight = none → exec (.statusAnswer c a) s = .next s) ∧
    ∀ ex, (s.line c).inFlight = some ex →
      ((s.millis < ex.sentAt ∨ ex.sentAt + 20 < s.millis ∨ ex.failed = true) → exec (.statusAnswer c a) s = .next s) ∧
      (ex.sentAt ≤ s.millis → s.millis ≤ ex.sentAt + 20 → ex.failed = false →
        ((a.form = false ∨ a.address ≠ ex.address) →
          exec (.statusAnswer c a) s =
            .next { s with lines := s.lines.set c { s.line c with inFlight := some { ex with failed := true } } }) ∧
        (a.form = true → a.address = ex.address →
          (ex.carriage = none → exec (.statusAnswer c a) s = .next (s.endExchange c)) ∧
          ∀ n, ex.carriage = some n →
            ((s.car n).link = .lost → (s.item n).map (·.address) ≠ some ex.address →
              exec (.statusAnswer c a) s = .next (s.endExchange c)) ∧
            ((s.car n).link = .up ∨ (s.item n).map (·.address) = some ex.address →
              ∃ t, exec (.statusAnswer c a) s = .next t ∧
                t = (s.finish
                  (((((((s.noteAnswer n a).takeBytes n a.bytes).track n a.odometer).judgeAnswer n ex.mode a).releaseBehind
                    n).convertStanding n a.speed).grantRequest n)).endExchange c ∧
                t.layout = s.layout ∧ t.millis = s.millis ∧ (t.car n).misses = 0 ∧ (t.car n).link = .up ∧
                (t.car n).lastAnswer = some s.millis ∧ (t.car n).driveState = some a.state ∧ (t.car n).speed = a.speed ∧
                (t.car n).lastLoad = some a.loaded ∧
                (t.car n).lastOdometer = some a.odometer ∧ (t.car n).returned = false))) := by
  have hexec {t : State} (h : s.answerArrives c a = t) : exec (.statusAnswer c a) s = .next t :=
    congrArg Host.Outcome.next ((if_pos hp).trans h)
  refine ⟨fun hnone => hexec (by simp only [State.answerArrives, hnone]), fun ex hex => ⟨fun hlate => hexec (answerArrives_late hex hlate),
    fun h1 h2 hf => ?_⟩⟩
  obtain ⟨hspoil, hnobody⟩ := answerArrives_spoils (a := a) hex h1 h2 hf
  refine ⟨fun hbad => hexec (hspoil ?_), fun ha haddr => ⟨fun hn => hexec (hnobody ⟨ha, haddr⟩ hn), fun n hn => ?_⟩⟩
  · rintro ⟨ha, haddr⟩
    rcases hbad with hbad | hbad
    · exact absurd (hbad.symm.trans ha) nofun
    · exact hbad haddr
  · have htaken := answerArrives_taken hex h1 h2 hf ha haddr hn
    refine ⟨fun hlost hstale => hexec (htaken.trans ?_), fun hlive => ?_⟩
    · have hyes : s.staleAnswer n ex.address = true := by simp only [State.staleAnswer, hlost, hstale, decide_true, ne_eq, not_false_eq_true, Bool.and_self]
      rw [if_pos hyes]
    · have hno : ¬ s.staleAnswer n ex.address = true := by
        simp only [State.staleAnswer, Bool.and_eq_true, decide_eq_true_eq]
        rintro ⟨hlost, hstale⟩
        rcases hlive with hlive | hlive
        · exact absurd (hlive.symm.trans hlost) nofun
        · exact hstale hlive
      rw [if_neg hno] at htaken
      refine ⟨_, hexec htaken, rfl, ?_⟩
      have hwithin : Within s (s.finish (s.takeAnswer n ex.mode a)) := (Within.takeAnswer ..).trans (.finish ..)
      have hends := GoesOn.endExchange (s.finish (s.takeAnswer n ex.mode a)) c
      have hreported : (((s.finish (s.takeAnswer n ex.mode a)).endExchange c).car n).reported =
          ((0, .up, some s.millis, some a.state, a.speed, some a.loaded), some a.odometer, false) := by
        rw [← takeAnswer_reported s n ex.mode a, ← (Reports.of_calm (Calm.finish s (s.takeAnswer n ex.mode a))).cars n]
        show (((s.finish (s.takeAnswer n ex.mode a)).endExchange c).car n).still.reported = ((s.finish (s.takeAnswer n ex.mode a)).car n).still.reported
        rw [hends.cars n]
      simp only [Carriage.reported, Prod.mk.injEq] at hreported
      obtain ⟨⟨hmisses, hlink, hlast, hstate, hspeed, hload⟩, hodometer, hreturned⟩ := hreported
      exact ⟨hends.layout.trans hwithin.layout, hends.millis.trans hwithin.millis, hmisses, hlink, hlast, hstate, hspeed, hload,
        hodometer, hreturned⟩

/-- The judgement of an answer, by the state of the carriage (R147 step 4). -/
theorem judgeAnswer_rows (s : State) (n : CarriageName) (mode : SetMode) (a : StatusAnswer) (h : a.state ≠ .driveFault) :
    (∀ tr telegram, (s.car n).state = .transferring → (s.car n).transfer = some tr →
      telegram = (match tr.kind with | .pull => SetMode.pull | .push => SetMode.push) →
      (mode = telegram → a.state = .transferDone → s.judgeAnswer n mode a = s.transferOutcome n tr false a.loaded) ∧
      (mode = telegram → a.state = .transferFailed → s.judgeAnswer n mode a = s.transferOutcome n tr true a.loaded) ∧
      ((mode ≠ telegram ∨ (a.state ≠ .transferDone ∧ a.state ≠ .transferFailed)) → s.judgeAnswer n mode a = s)) ∧
    ((s.car n).state = .running →
      ((s.car n).onShift = true → a.state = .atTarget → s.judgeAnswer n mode a = s.becomeIdle n) ∧
      ((s.car n).onShift = false → (s.car n).assigned = none → a.speed = 0 → s.judgeAnswer n mode a = s.becomeIdle n) ∧
      (∀ id o leg k m, (s.car n).onShift = false → (s.car n).assigned = some id → s.order? id = some o → (s.car n).leg = some leg →
        ((o.phase = .fetching ∧ o.srcLane = some k) ∨ (o.phase = .carrying ∧ o.dest = k)) → s.mouth k o.corridor = some m →
        (a.state = .atTarget → leg.target = m.dock → s.judgeAnswer n mode a = s.dockAt n k) ∧
        (leg.target ≠ m.dock → s.judgeAnswer n mode a = s)) ∧
      (a.state ≠ .atTarget → ((s.car n).onShift = true ∨ (s.car n).assigned ≠ none ∨ a.speed ≠ 0) → s.judgeAnswer n mode a = s)) := by
  refine ⟨fun tr telegram hs ht htel => ?_, fun hs => ?_⟩
  · have hmode : telegram = State.modeOf tr.kind := htel.trans (by cases tr.kind <;> rfl)
    subst hmode
    rw [judgeAnswer_transferring h hs ht]
    refine ⟨fun hm hd => if_pos ⟨hm, hd⟩, fun hm hd => ?_, fun hnot => ?_⟩
    · rw [if_neg fun hd' => absurd (hd'.2.symm.trans hd) nofun, if_pos ⟨hm, hd⟩]
    · rw [if_neg fun hd => hnot.elim (fun h => h hd.1) fun h => h.1 hd.2, if_neg fun hd => hnot.elim (fun h => h hd.1) fun h => h.2 hd.2]
  · rw [judgeAnswer_running h hs]
    refine ⟨judgeRunning_shift, judgeRunning_withdrawn, fun id o leg k m hshift hid ho hleg hnext hm => ?_, judgeRunning_quiet⟩
    rw [judgeRunning_ordered hshift hid ho hleg (nextLane_eq_some hnext) hm]
    exact ⟨fun ha ht => if_pos ⟨ha, ht⟩, fun ht => if_neg fun hb => ht hb.2⟩

/-- Settles O57: the judgement of an answer, what each step does, and the rows of an answer on a line. -/
theorem statusAnswersAreTaken : Obligations.StatusAnswersAreTaken := by
  refine ⟨fun s n mode a => ⟨judgeAnswer_fault, fun h => ?_⟩, fun s n k => ⟨rfl, fun hd => ⟨lockRequest_free hd, lockRequest_granted hd,
    lockRequest_waits hd⟩⟩, fun s n k id b o m hd ha ho hb hm => startTransfer_eq hd ha ho hb hm, ?_, fun s n => ⟨endShift_nobody, ?_⟩,
    fun s w k hk => ⟨startWork_homing hk, ?_⟩, statusAnswer_rows, fun s n number => ⟨takeReading_slot number, takeReading_overrun number,
    takeReading_stray number⟩, mem_missedGates, fun s c k => ⟨missGate_counts, missGate_out⟩, fun s n => ⟨releaseBehind_unmoving, ?_⟩,
    fun s n hs => ⟨fun h k hk => convert_stands hs h hk, fun r h => convert_segment hs h⟩⟩
  · obtain ⟨htransfer, hrunning⟩ := judgeAnswer_rows s n mode a h
    exact ⟨htransfer, judgeAnswer_unrecorded h, judgeAnswer_otherwise h, hrunning⟩
  · rintro s u n rfl
    exact becomeIdle_eq s n
  · rintro w k rest u hw hk hn honly rfl rfl
    exact endShift_waited hw hk hn honly
  · intro id o j m p ho ha hq hp hj hm
    refine startWork_order hk ho ha hq hp ?_ hm
    unfold Order.firstLane
    cases hs : o.source with
    | aboard x => rw [hs] at hj; exact congrArg some hj
    | bench b => rw [hs] at hj; exact hj
    | laneEnd x => rw [hs] at hj; exact hj
  · intro dir r gone hd hr hgone
    have hsame : gone = (match dir with | .south => s.heldRun n | .north => (s.heldRun n).reverse).takeWhile fun k =>
        s.whollyBehind n dir r k := by
      rw [hgone]
      cases dir with
      | south => exact congrArg (List.takeWhile · _) (funext fun k => (whollyBehind_eq s n .south r k).symm)
      | north => exact congrArg (List.takeWhile · _) (funext fun k => (whollyBehind_eq s n .north r k).symm)
    have hrelease : s.releaseBehind n = State.retryAll n.corridor gone (s.clearLayers n gone) := by
      rw [hsame]
      exact releaseBehind_eq hd hr
    exact ⟨_, hrelease, clearLayers_fields .., fun c k => seg_clearLayers s n _ c k⟩

end Sys2Proof.Machine
end

section
/-! PROOFS. What the outcomes of transfers are made of (R130, R134 to R137). -/

namespace Sys2Proof.Machine

/-! ## Bench records and orders -/

theorem modBench_fields {s : State} {b : Nat} {v : Bench} (h : s.bench? b = some v) (g : Bench → Bench) :
    s.modBench b g = { s with benches := s.benches.put b (g v) } := State.modBench_of_some h g

/-- A bench that is moved and takes an identity (R26, R134). -/
def Bench.movedTo (v : Bench) (pl : Place) (i : Identity) (at_ : Nat) : Bench := { v with place := pl, identity := i, lastMoved := at_ }

theorem moveBench_setIdentity {s : State} {b : Nat} {v : Bench} (h : s.bench? b = some v) (pl : Place) (i : Identity) :
    (s.moveBench b pl).setIdentity b i = { s with benches := s.benches.put b (v.movedTo pl i s.seconds) } := by
  have hmove : s.moveBench b pl = { s with benches := s.benches.put b { v with place := pl, lastMoved := s.seconds } } := modBench_fields h _
  rw [hmove]
  exact setIdentity_of_put (s := { s with benches := s.benches.put b { v with place := pl, lastMoved := s.seconds } }) (x := s.benches)
    (v := { v with place := pl, lastMoved := s.seconds }) rfl i

theorem find?_map_other {g : Order → Order} (hg : ∀ o, (g o).id = o.id) {id k : Nat} (hne : k ≠ id) (l : List Order) :
    (l.map fun o => if o.id = id then g o else o).find? (fun o => decide (o.id = k)) = l.find? fun o => decide (o.id = k) := by
  induction l with
  | nil => rfl
  | cons o rest ih =>
    by_cases ho : o.id = id
    · have h1 : ¬ (g o).id = k := by rw [hg, ho]; exact Ne.symm hne
      have h2 : ¬ o.id = k := by rw [ho]; exact Ne.symm hne
      rw [List.map_cons, if_pos ho, List.find?_cons_of_neg (by simpa using h1), List.find?_cons_of_neg (by simpa using h2), ih]
    · simp only [List.map_cons, ho, if_false, List.find?_cons, ih]

theorem order?_modOrder_other (s : State) {id k : Nat} (hne : k ≠ id) {g : Order → Order} (hg : ∀ o, (g o).id = o.id) :
    (s.modOrder id g).order? k = s.order? k := find?_map_other hg hne s.book

/-! ## The release of a lane's lock (R130) -/

theorem startTransfer_order? {s : State} {n : CarriageName} {id : Nat} (h : (s.car n).assigned ≠ some id) :
    (s.startTransfer n).order? id = s.order? id := by
  simp only [State.startTransfer]
  split
  · rename_i k o _ ho
    obtain ⟨j, hj, ho'⟩ := Option.bind_eq_some_iff.mp ho
    have hne : id ≠ o.id := by
      rw [order?_id ho']
      rintro rfl
      exact h hj
    split
    · exact order?_modOrder_other _ hne fun _ => rfl
    · rfl
  · rfl

theorem releaseLock_waited {s : State} {k : Nat} {w : CarriageName} (hb : s.isBay k = true) (hw : (s.lane k).waiting = some w) :
    s.releaseLock k = (s.setLane k { s.lane k with lock := some w.corridor, waiting := none }).startTransfer w := by
  simp only [State.releaseLock, hb, if_true, hw, State.modLane]

theorem releaseLock_unwaited {s : State} {k : Nat} (hb : s.isBay k = true) (hw : (s.lane k).waiting = none) :
    s.releaseLock k = s.setLane k { s.lane k with lock := none } := by
  simp only [State.releaseLock, hb, if_true, hw, State.modLane]

theorem releaseLock_nobay {s : State} {k : Nat} (hb : s.isBay k = false) : s.releaseLock k = s := by
  simp only [State.releaseLock, hb, Bool.false_eq_true, if_false]

/-- The release of a lock passes by every carriage that does not wait for it. -/
theorem releaseLock_car {s : State} {k : Nat} {n : CarriageName} (h : (s.lane k).waiting ≠ some n) : (s.releaseLock k).car n = s.car n := by
  cases hb : s.isBay k with
  | false => rw [releaseLock_nobay hb]
  | true =>
    cases hw : (s.lane k).waiting with
    | none => rw [releaseLock_unwaited hb hw]; rfl
    | some w =>
      have hne : n ≠ w := by
        rintro rfl
        exact h hw
      rw [releaseLock_waited hb hw]
      exact startTransfer_other hne

theorem releaseLock_order? {s : State} {k id : Nat} (h : ∀ w, (s.lane k).waiting = some w → (s.car w).assigned ≠ some id) :
    (s.releaseLock k).order? id = s.order? id := by
  cases hb : s.isBay k with
  | false => rw [releaseLock_nobay hb]
  | true =>
    cases hw : (s.lane k).waiting with
    | none => rw [releaseLock_unwaited hb hw]; rfl
    | some w =>
      rw [releaseLock_waited hb hw]
      exact startTransfer_order? (s := s.setLane k { s.lane k with lock := some w.corridor, waiting := none }) (h w hw)

/-- What the release of a lock and the runs it calls for leave: benches, links, lists and counts of the lanes, and the ids of orders. -/
theorem released_leaves (s : State) (c : Corridor) (k : Nat) :
    (((s.releaseLock k).oweAt c k).benches = s.benches) ∧ ((s.releaseLock k).oweAt c k).links = s.links ∧
      ((s.releaseLock k).oweAt c k).ids = s.ids ∧
      ∀ j, (((s.releaseLock k).oweAt c k).lane j).benches = (s.lane j).benches ∧
        (((s.releaseLock k).oweAt c k).lane j).incoming = (s.lane j).incoming ∧
        (((s.releaseLock k).oweAt c k).lane j).outgoing = (s.lane j).outgoing := by
  have howe (t : State) : ∃ x, t.oweAt c k = { t with owed := x } := by
    simp only [State.oweAt]
    split <;> exact ⟨_, rfl⟩
  obtain ⟨x, hx⟩ := howe (s.releaseLock k)
  obtain ⟨cars, book, lanes, hshape, -, hbook, hlanes⟩ := releaseLock_shape s k
  have hids : book.map (·.id) = s.book.map (·.id) := by
    have hmap := congrArg (List.map Order.id) hbook
    simp only [List.map_map] at hmap
    exact hmap
  rw [hx, hshape]
  refine ⟨rfl, rfl, hids, fun j => ?_⟩
  have hlane := hlanes j
  simp only [State.lane] at hlane ⊢
  rw [hlane]
  split
  · rename_i hj
    rw [hj.1]
    exact ⟨rfl, rfl, rfl⟩
  · exact ⟨rfl, rfl, rfl⟩

/-! ## Outcomes that end the order (R135, R137) -/

/-- The unit as the order of a transfer that ended leaves its carriage IDLE at the mouth. -/
def State.ended (s : State) (n : CarriageName) (tr : Transfer) (st : EndState) (reason : Option EndReason) : State :=
  ((s.endTransfer n).endOrder tr.order st reason).becomeIdle n

theorem endAtMouth_eq (s : State) (n : CarriageName) (tr : Transfer) (st : EndState) (reason : Option EndReason) :
    s.endAtMouth n tr st reason = ((s.ended n tr st reason).releaseLock tr.lane).oweAt n.corridor tr.lane := rfl

theorem ended_calm (s : State) (n : CarriageName) (tr : Transfer) (st : EndState) (reason : Option EndReason) :
    Calm ((s.endTransfer n).endOrder tr.order st reason) (s.ended n tr st reason) := .becomeIdle ..

theorem endOrder_waits (s : State) (id : Nat) (st : EndState) (reason : Option EndReason) : WaitsLess s (s.endOrder id st reason) := by
  cases h : s.order? id with
  | none => rw [endOrder_none h]; exact .refl s
  | some o =>
    obtain ⟨x, hx⟩ := endOrder_shape h st reason
    refine ⟨fun k m hm => ?_⟩
    have hlane : ((s.endOrder id st reason).lane k) = (s.giveBack o st).lane k := by rw [hx]; rfl
    rw [hlane, giveBack_lane] at hm
    exact hm

theorem ended_waits (s : State) (n : CarriageName) (tr : Transfer) (st : EndState) (reason : Option EndReason) :
    WaitsLess s (s.ended n tr st reason) := by
  have htransfer : WaitsLess s (s.endTransfer n) := .of_lanes rfl
  exact (htransfer.trans (endOrder_waits ..)).trans (.becomeIdle ..)

theorem endOrder_lane (s : State) (id : Nat) (st : EndState) (reason : Option EndReason) (k : Nat) :
    ((s.endOrder id st reason).lane k).benches = (s.lane k).benches ∧
      (st = .done → ((s.endOrder id st reason).lane k).incoming = (s.lane k).incoming) := by
  cases h : s.order? id with
  | none => rw [endOrder_none h]; exact ⟨rfl, fun _ => rfl⟩
  | some o =>
    obtain ⟨x, hx⟩ := endOrder_shape h st reason
    have hlane : ((s.endOrder id st reason).lane k) = (s.giveBack o st).lane k := by rw [hx]; rfl
    rw [hlane, giveBack_lane]
    exact ⟨rfl, fun hd => by simp [hd]⟩

theorem ended_lane (s : State) (n : CarriageName) (tr : Transfer) (st : EndState) (reason : Option EndReason) (k : Nat) :
    ((s.ended n tr st reason).lane k).benches = (s.lane k).benches ∧
      (st = .done → ((s.ended n tr st reason).lane k).incoming = (s.lane k).incoming) := by
  have hcalm := (ended_calm s n tr st reason).lanes k
  obtain ⟨hbenches, hincoming⟩ := endOrder_lane (s.endTransfer n) tr.order st reason k
  exact ⟨(congrArg (·.1) hcalm).trans hbenches, fun hd => (congrArg (·.2.1) hcalm).trans (hincoming hd)⟩

/-- An outcome that ends the order: the order leaves the book, the carriage stands IDLE, list, place and identity as they are. -/
theorem endAtMouth_leaves {s : State} {n : CarriageName} {tr : Transfer} (st : EndState) (reason : Option EndReason) :
    (∀ q ∈ (s.endAtMouth n tr st reason).book, q.id ≠ tr.order) ∧
    ((s.lane tr.lane).waiting ≠ some n →
      Idled ((s.endAtMouth n tr st reason).car n) ∧
      ((s.endAtMouth n tr st reason).car n).stand = { (s.car n).stand with transfer := none, mark := none }) ∧
    (∀ k, ((s.endAtMouth n tr st reason).lane k).benches = (s.lane k).benches ∧
      (st = .done → ((s.endAtMouth n tr st reason).lane k).incoming = (s.lane k).incoming)) ∧
    ∀ b, ((s.endAtMouth n tr st reason).bench? b).map Bench.place = (s.bench? b).map Bench.place ∧
      ((s.endAtMouth n tr st reason).bench? b).map Bench.identity = (s.bench? b).map Bench.identity := by
  obtain ⟨hbenches, -, hids, hlanes⟩ := released_leaves (s.ended n tr st reason) n.corridor tr.lane
  have hcalm := ended_calm s n tr st reason
  rw [endAtMouth_eq]
  refine ⟨fun q hq hid => ?_, fun hw => ?_, fun k => ?_, fun b => ?_⟩
  · refine endOrder_ids (s.endTransfer n) tr.order st reason ?_
    rw [← ids_of_calm hcalm, ← hids]
    exact List.mem_map.mpr ⟨q, hq, hid⟩
  · have hcar : (((s.ended n tr st reason).releaseLock tr.lane).oweAt n.corridor tr.lane).car n = (s.ended n tr st reason).car n := by
      rw [car_oweAt]
      exact releaseLock_car fun h => hw ((ended_waits s n tr st reason).waits _ _ h)
    rw [hcar]
    refine ⟨becomeIdle_idled .., ?_⟩
    rw [hcalm.cars n, endOrder_stand, State.endTransfer, car_modCar, if_pos rfl]
    rfl
  · obtain ⟨hb, hi, -⟩ := hlanes k
    obtain ⟨kb, ki⟩ := ended_lane s n tr st reason k
    exact ⟨hb.trans kb, fun hd => hi.trans (ki hd)⟩
  · have hbench : (((s.ended n tr st reason).releaseLock tr.lane).oweAt n.corridor tr.lane).bench? b =
        ((s.endTransfer n).endOrder tr.order st reason).bench? b :=
      (congrArg (Table.get? · b) hbenches).trans (bench?_of_calm hcalm b)
    obtain ⟨g, hg, hends⟩ := endOrder_bench? (s := s.endTransfer n) (id := tr.order) st reason b
    rw [hbench, hends, Option.map_map, Option.map_map]
    exact ⟨congrArg (Option.map · (s.bench? b)) (funext fun v => (hg v).1), congrArg (Option.map · (s.bench? b)) (funext fun v => (hg v).2)⟩

end Sys2Proof.Machine
end

section
/-! PROOFS. Pulls and pushes that move the bench (R135 to R137). -/

namespace Sys2Proof.Machine

/-! ## A pull brings the bench aboard (R135) -/

/-- The lane whose bench a pull takes (R19, R49). -/
def Lane.drawn (v : Lane) (b : Nat) : Lane := { v with benches := v.benches.erase b, outgoing := v.outgoing - 1 }

theorem leaveLane_decOutgoing (s : State) (k b : Nat) : (s.leaveLane k b).decOutgoing k = s.setLane k ((s.lane k).drawn b) := by
  simp only [State.leaveLane, State.decOutgoing, State.modLane, State.lane_setLane, if_true]
  simp only [State.setLane, Table.put_put]
  rfl

/-- The claim that a LANE END order takes on the bench of its pull (R49). -/
def Order.claimsOn (o : Order) (v : Bench) : Bench :=
  match o.source with
  | .laneEnd _ => { v with claim := some o.id }
  | _ => v

/-- The carriage with the bench aboard. -/
def Carriage.laden (v : Carriage) (b : Nat) (leg : Option Leg) : Carriage :=
  { v with load := .bench b, state := .running, transfer := none, mark := none, leg := leg }

/-- An order that carries the bench of its pull. -/
def Order.carrying (o : Order) (b : Nat) : Order := { o with phase := .carrying, bench := some b }

/-- The bench off its lane's list, aboard, and claimed by a LANE END order. -/
def State.taken (s : State) (n : CarriageName) (tr : Transfer) (ident : Identity) : State :=
  let s2 := ((((s.leaveLane tr.lane tr.bench).decOutgoing tr.lane).moveBench tr.bench (.aboard n)).setIdentity tr.bench ident)
  match s2.order? tr.order with
  | some o =>
    match o.source with
    | .laneEnd _ => s2.modBench tr.bench fun v => { v with claim := some o.id }
    | _ => s2
  | none => s2

/-- The carriage and its order go on with the bench aboard. -/
def State.carried (s : State) (n : CarriageName) (tr : Transfer) : State :=
  let s5 := ((s.modOrder tr.order fun o => { o with phase := .carrying, bench := some tr.bench }).endTransfer n).modCar n fun v =>
    { v with load := .bench tr.bench, state := .running }
  match (s5.order? tr.order).bind s5.orderTarget with
  | some t => s5.beginLeg n t
  | none => s5

theorem pullDone_eq (s : State) (n : CarriageName) (tr : Transfer) (failed : Bool) : s.pullDone n tr failed =
    ((((((s.cancelClaimant n.corridor tr.bench tr.order).taken n tr (State.readIdentity (s.car n).slot tr.bench failed)).carried n
      tr).offerIdentity n.corridor tr.lane tr.bench (State.readIdentity (s.car n).slot tr.bench failed)).offer
        ⟨.departed tr.lane tr.bench, some n.corridor, some tr.lane, some tr.bench, none⟩).releaseLock tr.lane).oweAt n.corridor tr.lane := rfl

theorem taken_eq {s : State} {n : CarriageName} {tr : Transfer} {o : Order} {v : Bench} (ho : s.order? tr.order = some o)
    (hv : s.bench? tr.bench = some v) (ident : Identity) : s.taken n tr ident =
      { s.setLane tr.lane ((s.lane tr.lane).drawn tr.bench) with
        benches := s.benches.put tr.bench (o.claimsOn (v.movedTo (.aboard n) ident s.seconds)) } := by
  have hmoved : (((s.leaveLane tr.lane tr.bench).decOutgoing tr.lane).moveBench tr.bench (.aboard n)).setIdentity tr.bench ident =
      { s.setLane tr.lane ((s.lane tr.lane).drawn tr.bench) with
        benches := s.benches.put tr.bench (v.movedTo (.aboard n) ident s.seconds) } := by
    rw [leaveLane_decOutgoing]
    exact moveBench_setIdentity (s := s.setLane tr.lane ((s.lane tr.lane).drawn tr.bench)) hv _ _
  have horder : ({ s.setLane tr.lane ((s.lane tr.lane).drawn tr.bench) with
      benches := s.benches.put tr.bench (v.movedTo (.aboard n) ident s.seconds) } : State).order? tr.order = some o := ho
  simp only [State.taken, hmoved, horder]
  unfold Order.claimsOn
  cases hs : o.source with
  | laneEnd k =>
    refine (modBench_fields (v := v.movedTo (.aboard n) ident s.seconds) ?_ _).trans ?_
    · exact (Table.get?_put ..).trans (if_pos rfl)
    · simp only [Table.put_put]
  | bench b => rfl
  | aboard m => rfl

theorem carried_eq (s : State) (n : CarriageName) (tr : Transfer) : ∃ leg, s.carried n tr =
    { s with
      carriages := s.carriages.set n ((s.car n).laden tr.bench leg)
      book := s.book.map fun o => if o.id = tr.order then o.carrying tr.bench else o } := by
  have hfive : ((s.modOrder tr.order fun o => { o with phase := .carrying, bench := some tr.bench }).endTransfer n).modCar n (fun v =>
      { v with load := .bench tr.bench, state := .running }) =
      (s.modOrder tr.order fun o => o.carrying tr.bench).setCar n ((s.car n).laden tr.bench (s.car n).leg) := by
    rw [State.endTransfer, modCar_modCar]
    rfl
  simp only [State.carried, hfive]
  split
  · rename_i x _
    refine ⟨some ⟨x, if ((s.car n).p.getD x) ≤ x then .south else .north⟩, ?_⟩
    rw [State.beginLeg, State.modCar, setCar_car_self, setCar_setCar]
    rfl
  · exact ⟨_, rfl⟩

/-- The unit as a pull has brought its bench aboard and its events are offered (log 19). -/
def State.aboard (s : State) (n : CarriageName) (tr : Transfer) (ident : Identity) : State :=
  (((s.taken n tr ident).carried n tr).offerIdentity n.corridor tr.lane tr.bench ident).offer
    ⟨.departed tr.lane tr.bench, some n.corridor, some tr.lane, some tr.bench, none⟩

/-- A pull from the bench aboard to the lock released. -/
def State.boards (s : State) (n : CarriageName) (tr : Transfer) (ident : Identity) : State :=
  ((s.aboard n tr ident).releaseLock tr.lane).oweAt n.corridor tr.lane

theorem pullDone_boards (s : State) (n : CarriageName) (tr : Transfer) (failed : Bool) : s.pullDone n tr failed =
    (s.cancelClaimant n.corridor tr.bench tr.order).boards n tr (State.readIdentity (s.car n).slot tr.bench failed) := rfl

theorem offerIdentity_fields (s : State) (c : Corridor) (l b : Nat) (i : Identity) :
    s.offerIdentity c l b i = { s with links := (s.offerIdentity c l b i).links } := by
  simp only [State.offerIdentity]
  split
  · rfl
  · exact offer_fields ..

/-- What stands once the bench is aboard, but for the notices of its events. -/
theorem aboard_fields {s : State} {n : CarriageName} {tr : Transfer} {o : Order} {v : Bench} (ho : s.order? tr.order = some o)
    (hv : s.bench? tr.bench = some v) (ident : Identity) : ∃ leg links, s.aboard n tr ident =
      { s with
        lanes := s.lanes.put tr.lane ((s.lane tr.lane).drawn tr.bench)
        benches := s.benches.put tr.bench (o.claimsOn (v.movedTo (.aboard n) ident s.seconds))
        carriages := s.carriages.set n ((s.car n).laden tr.bench leg)
        book := s.book.map fun q => if q.id = tr.order then q.carrying tr.bench else q
        links := links } := by
  obtain ⟨leg, hleg⟩ := carried_eq (s.taken n tr ident) n tr
  refine ⟨leg, (s.aboard n tr ident).links, ?_⟩
  have hlinks : ∃ x, s.aboard n tr ident = { (s.taken n tr ident).carried n tr with links := x } := by
    refine ⟨(s.aboard n tr ident).links, ?_⟩
    unfold State.aboard
    rw [offer_fields, offerIdentity_fields]
  obtain ⟨x, hx⟩ := hlinks
  rw [hx, hleg, taken_eq ho hv]
  rfl

/-- The offers of a pull, seen from a state that has the same links, layout, marks of the bench and clock. -/
theorem aboard_links {s : State} {n : CarriageName} {tr : Transfer} {o : Order} {v : Bench} (ho : s.order? tr.order = some o)
    (hv : s.bench? tr.bench = some v) (ident : Identity) : (s.aboard n tr ident).links =
      ((if ident = .verified then s
        else s.offer ⟨.identity tr.bench ident, some n.corridor, some tr.lane, some tr.bench, none⟩).offer
          ⟨.departed tr.lane tr.bench, some n.corridor, some tr.lane, some tr.bench, none⟩).links := by
  obtain ⟨leg, hleg⟩ := carried_eq (s.taken n tr ident) n tr
  have hmarks : (((s.taken n tr ident).carried n tr).bench? tr.bench).map Bench.marks = (s.bench? tr.bench).map Bench.marks := by
    have hbench : ((s.taken n tr ident).carried n tr).bench? tr.bench = some (o.claimsOn (v.movedTo (.aboard n) ident s.seconds)) := by
      rw [hleg, taken_eq ho hv]
      exact (Table.get?_put ..).trans (if_pos rfl)
    rw [hbench, hv]
    unfold Order.claimsOn
    split <;> rfl
  have hstill : ((s.taken n tr ident).carried n tr).layout = s.layout ∧ ((s.taken n tr ident).carried n tr).links = s.links ∧
      ((s.taken n tr ident).carried n tr).millis = s.millis := by
    rw [hleg, taken_eq ho hv]
    exact ⟨rfl, rfl, rfl⟩
  obtain ⟨hlayout, hlinks, hmillis⟩ := hstill
  unfold State.aboard State.offerIdentity
  split
  · exact offer_links_of_marks hlayout hmarks hlinks hmillis
  · have hfirst := offer_links_of_marks (s := s) (t := (s.taken n tr ident).carried n tr)
      (o := ⟨.identity tr.bench ident, some n.corridor, some tr.lane, some tr.bench, none⟩) hlayout hmarks hlinks hmillis
    refine offer_links_of_marks ?_ ?_ hfirst ?_
    · rw [offer_fields, offer_fields s]
      exact hlayout
    · rw [offer_fields, offer_fields s]
      exact hmarks
    · rw [offer_fields, offer_fields s]
      exact hmillis

/-- A pull that brings its bench aboard, in a state where no other order claims the bench (R135, R49). -/
theorem boards_leaves {s : State} {n : CarriageName} {tr : Transfer} {o : Order} {v : Bench} (ho : s.order? tr.order = some o)
    (hv : s.bench? tr.bench = some v) (ident : Identity)
    (hw : ∀ w, (s.lane tr.lane).waiting = some w → w ≠ n ∧ (s.car w).assigned ≠ some tr.order) :
    ((s.boards n tr ident).lane tr.lane).benches = (s.lane tr.lane).benches.erase tr.bench ∧
    ((s.boards n tr ident).lane tr.lane).outgoing = (s.lane tr.lane).outgoing - 1 ∧
    (s.boards n tr ident).bench? tr.bench = some (o.claimsOn (v.movedTo (.aboard n) ident s.seconds)) ∧
    (∃ leg, (s.boards n tr ident).car n = (s.car n).laden tr.bench leg) ∧
    (s.boards n tr ident).order? tr.order = some (o.carrying tr.bench) ∧ (s.boards n tr ident).ids = s.ids := by
  obtain ⟨leg, links, haboard⟩ := aboard_fields (n := n) ho hv ident
  obtain ⟨hbenches, -, hids, hlanes⟩ := released_leaves (s.aboard n tr ident) n.corridor tr.lane
  have hlane : (s.aboard n tr ident).lane tr.lane = (s.lane tr.lane).drawn tr.bench := by
    rw [haboard]
    exact (State.lane_setLane s tr.lane tr.lane _).trans (if_pos rfl)
  have hcar (m : CarriageName) : (s.aboard n tr ident).car m = if m = n then (s.car n).laden tr.bench leg else s.car m := by
    rw [haboard]
    exact State.car_setCar ..
  have hwaits : ∀ w, ((s.aboard n tr ident).lane tr.lane).waiting = some w → w ≠ n ∧ ((s.aboard n tr ident).car w).assigned ≠ some tr.order := by
    intro w hwait
    rw [hlane] at hwait
    obtain ⟨hne, hassigned⟩ := hw w hwait
    rw [hcar, if_neg hne]
    exact ⟨hne, hassigned⟩
  obtain ⟨hlist, -, hcount⟩ := hlanes tr.lane
  rw [hlane] at hlist hcount
  refine ⟨hlist, hcount, ?_, ⟨leg, ?_⟩, ?_, ?_⟩
  · refine (congrArg (Table.get? · tr.bench) hbenches).trans ?_
    rw [haboard]
    exact (Table.get?_put ..).trans (if_pos rfl)
  · refine (car_oweAt ..).trans ((releaseLock_car fun h => (hwaits n h).1 rfl).trans ((hcar n).trans (if_pos rfl)))
  · have howe (t : State) : (t.oweAt n.corridor tr.lane).order? tr.order = t.order? tr.order := by
      refine order?_of_book ?_ _
      simp only [State.oweAt]
      split <;> rfl
    refine (howe _).trans ((releaseLock_order? fun w h => (hwaits w h).2).trans ?_)
    rw [haboard]
    exact (order?_modOrder (s := s) (g := fun q => q.carrying tr.bench) fun _ => rfl).trans (congrArg (Option.map _) ho)
  · refine hids.trans ?_
    rw [haboard]
    simp only [State.ids, List.map_map]
    refine List.map_congr_left fun q _ => ?_
    simp only [Function.comp]
    split <;> rfl

end Sys2Proof.Machine
end

section
/-! PROOFS. Pushes, pulls of a claimed bench, and the outcomes of transfers (R130, R133 to R137). -/

namespace Sys2Proof.Machine

/-! ## Orders of carriages -/

/-- No carriage has an order that it had not. -/
structure AssignsLess (s t : State) : Prop where
  assigned : ∀ m id, (t.car m).assigned = some id → (s.car m).assigned = some id

namespace AssignsLess

theorem refl (s : State) : AssignsLess s s := ⟨fun _ _ h => h⟩

theorem trans {s t u : State} (h : AssignsLess s t) (k : AssignsLess t u) : AssignsLess s u :=
  ⟨fun m id hm => h.assigned m id (k.assigned m id hm)⟩

theorem of_same {s t : State} (h : ∀ m, (t.car m).assigned = (s.car m).assigned) : AssignsLess s t := ⟨fun m _ hm => (h m).symm.trans hm⟩

theorem of_cars {s t : State} (h : t.carriages = s.carriages) : AssignsLess s t := of_same fun m => by rw [State.car, State.car, h]

theorem modCar (s : State) (n : CarriageName) (g : Carriage → Carriage) (hg : ∀ v id, (g v).assigned = some id → v.assigned = some id) :
    AssignsLess s (s.modCar n g) := by
  refine ⟨fun m id hm => ?_⟩
  rw [car_modCar] at hm
  split at hm
  · rename_i h
    subst h
    exact hg _ _ hm
  · exact hm

theorem of_tracked {s t : State} (h : Tracked s t) : AssignsLess s t := by
  refine of_same fun m => ?_
  obtain ⟨a, b, h | ⟨_, _, lo, hi, x, work, leg, h⟩⟩ := h.cars m <;> rw [h]

theorem unwait (s : State) (n : CarriageName) : AssignsLess s (s.unwait n) := of_cars rfl

theorem notifyAll (s : State) (b : NoticeBody) : AssignsLess s (s.notifyAll b) := of_same fun m => by rw [State.car_notifyAll]

theorem modOrder (s : State) (id : Nat) (g : Order → Order) : AssignsLess s (s.modOrder id g) := of_cars rfl

theorem shiftFailed (s : State) (n : CarriageName) : AssignsLess s (s.shiftFailed n) := by
  have hfree (t : State) (w : CarriageName) : AssignsLess t (t.modCar w fun v => { v with task := none, assigned := none }) :=
    modCar _ _ _ fun _ _ h => absurd h nofun
  have howe (t : State) : AssignsLess t (t.owe n.corridor) := of_cars rfl
  have hqueue (id : Nat) : AssignsLess s (s.modOrder id fun o => { o with phase := .queued, carriage := none }) := of_cars rfl
  simp only [State.shiftFailed]
  split
  · exact howe s
  · split
    · exact ((hqueue _).trans (hfree ..)).trans (howe _)
    · exact (hfree ..).trans (howe _)

theorem enterFaulted (s : State) (n : CarriageName) (k : FaultKind) (code : Option Nat) : AssignsLess s (s.enterFaulted n k code) := by
  have hself : AssignsLess s (((s.withdrawWait n).unwait n).modCar n fun v => v.faultedBy k code) :=
    ((of_same fun m => congrArg Carriage.assigned (Steady.withdrawWait_car s n m)).trans (unwait ..)).trans
      (modCar _ n (fun v => v.faultedBy k code) fun _ _ h => h)
  have howe (t : State) : AssignsLess t (t.owe n.corridor) := of_cars rfl
  simp only [State.enterFaulted]
  split
  · exact (hself.trans (shiftFailed _ n)).trans (howe _)
  · exact hself.trans (howe _)

theorem startWork (s : State) (n : CarriageName) : AssignsLess s (s.startWork n) := by
  have hkept (t : State) (g : Carriage → Carriage) (hg : ∀ v, (g v).assigned = v.assigned) : AssignsLess t (t.modCar n g) :=
    modCar _ _ _ fun v _ h => (hg v).symm.trans h
  simp only [State.startWork]
  split
  · split
    · simp only [State.startOrder]
      split
      · exact refl s
      · rename_i id _
        have hrun : AssignsLess s ((s.modOrder id fun o =>
            { o with phase := match o.source with | .aboard _ => .carrying | _ => .fetching }).modCar n fun v => { v with state := .running }) :=
          (modOrder ..).trans (hkept _ (fun v => { v with state := .running }) fun _ => rfl)
        split
        · exact hrun.trans (hkept _ _ fun _ => rfl)
        · exact hrun
    · simp only [State.enterHoming]
      split
      · exact hkept _ _ fun _ => rfl
      · exact (enterFaulted ..).trans (notifyAll ..)
    · exact refl s
  · exact refl s

theorem endShift (s : State) (n : CarriageName) : AssignsLess s (s.endShift n) := by
  have howe : AssignsLess s (s.owe n.corridor) := of_cars rfl
  simp only [State.endShift]
  split
  · exact howe
  · rename_i w _
    have htask := howe.trans (modCar (s.owe n.corridor) w (fun v =>
      { v with task := v.task.map fun k => { k with waitingFor := k.waitingFor.filter fun m => decide (m ≠ n) } }) fun _ _ h => h)
    split
    · split
      · exact htask.trans (startWork ..)
      · exact htask
    · exact htask

theorem becomeIdle (s : State) (n : CarriageName) : AssignsLess s (s.becomeIdle n) := by
  have hmod : AssignsLess s (s.modCar n Carriage.idleNow) := modCar _ _ _ fun _ _ h => h
  have hidle : AssignsLess s (((s.modCar n Carriage.idleNow).convert n).owe n.corridor) :=
    hmod.trans (of_tracked ((Tracked.convert ..).trans (.owe ..)))
  simp only [State.becomeIdle]
  split
  · exact hidle.trans (endShift ..)
  · exact hidle

theorem withdraw (s : State) (n : CarriageName) : AssignsLess s (s.withdraw n) := by
  have hset (g : Carriage → Carriage) (hg : ∀ v, (g v).assigned = v.assigned) : AssignsLess s (s.modCar n g) :=
    modCar _ _ _ fun v _ h => (hg v).symm.trans h
  unfold State.withdraw
  split
  · exact hset _ fun _ => rfl
  · exact (of_same fun m => congrArg Carriage.assigned (Steady.withdrawWait_car s n m)).trans (becomeIdle ..)
  · exact hset _ fun _ => rfl
  · exact refl s

theorem endOrder (s : State) (id : Nat) (st : EndState) (reason : Option EndReason) : AssignsLess s (s.endOrder id st reason) := by
  cases h : s.order? id with
  | none => rw [endOrder_none h]; exact refl s
  | some o =>
    refine ⟨fun m j hm => ?_⟩
    rw [endOrder_car h] at hm
    split at hm
    · exact absurd hm nofun
    · exact hm

end AssignsLess

theorem WaitsLess.withdraw (s : State) (n : CarriageName) : WaitsLess s (s.withdraw n) := by
  unfold State.withdraw
  split
  · exact .of_lanes rfl
  · exact (WaitsLess.withdrawWait ..).trans (.becomeIdle ..)
  · exact .of_lanes rfl
  · exact .refl s

/-! ## The bench of a pull, claimed by another order (R136) -/

/-- The claiming order ended, a carriage it holds on the other corridor withdrawn. -/
def State.unclaimedFor (s : State) (c : Corridor) (q : Order) : State :=
  match s.holder q with
  | some m => if m.corridor = c then s.endOrder q.id .cancelled none else (s.endOrder q.id .cancelled none).withdraw m
  | none => s.endOrder q.id .cancelled none

theorem unclaimedFor_cases (s : State) (c : Corridor) (q : Order) :
    s.unclaimedFor c q = s.endOrder q.id .cancelled none ∨ ∃ m, s.unclaimedFor c q = (s.endOrder q.id .cancelled none).withdraw m := by
  unfold State.unclaimedFor
  split
  · split
    · exact .inl rfl
    · exact .inr ⟨_, rfl⟩
  · exact .inl rfl

theorem unclaimedFor_calm (s : State) (c : Corridor) (q : Order) : Calm (s.endOrder q.id .cancelled none) (s.unclaimedFor c q) := by
  rcases unclaimedFor_cases s c q with h | ⟨m, h⟩ <;> rw [h]
  · exact .refl _
  · exact .withdraw ..

theorem cancelClaimant_claimed {s : State} {c : Corridor} {b puller : Nat} {q : Order} (hb : s.claimOf b = some q.id) (hne : q.id ≠ puller)
    (hq : s.order? q.id = some q) : s.cancelClaimant c b puller = s.unclaimedFor c q := by
  simp only [State.cancelClaimant, hb, if_neg hne, hq, Option.bind_some]
  rfl

theorem cancelClaimant_unclaimed {s : State} {c : Corridor} {b puller : Nat} (h : ∀ id, s.claimOf b = some id → id = puller ∨ s.order? id = none) :
    s.cancelClaimant c b puller = s := by
  simp only [State.cancelClaimant]
  split
  · rename_i id hid
    rcases h id hid with rfl | hnone
    · exact if_pos rfl
    · split
      · rfl
      · simp only [hnone, Option.bind_none, endOrder_none hnone]
  · rfl

/-- What the claiming order's end leaves: the bench but for its claim, every lane's list, the clock, the carriages' stand. -/
theorem unclaimedFor_leaves {s : State} {c : Corridor} {b : Nat} {q : Order} {v : Bench} (hv : s.bench? b = some v) (hclaim : v.claim = some q.id)
    (hq : s.order? q.id = some q) :
    (∃ x, (s.unclaimedFor c q).bench? b = some { v with claim := x } ∧ (x = none ∨ x = some q.id)) ∧
    (∀ k, ((s.unclaimedFor c q).lane k).benches = (s.lane k).benches) ∧ (s.unclaimedFor c q).seconds = s.seconds ∧
    (∀ m, ((s.unclaimedFor c q).car m).stand = (s.car m).stand) ∧ q.id ∉ (s.unclaimedFor c q).ids ∧
    WaitsLess s (s.unclaimedFor c q) ∧ AssignsLess s (s.unclaimedFor c q) := by
  have hcalm := unclaimedFor_calm s c q
  obtain ⟨x, hx⟩ := endOrder_shape hq .cancelled none
  refine ⟨?_, fun k => ?_, ?_, fun m => (hcalm.cars m).trans (endOrder_stand ..), ?_, ?_, ?_⟩
  · have hbench : (s.unclaimedFor c q).bench? b = (s.giveBack q .cancelled).bench? b := by
      rw [bench?_of_calm hcalm, hx]
      rfl
    rw [hbench, giveBack_bench?, hv, Option.map_some]
    split
    · exact ⟨none, rfl, .inl rfl⟩
    · exact ⟨some q.id, by rw [← hclaim], .inr rfl⟩
  · exact (congrArg (·.1) (hcalm.lanes k)).trans (endOrder_lane ..).1
  · have hmillis : (s.unclaimedFor c q).millis = s.millis := by
      refine (congrArg Still.millis hcalm.still).trans ?_
      exact (Within.endOrder s q.id .cancelled none).millis
    rw [State.seconds, hmillis, State.seconds]
  · rw [ids_of_calm hcalm]
    exact endOrder_ids _ _ _ _
  · rcases unclaimedFor_cases s c q with h | ⟨m, h⟩ <;> rw [h]
    · exact endOrder_waits ..
    · exact (endOrder_waits ..).trans (.withdraw ..)
  · rcases unclaimedFor_cases s c q with h | ⟨m, h⟩ <;> rw [h]
    · exact .endOrder ..
    · exact (AssignsLess.endOrder ..).trans (.withdraw ..)

end Sys2Proof.Machine
end

section
/-! PROOFS. The outcomes of transfers (R130, R133 to R137). -/

namespace Sys2Proof.Machine

theorem readIdentity_eq (slot : Option Nat) (b : Nat) (failed : Bool) : State.readIdentity slot b failed =
    (match slot with
     | none => .unread
     | some r => if r ≠ b then .doubtful (some r) else if failed = true then .unread else .verified) := by
  cases slot with
  | none => rfl
  | some r =>
    by_cases h : r = b
    · simp only [State.readIdentity, h, if_true, ne_eq, not_true_eq_false, if_false]
    · simp only [State.readIdentity, h, if_false, ne_eq, not_false_eq_true, if_true]

theorem transferOutcome_pull {tr : Transfer} (h : tr.kind = .pull) (s : State) (n : CarriageName) (failed : Bool) :
    s.transferOutcome n tr failed true = s.pullDone n tr failed := by
  unfold State.transferOutcome
  rw [h]

theorem transferOutcome_push {tr : Transfer} (h : tr.kind = .push) (s : State) (n : CarriageName) (failed : Bool) :
    s.transferOutcome n tr failed false = s.pushDone n tr failed := by
  unfold State.transferOutcome
  rw [h]

/-! ## Pulls -/

theorem claimOf_eq {s : State} {b : Nat} {v : Bench} (h : s.bench? b = some v) : s.claimOf b = v.claim := by
  simp only [State.claimOf, h, Option.bind_some]

/-- A pull whose bench no other order claims (R135). -/
theorem pullDone_unclaimed {s : State} {n : CarriageName} {tr : Transfer} {v : Bench} (hv : s.bench? tr.bench = some v)
    (hclaim : v.claim = none ∨ v.claim = some tr.order) (failed : Bool) :
    s.pullDone n tr failed = s.boards n tr (State.readIdentity (s.car n).slot tr.bench failed) := by
  rw [pullDone_boards, cancelClaimant_unclaimed fun id hid => .inl ?_]
  rw [claimOf_eq hv] at hid
  rcases hclaim with h | h
  · exact absurd (hid.symm.trans h) nofun
  · exact Option.some.inj (hid.symm.trans h)

theorem claimsOn_place (o : Order) (v : Bench) : (o.claimsOn v).place = v.place ∧ (o.claimsOn v).identity = v.identity := by
  unfold Order.claimsOn
  split <;> exact ⟨rfl, rfl⟩

/-- A pull of a bench that another order claims: that order ends first (R136). -/
theorem pullDone_claimed {s : State} {n : CarriageName} {tr : Transfer} {o q : Order} {v : Bench} {k : Nat} (failed : Bool)
    (ho : s.order? tr.order = some o) (hsource : o.source = .laneEnd k) (hv : s.bench? tr.bench = some v) (hclaim : v.claim = some q.id)
    (hne : q.id ≠ tr.order) (hq : s.order? q.id = some q)
    (hw : ∀ w, (s.lane tr.lane).waiting = some w → w ≠ n ∧ (s.car w).assigned ≠ some tr.order) :
    s.pullDone n tr failed = (s.unclaimedFor n.corridor q).pullDone n tr failed ∧ (∀ x ∈ (s.pullDone n tr failed).book, x.id ≠ q.id) ∧
    ((s.pullDone n tr failed).lane tr.lane).benches = (s.lane tr.lane).benches.erase tr.bench ∧
    (s.pullDone n tr failed).bench? tr.bench = some { v with
      place := .aboard n, identity := State.readIdentity (s.car n).slot tr.bench failed, claim := some tr.order
      lastMoved := s.seconds } ∧
    ((s.pullDone n tr failed).car n).load = .bench tr.bench ∧ ((s.pullDone n tr failed).car n).state = .running ∧
    ((s.pullDone n tr failed).car n).transfer = none ∧
    ((s.pullDone n tr failed).order? tr.order).map Order.phase = some .carrying ∧
    ((s.pullDone n tr failed).order? tr.order).map Order.bench = some (some tr.bench) := by
  have hcancel : s.cancelClaimant n.corridor tr.bench tr.order = s.unclaimedFor n.corridor q :=
    cancelClaimant_claimed ((claimOf_eq hv).trans hclaim) hne hq
  obtain ⟨⟨x, hbench, hx⟩, hlists, hseconds, hstand, hgone, hwaits, hassigns⟩ := unclaimedFor_leaves (c := n.corridor) hv hclaim hq
  have horder : ∃ p, (s.unclaimedFor n.corridor q).order? tr.order = some p ∧ p.source = .laneEnd k ∧ p.id = tr.order := by
    have hkept := cancelClaimant_order? s n.corridor tr.bench tr.order
    rw [hcancel, ho] at hkept
    obtain ⟨p, hp, hpstand⟩ := Option.map_eq_some_iff.mp hkept
    refine ⟨p, hp, ?_, order?_id hp⟩
    show p.stand.source = _
    rw [hpstand]
    exact hsource
  obtain ⟨p, hp, hpsource, hpid⟩ := horder
  have hslot : ((s.unclaimedFor n.corridor q).car n).slot = (s.car n).slot := by
    show ((s.unclaimedFor n.corridor q).car n).stand.slot = (s.car n).stand.slot
    rw [hstand n]
  have hboards : s.pullDone n tr failed =
      (s.unclaimedFor n.corridor q).boards n tr (State.readIdentity (s.car n).slot tr.bench failed) := by
    rw [pullDone_boards, hcancel]
  have hagain : (s.unclaimedFor n.corridor q).pullDone n tr failed =
      (s.unclaimedFor n.corridor q).boards n tr (State.readIdentity (s.car n).slot tr.bench failed) := by
    rw [pullDone_boards, hslot, cancelClaimant_unclaimed fun id hid => .inr ?_]
    rw [claimOf_eq hbench] at hid
    rcases hx with rfl | rfl
    · exact absurd hid nofun
    · obtain rfl := Option.some.inj hid
      exact (order?_none_iff ..).mpr hgone
  obtain ⟨hlane, -, hput, ⟨leg, hcar⟩, hcarries, hids⟩ := boards_leaves (n := n) hp hbench
    (State.readIdentity (s.car n).slot tr.bench failed) fun w hwait =>
      ⟨(hw w (hwaits.waits _ _ hwait)).1, fun ha => (hw w (hwaits.waits _ _ hwait)).2 (hassigns.assigned _ _ ha)⟩
  rw [hagain, hboards, hput, hcar, hcarries, hlane, hlists]
  refine ⟨rfl, fun y hy hid => hgone ?_, rfl, ?_, rfl, rfl, rfl, rfl, rfl⟩
  · rw [← hids]
    exact List.mem_map.mpr ⟨y, hy, hid⟩
  · simp only [Order.claimsOn, hpsource, hpid, Bench.movedTo, hseconds]

/-! ## Pushes -/

/-- The lane that a push puts its bench into (R19, R50). -/
def State.joined (s : State) (c : Corridor) (k b : Nat) : Lane :=
  { s.lane k with
    benches := if s.isBay k = true ∧ c = .t then (s.lane k).benches ++ [b] else b :: (s.lane k).benches
    incoming := (s.lane k).incoming - 1 }

theorem joinAt_decIncoming (s : State) (c : Corridor) (k b : Nat) : (s.joinAt k c b).decIncoming k = s.setLane k (s.joined c k b) := by
  rw [joinAt_eq]
  simp only [State.decIncoming, State.modLane, State.lane_setLane, if_true]
  simp only [State.setLane, Table.put_put]
  rfl

/-- The unit with the pushed bench in its lane, before the events and the end of the order. -/
def State.pushed (s : State) (n : CarriageName) (tr : Transfer) (v : Bench) (ident : Identity) : State :=
  { s with
    lanes := s.lanes.put tr.lane (s.joined n.corridor tr.lane tr.bench)
    benches := s.benches.put tr.bench (v.movedTo (.inLane tr.lane) ident s.seconds)
    carriages := s.carriages.set n { s.car n with load := .empty } }

theorem pushDone_eq {s : State} {n : CarriageName} {tr : Transfer} {v : Bench} (hv : s.bench? tr.bench = some v) (failed : Bool) :
    s.pushDone n tr failed =
      (((s.pushed n tr v (State.readIdentity (s.car n).slot tr.bench failed)).offerIdentity n.corridor tr.lane tr.bench
        (State.readIdentity (s.car n).slot tr.bench failed)).offer
          ⟨.arrived tr.lane tr.bench, some n.corridor, some tr.lane, some tr.bench, none⟩).endAtMouth n tr .done none := by
  have hmoved (ident : Identity) : (((s.joinAt tr.lane n.corridor tr.bench).decIncoming tr.lane).moveBench tr.bench (.inLane tr.lane)).setIdentity
      tr.bench ident = { s.setLane tr.lane (s.joined n.corridor tr.lane tr.bench) with
        benches := s.benches.put tr.bench (v.movedTo (.inLane tr.lane) ident s.seconds) } := by
    rw [joinAt_decIncoming]
    exact moveBench_setIdentity (s := s.setLane tr.lane (s.joined n.corridor tr.lane tr.bench)) hv _ _
  simp only [State.pushDone, hmoved]
  rfl

/-- The events of a push leave what it wrote. -/
theorem pushed_offers (s : State) (n : CarriageName) (tr : Transfer) (v : Bench) (ident : Identity) (o : Offer) :
    ∃ links, ((s.pushed n tr v ident).offerIdentity n.corridor tr.lane tr.bench ident).offer o = { s.pushed n tr v ident with links := links } :=
  ⟨_, by rw [offer_fields, offerIdentity_fields]⟩

theorem pushDone_leaves {s : State} {n : CarriageName} {tr : Transfer} {v : Bench} (hv : s.bench? tr.bench = some v) (failed : Bool) :
    ((s.pushDone n tr failed).lane tr.lane).benches =
      (if s.isBay tr.lane = true ∧ n.corridor = .t then (s.lane tr.lane).benches ++ [tr.bench] else tr.bench :: (s.lane tr.lane).benches) ∧
    ((s.pushDone n tr failed).lane tr.lane).incoming = (s.lane tr.lane).incoming - 1 ∧
    ((s.pushDone n tr failed).bench? tr.bench).map Bench.place = some (.inLane tr.lane) ∧
    ((s.pushDone n tr failed).bench? tr.bench).map Bench.identity = some (State.readIdentity (s.car n).slot tr.bench failed) ∧
    (s.pushDone n tr failed).order? tr.order = none ∧
    ((s.lane tr.lane).waiting ≠ some n → ((s.pushDone n tr failed).car n).load = .empty) := by
  obtain ⟨links, hlinks⟩ := pushed_offers s n tr v (State.readIdentity (s.car n).slot tr.bench failed)
    ⟨.arrived tr.lane tr.bench, some n.corridor, some tr.lane, some tr.bench, none⟩
  rw [pushDone_eq hv, hlinks]
  obtain ⟨hids, hidled, hlanes, hbench⟩ := endAtMouth_leaves (n := n) (tr := tr)
    (s := { s.pushed n tr v (State.readIdentity (s.car n).slot tr.bench failed) with links := links }) .done none
  have hlane : ({ s.pushed n tr v (State.readIdentity (s.car n).slot tr.bench failed) with links := links } : State).lane tr.lane =
      s.joined n.corridor tr.lane tr.bench := (State.lane_setLane s tr.lane tr.lane _).trans (if_pos rfl)
  have hput : ({ s.pushed n tr v (State.readIdentity (s.car n).slot tr.bench failed) with links := links } : State).bench? tr.bench =
      some (v.movedTo (.inLane tr.lane) (State.readIdentity (s.car n).slot tr.bench failed) s.seconds) := (Table.get?_put ..).trans (if_pos rfl)
  obtain ⟨hlist, hincoming⟩ := hlanes tr.lane
  obtain ⟨hplace, hident⟩ := hbench tr.bench
  rw [hlane] at hlist hincoming hidled
  rw [hput] at hplace hident
  refine ⟨hlist, hincoming rfl, hplace, hident, ?_, fun hw => ?_⟩
  · refine (order?_none_iff ..).mpr fun hmem => ?_
    obtain ⟨x, hx, hid⟩ := List.mem_map.mp hmem
    exact hids x hx hid
  · have hstand := (hidled hw).2
    have hcar : ({ s.pushed n tr v (State.readIdentity (s.car n).slot tr.bench failed) with links := links } : State).car n =
      { s.car n with load := .empty } := setCar_car_self s n _
    rw [hcar] at hstand
    exact congrArg (fun v : Carriage => v.load) hstand

end Sys2Proof.Machine
end

section
/-! PROOFS. The outcomes of transfers (R130, R133 to R137). -/

namespace Sys2Proof.Machine

/-- A failed outcome with its reason: what is written before the order ends FAILED (R135, R137). -/
theorem transferOutcome_failed {s : State} {n : CarriageName} {tr : Transfer} {failed loaded : Bool} {reason : EndReason}
    (h : (tr.kind = .pull ∧ loaded = false ∧ failed = false ∧ reason = .nothingPulled) ∨
      (tr.kind = .pull ∧ loaded = false ∧ failed = true ∧ reason = .transferFailed) ∨
      (tr.kind = .push ∧ loaded = true ∧ failed = false ∧ reason = .notReleased) ∨
      (tr.kind = .push ∧ loaded = true ∧ failed = true ∧ reason = .transferFailed)) :
    s.transferOutcome n tr failed loaded =
      (if reason = .nothingPulled then
        (s.setIdentity tr.bench (.doubtful none)).offer
          ⟨.identity tr.bench (.doubtful none), some n.corridor, some tr.lane, some tr.bench, none⟩
       else s).endAtMouth n tr .failed (some reason) := by
  rcases h with ⟨hk, rfl, rfl, rfl⟩ | ⟨hk, rfl, rfl, rfl⟩ | ⟨hk, rfl, rfl, rfl⟩ | ⟨hk, rfl, rfl, rfl⟩
  all_goals unfold State.transferOutcome
  all_goals rw [hk]
  · exact (if_pos rfl).symm ▸ rfl
  · rw [if_neg (by decide)]
  · rw [if_neg (by decide)]
  · rw [if_neg (by decide)]

/-- What is written of a pull that brought nothing (R135), where it was one. -/
theorem doubted_leaves {s : State} {n : CarriageName} {tr : Transfer} {v : Bench} (hv : s.bench? tr.bench = some v) (reason : EndReason)
    {u : State} (hu : u = (if reason = .nothingPulled then
        (s.setIdentity tr.bench (.doubtful none)).offer
          ⟨.identity tr.bench (.doubtful none), some n.corridor, some tr.lane, some tr.bench, none⟩
       else s)) :
    u.carriages = s.carriages ∧ u.lanes = s.lanes ∧
      u.bench? tr.bench = some { v with identity := if reason = .nothingPulled then .doubtful none else v.identity } := by
  subst hu
  by_cases hr : reason = .nothingPulled
  · have hset : s.setIdentity tr.bench (.doubtful none) = { s with benches := s.benches.put tr.bench { v with identity := .doubtful none } } :=
      modBench_fields hv _
    rw [if_pos hr, offer_fields, hset]
    exact ⟨rfl, rfl, (Table.get?_put ..).trans ((if_pos rfl).trans (by rw [if_pos hr]))⟩
  · rw [if_neg hr]
    exact ⟨rfl, rfl, by rw [if_neg hr]; exact hv⟩

/-- Settles O59: the identity a reading gives; pulls, pushes and failed outcomes; the bench of a pull that another order claims; the
release of a lock. -/
theorem transfersMoveTheBench : Obligations.TransfersMoveTheBench := by
  refine ⟨readIdentity_eq, ?_, ?_, ?_, ?_, ?_, ?_⟩
  · rintro s u n tr o v failed ident hk ho hv hclaim - rfl rfl
    rw [transferOutcome_pull hk, pullDone_unclaimed hv hclaim]
    refine (released_leaves _ n.corridor tr.lane).2.1.trans ((aboard_links ho hv _).trans ?_)
    split <;> rfl
  · rintro s w u n tr v failed ident hk hv rfl rfl rfl
    rw [transferOutcome_push hk]
    refine ⟨(pushDone_eq hv failed).trans ?_, (pushDone_leaves hv failed).2.2.2.1⟩
    rw [endAtMouth_eq]
    unfold State.offerIdentity
    split <;> rfl
  · intro s n tr o v failed ho hv hclaim hw
    refine ⟨fun hk => ?_, fun hk => ?_⟩
    · rw [transferOutcome_pull hk, pullDone_unclaimed hv hclaim]
      obtain ⟨hlist, hcount, hbench, ⟨leg, hcar⟩, horder, -⟩ := boards_leaves (n := n) ho hv
        (State.readIdentity (s.car n).slot tr.bench failed) fun w hwait => absurd (hw.symm.trans hwait) nofun
      obtain ⟨hplace, hident⟩ := claimsOn_place o (v.movedTo (.aboard n) (State.readIdentity (s.car n).slot tr.bench failed) s.seconds)
      rw [hbench, hcar, horder]
      exact ⟨hlist, hcount, congrArg some hplace, congrArg some hident, rfl, rfl, rfl⟩
    · rw [transferOutcome_push hk]
      obtain ⟨hlist, hcount, hplace, -, horder, hload⟩ := pushDone_leaves (n := n) hv failed
      exact ⟨hlist, hcount, hplace, hload (by rw [hw]; exact nofun), horder⟩
  · rintro s s0 s1 t n tr o q v id k failed hk ho hsource hv hclaim hne hq hw rfl hs0 rfl
    obtain rfl := order?_id hq
    have hs : s0 = s.unclaimedFor n.corridor q := by
      rw [hs0]
      unfold State.unclaimedFor
      cases s.holder q <;> rfl
    subst hs
    rw [transferOutcome_pull hk, transferOutcome_pull hk]
    exact pullDone_claimed failed ho hsource hv hclaim hne hq hw
  · rintro s t u n tr v failed loaded reason hv hw hkind rfl hu
    obtain ⟨hcars, hlanes, hbench⟩ := doubted_leaves hv reason hu
    have houtcome := transferOutcome_failed (s := s) (n := n) hkind
    rw [← hu] at houtcome
    have hlane : u.lane tr.lane = s.lane tr.lane := by rw [State.lane, State.lane, hlanes]
    have hcar : u.car n = s.car n := by rw [State.car, State.car, hcars]
    obtain ⟨hids, hidled, hlists, hbenches⟩ := endAtMouth_leaves (s := u) (n := n) (tr := tr) .failed (some reason)
    obtain ⟨hidle, hstand⟩ := hidled (by rw [hlane, hw]; exact nofun)
    obtain ⟨hplace, hident⟩ := hbenches tr.bench
    rw [houtcome]
    rw [hcar] at hstand
    rw [hbench] at hplace hident
    have hload := congrArg Carriage.load hstand
    have htransfer := congrArg Carriage.transfer hstand
    have hmark := congrArg Carriage.mark hstand
    exact ⟨endAtMouth_eq .., hids, hidle, hload, htransfer, hmark, (hlists tr.lane).1.trans (by rw [hlane]), hplace, hident⟩
  · refine fun s l => ⟨releaseLock_nobay, releaseLock_unwaited, fun w hb hw => ?_⟩
    obtain ⟨cars, book, lanes, hshape, -, -, hlanes⟩ := releaseLock_shape s l
    have hlane : (s.releaseLock l).lane l = { s.lane l with lock := (s.lane l).waiting.map CarriageName.corridor, waiting := none } := by
      rw [hshape]
      exact (hlanes l).trans (if_pos ⟨rfl, hb⟩)
    rw [hlane, hw]
    refine ⟨rfl, rfl, fun k id o b m hd ha ho hload hm => ?_⟩
    have hendMost : if o.phase = .carrying then (s.car w).load = .bench b
        else (s.setLane l { s.lane l with lock := some w.corridor, waiting := none }).endMost k w.corridor = some b := by
      have hsame : (s.setLane l { s.lane l with lock := some w.corridor, waiting := none }).endMost k w.corridor = s.endMost k w.corridor := by
        have hbenches : ((s.setLane l { s.lane l with lock := some w.corridor, waiting := none }).lane k).benches = (s.lane k).benches := by
          rw [State.lane_setLane]
          split
          · rename_i hkl; rw [hkl]
          · rfl
        unfold State.endMost
        rw [hbenches]
        rfl
      rw [hsame]
      exact hload
    rw [releaseLock_waited hb hw, startTransfer_eq (s := s.setLane l { s.lane l with lock := some w.corridor, waiting := none }) hd ha ho hendMost hm,
      car_modOrder]
    exact setCar_car_self ..

end Sys2Proof.Machine
end

section
/-! PROOFS. Grant requests (R80, R81, R118). -/

namespace Sys2Proof.Machine

/-! ## Segments that a request leaves -/

/-- A segment that a request of a carriage may not take: a fenced one, or one that another carriage holds (R80). -/
def Segment.Barred (g : Segment) (n : CarriageName) : Prop := g.fence ≠ none ∨ ∃ m, m ≠ n ∧ g.holds m = true

/-- What a request of a carriage leaves: every segment it may not take. -/
structure Respects (n : CarriageName) (s t : State) : Prop where
  barred : ∀ c k, (s.seg c k).Barred n →
    (t.seg c k).Barred n ∧ (t.seg c k).running = (s.seg c k).running ∧ (t.seg c k).standing = (s.seg c k).standing

namespace Respects

variable {n : CarriageName}

theorem refl (s : State) : Respects n s s := ⟨fun _ _ h => ⟨h, rfl, rfl⟩⟩

theorem trans {s t u : State} (h : Respects n s t) (k : Respects n t u) : Respects n s u := by
  refine ⟨fun c i hb => ?_⟩
  obtain ⟨h1, h2, h3⟩ := h.barred c i hb
  obtain ⟨k1, k2, k3⟩ := k.barred c i h1
  exact ⟨k1, k2.trans h2, k3.trans h3⟩

theorem of_segments {s t : State} (h : t.segments = s.segments) : Respects n s t := by
  refine ⟨fun c k hb => ?_⟩
  rw [State.seg_of_segments h]
  exact ⟨hb, rfl, rfl⟩

theorem foldl {α : Type} (f : State → α → State) (hf : ∀ t a, Respects n t (f t a)) (l : List α) (s : State) : Respects n s (l.foldl f s) := by
  induction l generalizing s with
  | nil => exact refl s
  | cons a rest ih => exact (hf s a).trans (ih (f s a))

theorem modSeg (s : State) (c : Corridor) (k : Nat) (g : Segment → Segment) (hg : (s.seg c k).Barred n →
    (g (s.seg c k)).Barred n ∧ (g (s.seg c k)).running = (s.seg c k).running ∧ (g (s.seg c k)).standing = (s.seg c k).standing) :
    Respects n s (s.modSeg c k g) := by
  refine ⟨fun d j hb => ?_⟩
  rw [State.seg_modSeg]
  split
  · rename_i h
    obtain ⟨rfl, rfl⟩ := h
    exact hg hb
  · exact ⟨hb, rfl, rfl⟩

theorem waiting (s : State) (c : Corridor) (k : Nat) (g : Segment → List CarriageName) :
    Respects n s (s.modSeg c k fun v => { v with waiting := g v }) := modSeg _ _ _ _ fun hb => ⟨hb, rfl, rfl⟩

theorem unwait (s : State) (m : CarriageName) : Respects n s (s.unwait m) := by
  refine ⟨fun c k hb => ?_⟩
  rw [seg_unwait]
  split
  · exact ⟨hb, rfl, rfl⟩
  · exact ⟨hb, rfl, rfl⟩

theorem setFence (s : State) (c : Corridor) (k : Nat) (f : Fence) : Respects n s (s.setFence c k f) := by
  refine ⟨fun d j hb => ?_⟩
  rw [seg_setFence]
  split
  · rename_i h
    obtain ⟨rfl, rfl⟩ := h
    exact ⟨.inl nofun, rfl, rfl⟩
  · exact ⟨hb, rfl, rfl⟩

/-- A grant takes an open segment only. -/
theorem grant {s : State} {k : Nat} (dir : Dir) (h : s.openTo n k = true) : Respects n s (s.grant n dir k) := by
  refine modSeg _ _ _ _ fun hb => ?_
  rcases hb with hfence | ⟨m, hm, hholds⟩
  · simp only [State.openTo, Bool.and_eq_true, Option.isNone_iff_eq_none] at h
    exact absurd h.1.1.2 hfence
  · exact absurd (Within.openTo_only s n k h m hholds) hm

theorem judge (dir : Dir) (l : List Nat) (s : State) : Respects n s (State.judge n dir l s).1 := by
  induction l generalizing s with
  | nil => exact refl s
  | cons k rest ih =>
    simp only [State.judge]
    split
    · rename_i hopen
      simp only [Bool.and_eq_true] at hopen
      exact (grant dir hopen.2).trans (ih _)
    · split
      · split
        · rename_i hopen
          exact (grant dir hopen).trans (ih _)
        · split
          · exact (setFence ..).trans (ih _)
          · exact ih _
      · exact refl s

theorem askShift (s : State) (m : CarriageName) (k : Nat) : Respects n s (s.askShift m k) := by
  simp only [State.askShift]
  split
  · split
    · split
      · exact foldl _ (fun _ _ => of_segments (by rfl)) _ _
      · exact refl s
    · exact refl s
  · exact refl s

end Respects

/-! ## The request -/

/-- The unit as a carriage's request begins: its horizon and list noted (R118). -/
def State.asking (s : State) (n : CarriageName) (leg : Leg) (p : Int) (it : CarriageItem) : State :=
  s.modCar n fun w => { w with
    horizon := some (s.requestStretch n leg p it).1, requestList := s.requestList n leg.dir (s.requestStretch n leg p it).2 }

theorem grantRequest_eq {s : State} {n : CarriageName} {it : CarriageItem} {p : Int} {leg : Leg}
    (hstate : (s.car n).state = .running ∨ (s.car n).state = .homing) (hopen : ¬ (s.mode = .configuring ∨ s.hold n.corridor = true))
    (hit : s.item n = some it) (hp : (s.car n).p = some p) (hleg : (s.car n).leg = some leg) : s.grantRequest n =
      (match State.judge n leg.dir (s.requestList n leg.dir (s.requestStretch n leg p it).2) (s.asking n leg p it) with
       | (s2, none) => s2.unwait n
       | (s2, some k) => (s2.waitAt n k).askShift n k) := by
  simp only [State.grantRequest, if_pos hstate, if_neg hopen, hit, hp, hleg]
  rfl

theorem grantRequest_still {s : State} {n : CarriageName} (h1 : (s.car n).state ≠ .running) (h2 : (s.car n).state ≠ .homing) :
    s.grantRequest n = s := by
  simp only [State.grantRequest, h1, h2, or_self, if_false]

theorem grantRequest_respects (s : State) (n : CarriageName) : Respects n s (s.grantRequest n) := by
  simp only [State.grantRequest]
  split
  · split
    · exact .unwait ..
    · split
      · rename_i it p leg _ _ _
        have hfigures : Respects n s (s.modCar n fun w =>
            { w with
              horizon := some (s.requestStretch n leg p it).1
              requestList := s.requestList n leg.dir (s.requestStretch n leg p it).2 }) := .of_segments rfl
        have hjudge := hfigures.trans (.judge leg.dir (s.requestList n leg.dir (s.requestStretch n leg p it).2) _)
        split
        · rename_i s2 heq
          rw [heq] at hjudge
          exact hjudge.trans (.unwait ..)
        · rename_i s2 k heq
          rw [heq] at hjudge
          exact ((hjudge.trans (.unwait s2 n)).trans (.waiting ..)).trans (.askShift ..)
      · exact .unwait ..
  · exact .refl s

/-- Under the hold and in CONFIGURING a request writes no running layer (R81). -/
theorem grantRequest_held {s : State} {n : CarriageName} (h : s.mode = .configuring ∨ s.hold n.corridor = true) (c : Corridor) (k : Nat) :
    ((s.grantRequest n).seg c k).running = (s.seg c k).running := by
  simp only [State.grantRequest, if_pos h]
  split
  · rw [seg_unwait]
    split <;> rfl
  · rfl

/-! ## The first segment of a list -/

/-- A segment that stands in the running layer of one carriage alone. -/
def State.grantedTo (s : State) (n : CarriageName) (dir : Dir) (k : Nat) : Prop :=
  (s.seg n.corridor k).running = some (n, dir) ∧ (s.seg n.corridor k).standing = none

theorem grantedTo_grant (s : State) (n : CarriageName) (dir : Dir) (k : Nat) : (s.grant n dir k).grantedTo n dir k := by
  unfold State.grantedTo State.grant
  rw [State.seg_modSeg, if_pos ⟨rfl, rfl⟩]
  exact ⟨rfl, rfl⟩

theorem grantedTo_of_layers {s t : State} {n : CarriageName} {dir : Dir} {k : Nat} (h : s.grantedTo n dir k)
    (hr : (t.seg n.corridor k).running = (s.seg n.corridor k).running)
    (hs : (t.seg n.corridor k).standing = (s.seg n.corridor k).standing) : t.grantedTo n dir k :=
  ⟨hr.trans h.1, hs.trans h.2⟩

theorem judge_keeps_granted {n : CarriageName} {dir : Dir} {k : Nat} (l : List Nat) {s : State} (h : s.grantedTo n dir k) :
    (State.judge n dir l s).1.grantedTo n dir k := by
  have hgrant {t : State} (j : Nat) (ht : t.grantedTo n dir k) : (t.grant n dir j).grantedTo n dir k := by
    by_cases hj : k = j
    · subst hj
      exact grantedTo_grant ..
    · have hsame : (t.grant n dir j).seg n.corridor k = t.seg n.corridor k := by
        rw [State.grant, State.seg_modSeg, if_neg fun h => hj h.2]
      exact grantedTo_of_layers ht (by rw [hsame]) (by rw [hsame])
  have hfence {t : State} (j : Nat) (f : Fence) (ht : t.grantedTo n dir k) : (t.setFence n.corridor j f).grantedTo n dir k := by
    have hseg := seg_setFence t n.corridor n.corridor j k f
    by_cases hj : k = j
    · subst hj
      rw [if_pos ⟨rfl, rfl⟩] at hseg
      exact grantedTo_of_layers ht (by rw [hseg]) (by rw [hseg])
    · rw [if_neg fun h => hj h.2] at hseg
      exact grantedTo_of_layers ht (by rw [hseg]) (by rw [hseg])
  induction l generalizing s with
  | nil => exact h
  | cons j rest ih =>
    simp only [State.judge]
    split
    · exact ih (hgrant j h)
    · split
      · split
        · exact ih (hgrant j h)
        · split
          · exact ih (hfence j _ h)
          · exact ih h
      · exact h

theorem askShift_segments (s : State) (n : CarriageName) (k : Nat) : (s.askShift n k).segments = s.segments := by
  have hgive (w : Option Work) (l : List Shift) (t : State) : (giveShifts w l t).segments = t.segments := by
    induction l generalizing t with
    | nil => rfl
    | cons a rest ih => exact (ih _).trans rfl
  simp only [State.askShift]
  split
  · split
    · split
      · exact hgive ..
      · rfl
    · rfl
  · rfl

/-- A request that begins with a segment it can have takes it (R80). -/
theorem grantRequest_first {s : State} {n : CarriageName} {it : CarriageItem} {p : Int} {leg : Leg} {k : Nat} {rest : List Nat}
    (hstate : (s.car n).state = .running ∨ (s.car n).state = .homing) (hopen : ¬ (s.mode = .configuring ∨ s.hold n.corridor = true))
    (hit : s.item n = some it) (hp : (s.car n).p = some p) (hleg : (s.car n).leg = some leg)
    (hlist : s.requestList n leg.dir (s.requestStretch n leg p it).2 = k :: rest)
    (hreach : (s.asking n leg p it).reachable n leg.dir k = true) (hfree : (s.asking n leg p it).openTo n k = true) :
    (s.grantRequest n).grantedTo n leg.dir k := by
  have hjudge : (State.judge n leg.dir (k :: rest) (s.asking n leg p it)).1.grantedTo n leg.dir k := by
    simp only [State.judge, hreach, hfree, Bool.and_self, if_true]
    exact judge_keeps_granted rest (grantedTo_grant ..)
  rw [grantRequest_eq hstate hopen hit hp hleg, hlist]
  split
  · rename_i s2 heq
    rw [heq] at hjudge
    have hseg := seg_unwait s2 n n.corridor k
    rw [if_pos rfl] at hseg
    exact grantedTo_of_layers hjudge (by rw [hseg]) (by rw [hseg])
  · rename_i s2 j heq
    rw [heq] at hjudge
    have hunwait := seg_unwait s2 n n.corridor k
    rw [if_pos rfl] at hunwait
    have hseg : ((s2.waitAt n j).askShift n j).seg n.corridor k = (s2.waitAt n j).seg n.corridor k :=
      State.seg_of_segments (askShift_segments ..) _ _
    have hwait : ((s2.waitAt n j).seg n.corridor k).running = (s2.seg n.corridor k).running ∧
        ((s2.waitAt n j).seg n.corridor k).standing = (s2.seg n.corridor k).standing := by
      rw [State.waitAt, State.seg_modSeg]
      split
      · rename_i hj
        rw [← hj.2, hunwait]
        exact ⟨rfl, rfl⟩
      · rw [hunwait]
        exact ⟨rfl, rfl⟩
    rw [← hseg] at hwait
    exact grantedTo_of_layers hjudge hwait.1 hwait.2

/-- Settles O13: what a request leaves, what it takes, and the layers that every step keeps. -/
theorem grantsKeepOutOfFences : Obligations.GrantsKeepOutOfFences := by
  refine ⟨fun s n => ⟨fun c k hf => ((grantRequest_respects s n).barred c k (.inl hf)).2.1,
    fun c k m hm hholds => ((grantRequest_respects s n).barred c k (.inr ⟨m, hm, hholds⟩)).2, grantRequest_held, grantRequest_still,
    fun it p leg k rest hstate hmode hhold hit hp hleg hlist hnear huse hfence hrun hstand => ?_⟩,
    fun s t hs h => (keeps_step s t h).layers hs⟩
  have hopen : ¬ (s.mode = .configuring ∨ s.hold n.corridor = true) := by
    rw [hmode, hhold]
    exact fun h => h.elim nofun nofun
  refine grantRequest_first hstate hopen hit hp hleg hlist ?_ ?_
  · have hrun' : (s.asking n leg p it).heldRun n = s.heldRun n := rfl
    have huncertain : (s.asking n leg p it).uncertain n = s.uncertain n := by
      have hcar : (s.asking n leg p it).car n = { s.car n with
        horizon := some (s.requestStretch n leg p it).1, requestList := s.requestList n leg.dir (s.requestStretch n leg p it).2 } :=
        setCar_car_self ..
      have hitem : (s.asking n leg p it).item n = s.item n := rfl
      simp only [State.uncertain, hcar, hitem]
    have hlayout : (s.asking n leg p it).layout = s.layout := rfl
    simp only [State.reachable, hrun', huncertain, hlayout]
    rcases hnear with ⟨hnone, r, hr, hmeets⟩ | ⟨e, hd, he, rfl⟩ | ⟨e, hd, he, hk⟩
    · simp only [hnone, List.isEmpty_nil, if_true, hr, hmeets]
    · have hne : (s.heldRun n).isEmpty = false := by
        cases hl : s.heldRun n with
        | nil => rw [hl] at he; exact absurd he nofun
        | cons a l => rfl
      simp only [hne, Bool.false_eq_true, if_false, State.nextTo, hd, he, Option.any_some, decide_true]
    · have hne : (s.heldRun n).isEmpty = false := by
        cases hl : s.heldRun n with
        | nil => rw [hl] at he; exact absurd he nofun
        | cons a l => rfl
      simp only [hne, Bool.false_eq_true, if_false, State.nextTo, hd, he, hk, Option.any_some, decide_true]
  · have hseg : (s.asking n leg p it).seg n.corridor k = s.seg n.corridor k := rfl
    have huse' : (s.asking n leg p it).segInUse n.corridor k = true := huse
    simp only [State.openTo, huse', hseg, hfence, hrun, Option.isNone_none, Bool.and_self, Bool.true_and]
    rcases hstand with h | h <;> simp [h]

end Sys2Proof.Machine
end

section
/-! PROOFS. Odometer counts and the tracker's part of an answer (R64, R96 to R98, R105, R115). -/

namespace Sys2Proof.Machine

/-! ## Uncertainty (R97) -/

theorem uValue_eq (s : State) (n : CarriageName) :
    uValue (s.car n).uBase (s.car n).sinceCorrection (s.timing n.corridor).slip (s.car n).slip =
      (s.car n).uBase + ((s.car n).sinceCorrection *
        (if (s.car n).slip = true then 2 * (s.timing n.corridor).slip else (s.timing n.corridor).slip) + 999) / 1000 := by
  have hceil (x : Nat) : ceilDiv x 1000 = (x + 999) / 1000 := by
    unfold ceilDiv
    omega
  rw [uValue, hceil]

theorem refreshU_none {s : State} {n : CarriageName} (h : (s.car n).p = none) : s.refreshU n = s := by
  simp only [State.refreshU, h, Option.isNone_none, if_true]

/-- u above the ceiling: 1,500, and a fault but for an UNPLACED carriage (R115). -/
theorem refreshU_above {s : State} {n : CarriageName} (hp : (s.car n).p ≠ none)
    (h : 1500 < uValue (s.car n).uBase (s.car n).sinceCorrection (s.timing n.corridor).slip (s.car n).slip) :
    s.refreshU n = if (s.car n).state = .unplaced then s.modCar n fun w => { w with u := 1500 }
      else (s.modCar n fun w => { w with u := 1500 }).fault n .positionLost none := by
  have hsome : ¬ (s.car n).p.isNone = true := by rwa [Option.isNone_iff_eq_none]
  simp only [State.refreshU, if_neg hsome]
  exact if_neg (Nat.not_le.mpr h)

/-! ## The ends of the corridor (R115) -/

theorem checkEnds_unplaced {s : State} {n : CarriageName} (h : (s.car n).p = none ∨ s.item n = none) : s.checkEnds n = s := by
  simp only [State.checkEnds]
  split
  · rename_i p it hp hit
    rcases h with h | h
    · exact absurd (h.symm.trans hp) nofun
    · exact absurd (h.symm.trans hit) nofun
  · rfl

/-- The carriage held at an end of its corridor. -/
def Carriage.heldAt (v : Carriage) (q : Int) : Carriage :=
  { v with p := some q, offset := match v.lastOdometer with | some odo => some (q - odo.toInt) | none => v.offset }

theorem checkEnds_eq {s : State} {n : CarriageName} {p : Int} {it : CarriageItem} (hp : (s.car n).p = some p) (hit : s.item n = some it) :
    s.checkEnds n = (match State.heldAtEnd (s.layout.length.get n.corridor) p it.length (s.car n).u with
      | none => s
      | some q => (s.setCar n ((s.car n).heldAt q)).fault n .positionLost none) := by
  simp only [State.checkEnds, hp, hit]
  rfl

theorem heldAtEnd_north {e : Option Nat} {p : Int} {length u : Nat} (h : p < -(u : Int)) : State.heldAtEnd e p length u = some 0 := if_pos h

theorem heldAtEnd_south {e length u : Nat} {p : Int} (h : -(u : Int) ≤ p) (hs : (e : Int) + u < p + length) :
    State.heldAtEnd (some e) p length u = some ((e : Int) - length) := by
  simp only [State.heldAtEnd, if_neg (Int.not_lt.mpr h), if_pos hs]

theorem heldAtEnd_within {o : Option Nat} {length u : Nat} {p : Int} (h : -(u : Int) ≤ p)
    (hs : ∀ e : Nat, o = some e → p + length ≤ (e : Int) + u) : State.heldAtEnd o p length u = none := by
  simp only [State.heldAtEnd, if_neg (Int.not_lt.mpr h)]
  cases o with
  | none => rfl
  | some e => exact if_neg (Int.not_lt.mpr (hs e rfl))

/-! ## The re-home distance (R98) and standstill at a gate (R105) -/

theorem setRehome_eq (s : State) (n : CarriageName) : s.setRehome n = { s with
    carriages := s.carriages.set n { s.car n with rehome := true }
    owed := if s.item n ≠ none ∧ (s.car n).state = .idle ∧ (s.car n).task = none then s.owed.set n.corridor true else s.owed } := by
  have hfree : s.isFree n = true ↔ s.item n ≠ none ∧ (s.car n).state = .idle ∧ (s.car n).task = none := by
    simp only [State.isFree, Bool.and_eq_true, hasRecord_iff, decide_eq_true_eq, Option.isNone_iff_eq_none, and_assoc]
  by_cases h : s.isFree n = true
  · simp only [State.setRehome, if_pos h, if_pos (hfree.mp h)]
    rfl
  · simp only [State.setRehome, if_neg h, if_neg (mt hfree.mpr h)]
    rfl

theorem markStandstill_gate (s : State) (n : CarriageName) (c : Corridor) (k : Nat) : (s.markStandstill n).gate c k =
    if c = n.corridor ∧ (s.car n).speed = 0 ∧ (s.gate c k).attributed = some n then { s.gate c k with standstill := true }
    else s.gate c k := by
  by_cases hspeed : (s.car n).speed = 0
  · have hmark : s.markStandstill n = { s with
        gates := s.gates.set n.corridor ((s.gates.get n.corridor).mapValues fun _ g =>
          if g.attributed = some n then { g with standstill := true } else g) } := if_pos hspeed
    rw [hmark]
    simp only [State.gate, Two.get_set, hspeed, true_and]
    by_cases hc : c = n.corridor
    · subst hc
      simp only [if_true, Table.get?_mapValues, true_and]
      cases (s.gates.get n.corridor).get? k with
      | none => rfl
      | some g => rfl
    · simp only [hc, if_false, false_and]
  · rw [if_neg fun h => hspeed h.2.1]
    exact congrArg (State.gate · c k) (if_neg hspeed)

/-! ## Faults of a FAULTED carriage (R64) -/

theorem fault_lower {s : State} {n : CarriageName} {kind old : FaultKind} {code : Option Nat} (h : (s.car n).state = .faulted)
    (hk : (s.car n).faultKind = some old) (hr : kind.rank ≤ old.rank) : s.fault n kind code = s := by
  simp only [State.fault, State.faultCore, if_pos h, hk, if_neg (Nat.not_lt.mpr hr)]
  rfl

theorem fault_higher {s : State} {n : CarriageName} {kind old : FaultKind} {code : Option Nat} (h : (s.car n).state = .faulted)
    (hk : (s.car n).faultKind = some old) (hr : old.rank < kind.rank) : s.fault n kind code =
      (s.setCar n { s.car n with faultKind := some kind, faultCode := none }).notifyAll (.fault n kind none) := by
  simp only [State.fault, State.faultCore, if_pos h, hk, if_pos hr]
  rfl

/-! ## Odometer counts (R96) -/

theorem trackOdometer_car (s : State) (n m : CarriageName) (hne : m ≠ n) (odo : BitVec 32) : (s.trackOdometer n odo).car m = s.car m :=
  (car_modCar ..).trans (if_neg hne)

theorem trackOdometer_self (s : State) (n : CarriageName) (odo : BitVec 32) :
    (∀ p : Int, (s.car n).p = some p → ((s.car n).offset = none ∨ (s.car n).returned = true) →
      (s.trackOdometer n odo).car n =
        { s.car n with lastOdometer := some odo, returned := false, offset := some (p - odo.toInt), dir := none }) ∧
    (∀ p off : Int, (s.car n).p = some p → (s.car n).offset = some off → (s.car n).returned = false →
      (s.trackOdometer n odo).car n =
        { s.car n with
          lastOdometer := some odo, returned := false, p := some (odo + BitVec.ofInt 32 off).toInt
          sinceCorrection := (s.car n).sinceCorrection + (odometerChange (s.car n) odo).natAbs
          sinceHoming := (s.car n).sinceHoming + (odometerChange (s.car n) odo).natAbs
          dir := directionBy (s.car n) (odometerChange (s.car n) odo) }) ∧
    ((s.car n).p = none →
      (s.trackOdometer n odo).car n =
        { s.car n with
          lastOdometer := some odo, returned := false
          dir := directionBy (s.car n) (odometerChange (s.car n) odo) }) := by
  simp only [State.trackOdometer, car_modCar, if_true]
  generalize s.car n = v
  refine ⟨fun p hp hanchor => ?_, fun p off hp hoff hr => ?_, fun hp => ?_⟩
  · cases hoff : v.offset with
    | none => simp only [hp]
    | some off =>
      have hr : v.returned = true := hanchor.resolve_left (by rw [hoff]; exact nofun)
      simp only [hp, hr, if_true]
  · have hnot : ¬ v.returned = true := by rw [hr]; exact nofun
    simp only [hp, hoff, if_neg hnot]
    rfl
  · simp only [hp]
    rfl

/-- Settles O14: the tracker's order, then u, the ends of the corridor, the re-home distance, standstill, faults and counts. -/
theorem odometerCountsMoveThePosition : Obligations.OdometerCountsMoveThePosition := by
  refine ⟨?_, fun s n k u hk hu => ⟨refreshU_none, fun hp h => ?_, fun hp h hs => ?_, fun hp h hs => ?_⟩,
    fun s n => ⟨checkEnds_unplaced, fun p it end_ hp hit hend => ⟨fun h => ?_, fun h => ⟨fun e he hs => ?_, fun hs => ?_⟩⟩⟩,
    fun s n before => ⟨fun h1 h2 => if_pos ⟨h1, h2⟩, fun h => if_neg fun hb => ?_, setRehome_eq s n⟩,
    fun s n c k => ⟨?_, markStandstill_gate s n c k⟩, fun s n kind code => ⟨fun h => ?_, fun old h hk => ⟨fault_lower h hk, fault_higher h hk⟩⟩,
    fun s n odo => ⟨fun m hm => trackOdometer_car s n m hm odo, ?_, ?_, trackOdometer_self s n odo⟩⟩
  · rintro s n odo t rfl u rfl
    rfl
  · have hvalue := uValue_eq s n
    rw [← hk, ← hu] at hvalue
    rw [refreshU_within hp (by rw [hvalue]; exact h), hvalue]
    rfl
  · have hvalue := uValue_eq s n
    rw [← hk, ← hu] at hvalue
    exact (refreshU_above hp (by rw [hvalue]; exact h)).trans (if_pos hs)
  · have hvalue := uValue_eq s n
    rw [← hk, ← hu] at hvalue
    exact (refreshU_above hp (by rw [hvalue]; exact h)).trans (if_neg hs)
  · rw [checkEnds_eq hp hit, heldAtEnd_north h, hend]
    rfl
  · rw [checkEnds_eq hp hit, he, heldAtEnd_south h hs, hend]
    rfl
  · rw [checkEnds_eq hp hit, heldAtEnd_within h hs]
  · obtain ⟨h1, h2⟩ := hb
    omega
  · simp only [State.markStandstill]
    split <;> rfl
  · obtain ⟨hp, hoffset, hu⟩ := fault_position h kind code
    have hcar := fault_car h kind code
    exact ⟨congrArg Carriage.state hcar, congrArg Carriage.faultKind hcar, congrArg Carriage.faultCode hcar, hp, hoffset, hu⟩
  · have hreported := trackOdometer_reported s n odo
    exact congrArg (fun x => x.2.1) hreported
  · have hreported := trackOdometer_reported s n odo
    exact congrArg (fun x => x.2.2) hreported

end Sys2Proof.Machine
end

section
/-! PROOFS. The tag telegram at the recognizer (R140, R182) and the characters of the drive lines' telegrams (R180, R181). -/

namespace Sys2Proof.Machine

/-! ## The tag telegram -/

/-- Whatever was counted before them, three sync bytes and the byte behind them open the body (R140). -/
theorem recognize_sync (count : Nat) :
    [165, 165, 165, 90].foldl (fun r x => recognize r.1 x) ((Recognizer.hunt count, none) : Recognizer × Option Nat)
      = (.body [], none) := by
  have hcount : min 3 (min 3 (min 3 (count + 1) + 1) + 1) = 3 := by omega
  simp only [List.foldl_cons, List.foldl_nil, recognize, huntByte, if_true, hcount, reduceCtorEq, Nat.reduceEqDiff, and_self, if_false]

/-- The two bytes of a number, repeated as the recognizer expects them, hand it on where it is valid. -/
theorem recognize_body_pairs (h l : Nat) :
    [h, l, h, l, h, l, h, l].foldl (fun r x => recognize r.1 x) ((Recognizer.body [], none) : Recognizer × Option Nat)
      = (.hunt 0, if 1 ≤ 256 * h + l ∧ 256 * h + l ≤ 4000 then some (256 * h + l) else none) := by
  simp [recognize]

/-- Settles O8: the sync bytes end any hunt, the four pairs fill the body, and high and low byte are the number again. -/
theorem tagTelegramIsRecognised : Obligations.TagTelegramIsRecognised := by
  unfold Obligations.TagTelegramIsRecognised
  intro count b _
  have hnumber : 256 * (b / 256) + b % 256 = b := by omega
  have hbytes : tagBytes b
      = 165 :: 165 :: 165 :: 90 ::
        [b / 256, b % 256, b / 256, b % 256, b / 256, b % 256, b / 256, b % 256] := rfl
  calc (tagBytes b).foldl (fun r x => recognize r.1 x) (Recognizer.hunt count, none)
    _ = [b / 256, b % 256, b / 256, b % 256, b / 256, b % 256, b / 256, b % 256].foldl
          (fun r x => recognize r.1 x) ([165, 165, 165, 90].foldl (fun r x => recognize r.1 x) (Recognizer.hunt count, none)) := by
      rw [hbytes]; rfl
    _ = _ := by rw [recognize_sync, recognize_body_pairs, hnumber]

/-! ## Status answers -/

theorem byteSum_lt (l : List Nat) : byteSum l < 256 := Nat.mod_lt _ (by decide)

@[simp] theorem driveStateOf_code (d : DriveState) : driveStateOf (DriveState.code d) = some d := by cases d <;> rfl

theorem DriveState.code_lt (d : DriveState) : DriveState.code d < 256 := by cases d <;> decide

@[simp] theorem loadOf_bit (b : Bool) : loadOf (if b then 1 else 0) = some b := by cases b <;> rfl

/-- Four bytes of a count, high byte first, give the count again. -/
theorem ofNat_bytes4 (v : BitVec 32) :
    BitVec.ofNat 32 (16777216 * (v.toNat / 16777216) + 65536 * (v.toNat / 65536 % 256) + 256 * (v.toNat / 256 % 256) + v.toNat % 256)
      = v := by
  apply BitVec.eq_of_toNat_eq
  have := v.isLt
  rw [BitVec.toNat_ofNat]
  omega

/-- Every character of an answer whose fields have their form is one the wire carries. -/
theorem answerChars_lt (a : StatusAnswer) (h : a.form = true) : ∀ x ∈ answerChars a, x < 256 := by
  simp only [StatusAnswer.form, Bool.and_eq_true, decide_eq_true_eq, List.all_eq_true] at h
  obtain ⟨⟨⟨⟨haddress, hspeed⟩, hfault⟩, hlength⟩, hbytes⟩ := h
  have hstate := DriveState.code_lt a.state
  have hload : (if a.loaded then 1 else 0) < 256 := by split <;> decide
  have hcount := a.odometer.isLt
  have hsum := byteSum_lt (answerBody a)
  intro x hx
  rw [answerChars, List.mem_append, List.mem_singleton] at hx
  rcases hx with hx | rfl
  · simp only [answerBody, bytes4, bytes2, List.mem_append, List.mem_cons, List.not_mem_nil, or_false] at hx
    by_cases hmem : x ∈ a.bytes
    · exact hbytes x hmem
    · simp only [hmem, or_false] at hx
      generalize (if a.loaded then 1 else 0) = load at hx hload
      omega
  · exact hsum

/-- The length byte and the check byte of an answer agree with what stands before them. -/
theorem readAnswer_answerChars (a : StatusAnswer) (h : a.form = true) : readAnswer (answerChars a) = some a := by
  have hwire := answerChars_lt a h
  simp only [StatusAnswer.form, Bool.and_eq_true, decide_eq_true_eq] at h
  obtain ⟨⟨_, hlength⟩, _⟩ := h
  have hbody : (answerChars a).take (11 + a.bytes.length) = answerBody a := by
    have hlen : (answerBody a).length = 11 + a.bytes.length := by simp [answerBody, bytes4, bytes2]; omega
    rw [answerChars, ← hlen, List.take_left]
  have hspeed : 256 * (a.speed / 256) + a.speed % 256 = a.speed := by omega
  have hall : (answerChars a).all (fun b => decide (b < 256)) = true := by simpa using hwire
  have hshape : answerChars a
      = a.address :: DriveState.code a.state :: (if a.loaded then 1 else 0) :: a.odometer.toNat / 16777216 :: a.odometer.toNat / 65536 % 256
        :: a.odometer.toNat / 256 % 256 :: a.odometer.toNat % 256 :: a.speed / 256 :: a.speed % 256 :: a.faultCode
        :: a.bytes.length :: (a.bytes ++ [byteSum (answerBody a)]) := by
    simp [answerChars, answerBody, bytes4, bytes2]
  rw [hshape] at hbody hall ⊢
  simp only [readAnswer, driveStateOf_code, loadOf_bit, hbody, hall, ofNat_bytes4, hspeed]
  simp [hlength]

/-! ## Command telegrams -/

/-- Settles O7. -/
theorem statusAnswersSpellThemselves : Obligations.StatusAnswersSpellThemselves := by
  unfold Obligations.StatusAnswersSpellThemselves
  refine ⟨readAnswer_answerChars, ?_, by decide⟩
  intro t mode side t3 t2 t1 t0 c1 c0 hmode hside h3 h2 h1 h0 hc1 hc0
  have hm : t.mode.code = mode := by rw [hmode]; cases t.mode <;> rfl
  have hs : sideCode t.side = side := by
    rw [hside]
    cases t.side with
    | none => rfl
    | some side => cases side <;> rfl
  have hchars : t.chars = [256 + t.address, mode, t3, t2, t1, t0, c1, c0, side,
      (t.address + mode + t3 + t2 + t1 + t0 + c1 + c0 + side) % 256] := by
    simp [Telegram.chars, bytes4, bytes2, byteSum, hm, hs, ← h3, ← h2, ← h1, ← h0, ← hc1, ← hc0]
  refine ⟨hchars, fun hcap x hx => ?_⟩
  have hcount := t.target.isLt
  have hmode' : mode < 256 := by rw [hmode]; cases t.mode <;> decide
  have hside' : side < 256 := by
    rw [hside]
    cases t.side with
    | none => decide
    | some side => cases side <;> decide
  rw [hchars] at hx
  simp only [List.drop_succ_cons, List.drop_zero, List.mem_cons, List.not_mem_nil, or_false] at hx
  omega

end Sys2Proof.Machine
end

section
/-! PROOFS. The set-point and its telegram (R124, R125), the authority end and the distances (R119, R120). -/

namespace Sys2Proof.Machine
namespace State

/-! ## The set-point mode -/

theorem holdsIntrusion_iff (s : State) (n : CarriageName) :
    s.holdsIntrusion n = true ↔ ∃ k ∈ s.heldRun n, ∃ g, (s.seg n.corridor k).fence = some (.auto (.intrusion g)) := by
  rw [holdsIntrusion, List.any_eq_true]
  refine exists_congr fun k => and_congr_right fun _ => ⟨fun h => ?_, fun ⟨g, h⟩ => by rw [h]⟩
  split at h
  next g hg => exact ⟨g, hg⟩
  next => cases h

theorem travelling_iff (s : State) (n : CarriageName) :
    s.travelling n = true ↔ (s.car n).state = .running ∨ (s.car n).state = .homing := by
  simp only [travelling, Bool.or_eq_true, decide_eq_true_eq]

/-- The rows of the table below the three that brake, for a carriage in each state (R124). -/
theorem setMode_unbraked {s : State} {n : CarriageName} (hloop : s.loopOpen n.corridor ≠ true)
    (hover : ¬ (s.travelling n = true ∧ s.availableDistance n < -((s.timing n.corridor).margin : Int)))
    (hintr : ¬ (s.travelling n = true ∧ s.holdsIntrusion n = true)) :
    s.setMode n =
      (match (s.car n).state, (s.car n).transfer with
       | .transferring, some tr => (match tr.kind with | .pull => .pull | .push => .push)
       | _, _ =>
         match s.travelling n, (s.car n).leg with
         | true, some leg =>
           if s.speedCap n = 0 then .hold
           else if (s.car n).state = .homing then (match leg.dir with | .south => .crawlSouth | .north => .crawlNorth)
           else if (s.car n).offset.isNone then .hold
           else .run
         | _, _ => .hold) :=
  (if_neg hloop).trans ((if_neg hover).trans (if_neg hintr))

/-- A carriage that travels more than the margin past its authority end brakes (R124 row 2). -/
theorem setMode_past_end {s : State} {n : CarriageName} (hloop : s.loopOpen n.corridor ≠ true)
    (h : (s.car n).state = .running ∨ (s.car n).state = .homing)
    (hover : s.availableDistance n < -((s.timing n.corridor).margin : Int)) : s.setMode n = .brake :=
  (if_neg hloop).trans (if_pos ⟨(travelling_iff s n).2 h, hover⟩)

/-- A carriage that travels with an intruded segment in its run brakes (R124 row 3). -/
theorem setMode_intrusion {s : State} {n : CarriageName} (hloop : s.loopOpen n.corridor ≠ true)
    (h : (s.car n).state = .running ∨ (s.car n).state = .homing) (hintr : s.holdsIntrusion n = true) : s.setMode n = .brake := by
  have htravel := (travelling_iff s n).2 h
  by_cases hover : s.availableDistance n < -((s.timing n.corridor).margin : Int)
  · exact setMode_past_end hloop h hover
  · exact (if_neg hloop).trans ((if_neg fun hc => hover hc.2).trans (if_pos ⟨htravel, hintr⟩))

theorem setMode_transferring {s : State} {n : CarriageName} (hloop : s.loopOpen n.corridor ≠ true)
    (h : (s.car n).state = .transferring) :
    s.setMode n = (match (s.car n).transfer with
      | some tr => (match tr.kind with | .pull => .pull | .push => .push)
      | none => .hold) := by
  have htravel : s.travelling n = false := by simp [travelling, h]
  rw [setMode_unbraked hloop (by simp [htravel]) (by simp [htravel]), h, htravel]
  cases (s.car n).transfer <;> rfl

/-- A carriage that neither travels nor transfers is told to hold. -/
theorem setMode_resting {s : State} {n : CarriageName} (hloop : s.loopOpen n.corridor ≠ true)
    (h : (s.car n).state ≠ .transferring) (hr : (s.car n).state ≠ .running) (hh : (s.car n).state ≠ .homing) :
    s.setMode n = .hold := by
  have htravel : s.travelling n = false := by simp [travelling, hr, hh]
  rw [setMode_unbraked hloop (by simp [htravel]) (by simp [htravel])]
  split
  next hs _ => exact absurd hs h
  next => rw [htravel]

theorem setMode_travelling {s : State} {n : CarriageName} (hloop : s.loopOpen n.corridor ≠ true)
    (hover : ¬ s.availableDistance n < -((s.timing n.corridor).margin : Int)) (hintr : ¬ s.holdsIntrusion n = true)
    (h : (s.car n).state = .running ∨ (s.car n).state = .homing) :
    s.setMode n = (match (s.car n).leg with
      | none => .hold
      | some leg =>
        if s.speedCap n = 0 then .hold
        else if (s.car n).state = .running ∧ (s.car n).offset = none then .hold
        else if (s.car n).state = .homing then (match leg.dir with | .south => .crawlSouth | .north => .crawlNorth)
        else .run) := by
  have htravel : s.travelling n = true := (travelling_iff s n).2 h
  rw [setMode_unbraked hloop (fun hc => hover hc.2) (fun hc => hintr hc.2), htravel]
  rcases h with h | h <;> rw [h]
  · cases (s.car n).leg <;> simp
  · cases (s.car n).leg <;> simp

/-! ## What travels with the mode -/

/-- Where the mode is RUN or a CRAWL, the table has tested the cap before. -/
theorem speedCap_pos_of_carriesCap {s : State} {n : CarriageName}
    (h : s.setMode n = .run ∨ s.setMode n = .crawlNorth ∨ s.setMode n = .crawlSouth) : 0 < s.speedCap n := by
  refine Classical.byContradiction fun hcap => ?_
  have hzero : s.speedCap n = 0 := by omega
  simp only [setMode, hzero, if_true] at h
  grind

theorem setTarget_getD (s : State) (n : CarriageName) :
    (s.setTarget n).getD 0 =
      (if s.setMode n = .run then
        (match (s.car n).leg, (s.car n).offset with
         | some leg, some off => BitVec.ofInt 32 (leg.target - off)
         | _, _ => 0)
      else 0) := by
  unfold setTarget
  cases s.setMode n <;> cases (s.car n).leg <;> cases (s.car n).offset <;> rfl

theorem setSide_eq (s : State) (n : CarriageName) :
    s.setSide n = (if s.setMode n = .pull ∨ s.setMode n = .push then (s.car n).transfer.map (·.side) else none) := by
  unfold setSide
  cases s.setMode n <;> rfl

theorem carriesCap_iff (m : SetMode) : m.carriesCap = true ↔ m = .run ∨ m = .crawlNorth ∨ m = .crawlSouth := by
  cases m <;> decide

/-! ## The authority end and the distances -/

section
variable {s : State} {n : CarriageName} {it : CarriageItem} {p : Int} {leg : Leg}

theorem footprint_of_placed (hit : s.item n = some it) (hp : (s.car n).p = some p) : s.footprint n = some (p, p + it.length) := by
  rw [footprint, hit, hp]

theorem uncertain_of_placed (hit : s.item n = some it) (hp : (s.car n).p = some p) :
    s.uncertain n = some (p - (s.car n).u, p + it.length + (s.car n).u) := by
  rw [uncertain, hit, hp]

theorem authorityEnd_of_placed (hit : s.item n = some it) (hp : (s.car n).p = some p) (hleg : (s.car n).leg = some leg) :
    s.authorityEnd n = (s.runEndOf n leg.dir).map fun e =>
      nearerEnd leg.dir e (s.fenceEndOf n leg.dir (frontOf (p, p + it.length) leg.dir)) := by
  simp only [authorityEnd, hleg, footprint_of_placed hit hp]

theorem availableDistance_of_end (hit : s.item n = some it) (hp : (s.car n).p = some p) (hleg : (s.car n).leg = some leg)
    {a : Int} {k : EndKind} (hend : s.authorityEnd n = some (a, k)) :
    s.availableDistance n = match leg.dir with
      | .south => a - (p + it.length + (s.car n).u) - (s.timing n.corridor).margin
      | .north => (p - (s.car n).u) - a - (s.timing n.corridor).margin := by
  cases hdir : leg.dir <;> simp only [availableDistance, hend, hleg, uncertain_of_placed hit hp, hdir]

theorem availableDistance_of_no_end (hend : s.authorityEnd n = none) : s.availableDistance n = 0 := by
  rw [availableDistance, hend]

theorem authorityEnd_of_no_run (hrun : s.heldRun n = []) : s.authorityEnd n = none := by
  have hend : ∀ dir, s.runEndOf n dir = none := fun dir => by cases dir <;> simp [runEndOf, hrun]
  rw [authorityEnd]
  split
  next => rw [hend]; rfl
  next => rfl

theorem authorityEnd_of_unplaced (h : (s.car n).leg = none ∨ (s.car n).p = none) : s.authorityEnd n = none := by
  rw [authorityEnd]
  split
  next leg r hleg hr =>
    rcases h with h | h
    · rw [h] at hleg; cases hleg
    · rw [footprint, h] at hr; split at hr <;> grind
  next => rfl

theorem targetDistance_of_unplaced (h : (s.car n).leg = none ∨ (s.car n).p = none) : s.targetDistance n = none := by
  rw [targetDistance]
  rcases h with h | h
  · rw [h]
  · rw [h]; cases (s.car n).leg <;> rfl

theorem targetDistance_of_placed (hp : (s.car n).p = some p) (hleg : (s.car n).leg = some leg) :
    s.targetDistance n = some (match leg.dir with | .south => leg.target - p | .north => p - leg.target) := by
  cases hdir : leg.dir <;> simp only [targetDistance, hleg, hp, hdir]

/-- Beyond a front: south of it the span's lower boundary, north of it the upper one. -/
theorem whollyBeyond_eq (s : State) (c : Corridor) (dir : Dir) (front : Int) (k : Nat) :
    s.whollyBeyond c dir front k = (s.layout.segSpan c k).any fun r =>
      match dir with | .south => decide (front < r.1) | .north => decide (r.2 < front) := by
  unfold whollyBeyond
  cases s.layout.segSpan c k with
  | none => rfl
  | some r => cases dir <;> rfl

theorem authorityEnd_south (hit : s.item n = some it) (hp : (s.car n).p = some p) (hleg : (s.car n).leg = some leg)
    (hdir : leg.dir = .south) {j x y : Nat} (hj : (s.heldRun n).getLast? = some j)
    (hb : s.layout.bounds n.corridor j = some (x, y)) {fenced : List Nat}
    (hf : fenced = (s.segsInUse n.corridor).filter (fun k => (s.seg n.corridor k).fence.isSome &&
      (s.layout.segSpan n.corridor k).any fun r => decide (p + it.length < r.1))) :
    s.authorityEnd n = (match fenced.head?.bind (s.layout.bounds n.corridor) with
      | some b => if (b.1 : Int) < y then some ((b.1 : Int), .fenceEnd) else some ((y : Int), .runEnd)
      | none => some ((y : Int), .runEnd)) := by
  have hrun : s.runEndOf n .south = some (y : Int) := by simp [runEndOf, hj, hb]
  have hfence : s.fenceEndOf n .south (p + it.length)
      = (fenced.head?.bind (s.layout.bounds n.corridor)).map fun b => (b.1 : Int) := by
    simp only [fenceEndOf, whollyBeyond_eq, hf]
  have hfront : frontOf (p, p + (it.length : Int)) .south = p + it.length := rfl
  rw [authorityEnd_of_placed hit hp hleg, hdir, hrun, hfront, hfence]
  cases fenced.head?.bind (s.layout.bounds n.corridor) with
  | none => rfl
  | some b => simp only [Option.map_some, nearerEnd]; split <;> rfl

theorem authorityEnd_north (hit : s.item n = some it) (hp : (s.car n).p = some p) (hleg : (s.car n).leg = some leg)
    (hdir : leg.dir = .north) {j x y : Nat} (hj : (s.heldRun n).head? = some j)
    (hb : s.layout.bounds n.corridor j = some (x, y)) {fenced : List Nat}
    (hf : fenced = (s.segsInUse n.corridor).filter (fun k => (s.seg n.corridor k).fence.isSome &&
      (s.layout.segSpan n.corridor k).any fun r => decide (r.2 < p))) :
    s.authorityEnd n = (match fenced.getLast?.bind (s.layout.bounds n.corridor) with
      | some b => if (x : Int) < b.2 then some ((b.2 : Int), .fenceEnd) else some ((x : Int), .runEnd)
      | none => some ((x : Int), .runEnd)) := by
  have hrun : s.runEndOf n .north = some (x : Int) := by simp [runEndOf, hj, hb]
  have hfence : s.fenceEndOf n .north p
      = (fenced.getLast?.bind (s.layout.bounds n.corridor)).map fun b => (b.2 : Int) := by
    simp only [fenceEndOf, whollyBeyond_eq, hf]
  have hfront : frontOf (p, p + (it.length : Int)) .north = p := rfl
  rw [authorityEnd_of_placed hit hp hleg, hdir, hrun, hfront, hfence]
  cases fenced.getLast?.bind (s.layout.bounds n.corridor) with
  | none => rfl
  | some b => simp only [Option.map_some, nearerEnd]; split <;> rfl

end

end State

open State in
/-- Settles O12, row by row of the table and, for the authority end, by direction. -/
theorem setPointFollowsTheTable : Obligations.SetPointFollowsTheTable := by
  unfold Obligations.SetPointFollowsTheTable
  refine ⟨fun s n => ⟨holdsIntrusion_iff s n, ?_⟩, fun s n address => ?_, fun s n it p leg hit hp hleg => ?_, fun s n h => ?_⟩
  · by_cases hloop : s.loopOpen n.corridor = true
    · rw [if_pos hloop]
      exact if_pos hloop
    rw [if_neg hloop]
    by_cases htravel : (s.car n).state = .running ∨ (s.car n).state = .homing
    · have htrans : (s.car n).state ≠ .transferring := by rcases htravel with h | h <;> rw [h] <;> decide
      have hmoves : ¬ ((s.car n).state ≠ .running ∧ (s.car n).state ≠ .homing) := fun h => htravel.elim h.1 h.2
      by_cases hover : s.availableDistance n < -((s.timing n.corridor).margin : Int)
      · rw [if_pos ⟨htravel, hover⟩]
        exact setMode_past_end hloop htravel hover
      rw [if_neg fun h => hover h.2]
      by_cases hintr : s.holdsIntrusion n = true
      · rw [if_pos ⟨htravel, hintr⟩]
        exact setMode_intrusion hloop htravel hintr
      rw [if_neg fun h => hintr h.2, if_neg htrans, if_neg hmoves]
      exact setMode_travelling hloop hover hintr htravel
    · rw [if_neg fun h => htravel h.1, if_neg fun h => htravel h.1, if_pos (not_or.1 htravel)]
      by_cases htrans : (s.car n).state = .transferring
      · rw [if_pos htrans]
        exact setMode_transferring hloop htrans
      · rw [if_neg htrans]
        exact setMode_resting hloop htrans (not_or.1 htravel).1 (not_or.1 htravel).2
  · have hcap : (s.telegramTo n address).cap =
        (if s.setMode n = .run ∨ s.setMode n = .crawlNorth ∨ s.setMode n = .crawlSouth then s.speedCap n else 0) :=
      ite_congr (propext (carriesCap_iff _)) (fun _ => rfl) fun _ => rfl
    refine ⟨rfl, rfl, setTarget_getD s n, hcap, fun h => ?_, setSide_eq s n⟩
    rw [hcap, if_pos h]
    exact speedCap_pos_of_carriesCap h
  · refine ⟨authorityEnd_of_no_run, availableDistance_of_no_end, fun hdir => ⟨?_, fun a k hend => ?_, ?_⟩,
      fun hdir => ⟨?_, fun a k hend => ?_, ?_⟩⟩
    · rw [targetDistance_of_placed hp hleg, hdir]
    · rw [availableDistance_of_end hit hp hleg hend, hdir]
    · exact fun j x y fenced hj hb hf => authorityEnd_south hit hp hleg hdir hj hb hf
    · rw [targetDistance_of_placed hp hleg, hdir]
    · rw [availableDistance_of_end hit hp hleg hend, hdir]
    · exact fun j x y fenced hj hb hf => authorityEnd_north hit hp hleg hdir hj hb hf
  · exact ⟨authorityEnd_of_unplaced h, targetDistance_of_unplaced h, availableDistance_of_no_end (authorityEnd_of_unplaced h)⟩

end Sys2Proof.Machine
end

section
/-! PROOFS. The lines of the planning links: their close and sum, what each character does to them, and the fields between their
spaces (R174, R179). -/

namespace Sys2Proof.Machine

/-! ## The close of a line -/

theorem hexDigit_getElem? (k : Nat) (h : k < 16) : "0123456789ABCDEF".toList[k]? = some (hexDigit k) := by
  have hall : ∀ i : Fin 16, "0123456789ABCDEF".toList[i.val]? = some (hexDigit i.val) := by decide
  exact hall ⟨k, h⟩

theorem isHex_hexDigit (k : Nat) (h : k < 16) : isHex (hexDigit k) = true := by
  have hall : ∀ i : Fin 16, isHex (hexDigit i.val) = true := by decide
  exact hall ⟨k, h⟩

theorem hexDigit_inside (k : Nat) (h : k < 16) : hexDigit k ≠ '>' ∧ hexDigit k ≠ '\n' := by
  have hall : ∀ i : Fin 16, hexDigit i.val ≠ '>' ∧ hexDigit i.val ≠ '\n' := by decide
  exact hall ⟨k, h⟩

theorem lineSum_eq (l : List Char) : lineSum l = (l.map Char.toNat).sum % 256 := by
  rw [lineSum, List.sum_eq_foldl]

theorem lineSum_digits (l : List Char) : lineSum l / 16 < 16 ∧ lineSum l % 16 < 16 := by
  have : lineSum l < 256 := Nat.mod_lt _ (by decide)
  omega

theorem closeLine_eq (l : List Char) :
    closeLine l = l ++ ['#', hexDigit (lineSum l / 16), hexDigit (lineSum l % 16), '\r', '\n'] := by
  simp [closeLine, hexPair]

@[simp] theorem lineContent_closeLine (body : List Char) : lineContent (closeLine body) = some body := by
  obtain ⟨hhigh, hlow⟩ := lineSum_digits body
  have hreverse : (closeLine body).reverse
      = '\n' :: '\r' :: hexDigit (lineSum body % 16) :: hexDigit (lineSum body / 16) :: '#' :: body.reverse := by
    simp [closeLine_eq]
  simp [lineContent, hreverse, isHex_hexDigit _ hhigh, isHex_hexDigit _ hlow, hexPair]

theorem closeLine_of_lineContent {l body : List Char} (h : lineContent l = some body) : l = closeLine body := by
  unfold lineContent at h
  split at h
  next b a rest hreverse =>
    split at h
    next hsum =>
      simp only [Bool.and_eq_true, decide_eq_true_eq] at hsum
      have hbody : rest.reverse = body := by simpa using h
      have hl : l = rest.reverse ++ '#' :: [a, b] ++ ['\r', '\n'] := by
        rw [← List.reverse_reverse l, hreverse]; simp
      rw [hl, hsum.2, hbody, closeLine]
    next => cases h
  next => cases h

theorem lineContent_eq_some (l body : List Char) : lineContent l = some body ↔ l = closeLine body :=
  ⟨closeLine_of_lineContent, fun h => h ▸ lineContent_closeLine body⟩

theorem lineContent_isSome (l : List Char) : (lineContent l).isSome = true ↔ ∃ body, l = closeLine body := by
  rw [Option.isSome_iff_exists]
  exact exists_congr (lineContent_eq_some l)

theorem goodLine_iff (l : List Char) : goodLine l = true ↔ l.length ≤ 160 ∧ ∃ b, l = closeLine b := by
  rw [goodLine, Bool.and_eq_true, decide_eq_true_eq, lineContent_isSome]

/-! ## One character -/

theorem takeChar_idle (c : Char) : takeChar none c = (if c = '>' then some ['>'] else none, .nothing) := by
  by_cases hc : c = '>'
  · subst hc
    rfl
  · simp only [takeChar, if_neg hc]

section
variable (line : List Char) {c : Char}

theorem takeChar_start : takeChar (some line) '>' = (some ['>'], .bad .newStart) := rfl

theorem takeChar_tooLong (hc : c ≠ '>') (h : 160 < (line ++ [c]).length) : takeChar (some line) c = (none, .bad .tooLong) := by
  simp only [takeChar, if_neg hc, if_pos h, ite_self]

theorem takeChar_inside (hc : c ≠ '>') (h : (line ++ [c]).length ≤ 160) (hend : ¬ (c = '\n' ∧ line.getLast? = some '\r')) :
    takeChar (some line) c = (some (line ++ [c]), .nothing) := by
  simp only [takeChar, if_neg hc, if_neg hend, if_neg (Nat.not_lt.2 h)]

theorem takeChar_end (hlast : line.getLast? = some '\r') (h : (line ++ ['\n']).length ≤ 160) :
    takeChar (some line) '\n' =
      if (lineContent (line ++ ['\n'])).isSome then (none, .complete (line ++ ['\n'])) else (none, .bad .badSum) := by
  have hc : ('\n' : Char) ≠ '>' := by decide
  simp only [takeChar, if_neg hc, hlast, and_self, if_true, if_neg (Nat.not_lt.2 h)]

end

/-- Characters inside a line are kept one behind another. -/
theorem foldl_takeChar_inside (line l : List Char) (hstart : '>' ∉ l) (hend : '\n' ∉ l) (h : (line ++ l).length ≤ 160) :
    l.foldl (fun r c => takeChar r.1 c) (some line, CharEffect.nothing) = (some (line ++ l), .nothing) := by
  induction l generalizing line with
  | nil => rw [List.append_nil]; rfl
  | cons c rest ih =>
    have hc : c ≠ '>' := fun hc => hstart (hc ▸ List.mem_cons_self)
    have hn : c ≠ '\n' := fun hc => hend (hc ▸ List.mem_cons_self)
    have hshort : (line ++ [c]).length ≤ 160 := by simp at h ⊢; omega
    rw [List.foldl_cons, takeChar_inside line hc hshort fun he => hn he.1,
      ih (line ++ [c]) (fun hm => hstart (List.mem_cons_of_mem _ hm)) (fun hm => hend (List.mem_cons_of_mem _ hm)) (by simpa using h)]
    simp

/-- A line that is closed, with no ">" and no line feed inside, is complete at its last character. -/
theorem foldl_takeChar_closeLine (body : List Char) (hstart : '>' ∉ body) (hend : '\n' ∉ body)
    (h : (closeLine ('>' :: body)).length ≤ 160) :
    (closeLine ('>' :: body)).foldl (fun r c => takeChar r.1 c) (none, CharEffect.nothing)
      = (none, .complete (closeLine ('>' :: body))) := by
  obtain ⟨hhigh, hlow⟩ := lineSum_digits ('>' :: body)
  have ha := hexDigit_inside _ hhigh
  have hb := hexDigit_inside _ hlow
  obtain ⟨a, hadef⟩ : ∃ a, a = hexDigit (lineSum ('>' :: body) / 16) := ⟨_, rfl⟩
  obtain ⟨b, hbdef⟩ : ∃ b, b = hexDigit (lineSum ('>' :: body) % 16) := ⟨_, rfl⟩
  rw [← hadef] at ha
  rw [← hbdef] at hb
  have hshape : closeLine ('>' :: body) = '>' :: ((body ++ ['#', a, b, '\r']) ++ ['\n']) := by
    simp [closeLine_eq, hadef, hbdef]
  have hlast : ('>' :: (body ++ ['#', a, b, '\r'])).getLast? = some '\r' := by
    rw [← List.cons_append, List.getLast?_append]
    rfl
  have hinside := foldl_takeChar_inside ['>'] (body ++ ['#', a, b, '\r'])
    (by simp [hstart, ha.1.symm, hb.1.symm]) (by simp [hend, ha.2.symm, hb.2.symm])
    (by rw [hshape] at h; simp at h ⊢; omega)
  have hcomplete := takeChar_end ('>' :: (body ++ ['#', a, b, '\r'])) hlast (by rw [hshape] at h; simpa using h)
  rw [if_pos ((lineContent_isSome _).2 ⟨'>' :: body, hshape.symm⟩ : (lineContent ('>' :: (body ++ ['#', a, b, '\r']) ++ ['\n'])).isSome = true)] at hcomplete
  rw [hshape, List.foldl_cons, takeChar_idle, if_pos rfl, List.foldl_append, hinside]
  exact hcomplete

/-! ## Fields between single separators -/

theorem splitOn_ne_nil (sep : Char) (l : List Char) : splitOn sep l ≠ [] := by
  cases l with
  | nil => exact List.cons_ne_nil _ _
  | cons c rest =>
    unfold splitOn
    split
    · exact List.cons_ne_nil _ _
    · split <;> exact List.cons_ne_nil _ _

theorem splitOn_sep (sep : Char) (rest : List Char) : splitOn sep (sep :: rest) = [] :: splitOn sep rest := by
  cases h : splitOn sep rest with
  | nil => exact absurd h (splitOn_ne_nil sep rest)
  | cons t more => simp [splitOn, h]

theorem splitOn_cons {sep c : Char} (hc : c ≠ sep) {rest t : List Char} {more : List (List Char)} (h : splitOn sep rest = t :: more) :
    splitOn sep (c :: rest) = (c :: t) :: more := by
  simp [splitOn, h, hc]

theorem splitOn_of_notMem (sep : Char) (t : List Char) (h : sep ∉ t) : splitOn sep t = [t] := by
  induction t with
  | nil => rfl
  | cons c rest ih =>
    rw [List.mem_cons, not_or] at h
    exact splitOn_cons (fun hc => h.1 hc.symm) (ih h.2)

theorem splitOn_append_sep (sep : Char) (t rest : List Char) (h : sep ∉ t) :
    splitOn sep (t ++ sep :: rest) = t :: splitOn sep rest := by
  induction t with
  | nil => exact splitOn_sep sep rest
  | cons c t ih =>
    rw [List.mem_cons, not_or] at h
    exact splitOn_cons (fun hc => h.1 hc.symm) (ih h.2)

/-- Fields that hold no separator are read apart again. -/
theorem splitOn_joined (sep : Char) (fields : List (List Char)) (hne : fields ≠ []) (h : ∀ t ∈ fields, sep ∉ t) :
    splitOn sep (joined sep fields) = fields := by
  induction fields with
  | nil => exact absurd rfl hne
  | cons t rest ih =>
    have ht : sep ∉ t := h t List.mem_cons_self
    cases rest with
    | nil => exact splitOn_of_notMem sep t ht
    | cons u rest =>
      rw [joined, splitOn_append_sep sep t _ ht, ih (List.cons_ne_nil _ _) fun x hx => h x (List.mem_cons_of_mem _ hx)]

/-! ## The texts of fields -/

theorem setText_eq (l : List (List Char)) : setText l = if l = [] then "NONE".toList else joined ',' l := by
  cases l <;> rfl

theorem Field.text_words (l : List String) :
    (Field.words l).text = if l = [] then "NONE".toList else joined ',' (l.map String.toList) := by
  cases l <;> rfl

theorem Field.text_nums (l : List Nat) :
    (Field.nums l).text = if l = [] then "NONE".toList else joined ',' (l.map (Nat.toDigits 10)) := by
  cases l <;> rfl

theorem Field.text_num_nat (n : Nat) : (Field.num n).text = Nat.toDigits 10 n := by
  have hn : ¬ (n : Int) < 0 := by omega
  simp [Field.text, digits]

theorem Field.text_num_neg (n : Nat) : (Field.num (-(n + 1 : Nat))).text = '-' :: Nat.toDigits 10 (n + 1) := by
  have hn : (-((n + 1 : Nat) : Int)) < 0 := by omega
  rw [Field.text, if_pos hn, Int.natAbs_neg, Int.natAbs_natCast, digits]

theorem AnswerLine.text_eq (a : AnswerLine) :
    a.text = closeLine ('<' :: joined ' '
      ((match a.word with | .other words => words | w => w.words.map String.toList)
        ++ a.status.word.toList :: a.fields.map Field.text
        ++ if a.overrun = true then ["OVERRUN".toList] else [])) := by
  have hwords : a.word.text = (match a.word with | .other words => words | w => w.words.map String.toList) := by
    cases a.word <;> rfl
  rw [AnswerLine.text, hwords, List.append_assoc _ [_], List.singleton_append]

/-! ## Answers and bad lines at a port -/

namespace State

theorem replied_eq (s : State) (l : LinkId) (w : ReqWord) (r : Reply) :
    s.replied l w r =
      { s with
        links := s.links.set l
          { s.link l with
            assembling := none, outstanding := some w, noticesFollow := false
            answer := some ⟨w, r.status, r.fields, (s.link l).overrun, r.notices⟩ } } := by
  cases l <;> rfl

theorem badLineOn_eq (s : State) (l : LinkId) (cause : BadLineCause) :
    s.badLineOn l cause =
      { s with
        links := s.links.set l
          { s.link l with
            badLines := min 65535 ((s.link l).badLines + 1), assembling := if cause = .newStart then some ['>'] else none } } := by
  cases cause <;> rfl

theorem answerIsSent_idle {s : State} {l : LinkId} (h : (s.link l).answer = none ∨ (s.link l).outstanding = none) :
    s.answerIsSent l = s := by
  unfold answerIsSent
  cases ha : (s.link l).answer with
  | none => rfl
  | some a =>
    have ho : (s.link l).outstanding = none := h.resolve_left (by rw [ha]; exact Option.some_ne_none a)
    simp [ho]

/-- The end of an answer line clears the mark it carried, and the request where no notice lines follow (R175, log 6). -/
theorem answerIsSent_answer {s : State} {l : LinkId} {a : AnswerLine} (ha : (s.link l).answer = some a)
    (ho : (s.link l).outstanding ≠ none) (hn : (s.link l).noticesFollow = false) :
    s.answerIsSent l = { s with
      links := s.links.set l
        { s.link l with
          outstanding := if a.notices.isEmpty then none else (s.link l).outstanding
          overrun := (s.link l).overrun && !a.overrun
          noticesFollow := !a.notices.isEmpty } } := by
  have ho' := Option.isSome_iff_ne_none.2 ho
  have hlink : s.links.get l = s.link l := rfl
  simp only [answerIsSent, ha, ho', if_true, modLink, hlink, hn]
  rfl

theorem answerIsSent_notices {s : State} {l : LinkId} {a : AnswerLine} (ha : (s.link l).answer = some a)
    (ho : (s.link l).outstanding ≠ none) (hn : (s.link l).noticesFollow = true) :
    s.answerIsSent l = { s with links := s.links.set l { s.link l with outstanding := none, noticesFollow := false } } := by
  have ho' := Option.isSome_iff_ne_none.2 ho
  have hlink : s.links.get l = s.link l := rfl
  simp only [answerIsSent, ha, ho', if_true, modLink, hlink, hn]

end State

theorem exec_badLine {s : State} (l : LinkId) (cause : BadLineCause) (hp : s.powered = true) :
    exec (.badLine l cause) s = .next (s.badLineOn l cause) :=
  congrArg Host.Outcome.next (if_pos hp)

theorem exec_answerSent {s : State} (l : LinkId) (hp : s.powered = true) :
    exec (.answerSent l) s = .next (s.answerIsSent l) :=
  congrArg Host.Outcome.next (if_pos hp)

/-- Settles O9. -/
theorem answersAndBadLinesAtAPort : Obligations.AnswersAndBadLinesAtAPort := by
  unfold Obligations.AnswersAndBadLinesAtAPort
  refine ⟨State.replied_eq, fun s l hp => ⟨fun cause => ?_, fun a ha ho => ⟨fun hn hempty => ?_, fun hn hmore => ?_, fun hn => ?_⟩,
      fun h => ?_⟩,
    takeChar_idle, fun line m c hm => ⟨fun hc => ?_, fun hc hlong => ?_, fun hc hshort hend => ?_, fun hc hlast hshort => ⟨fun hb => ?_, fun hb => ?_⟩⟩,
    fun body l => ⟨lineContent_eq_some l body, goodLine_iff l⟩, fun body => ?_, foldl_takeChar_closeLine,
    splitOn_joined ' ', fun a => ?_, fun m => ?_, fun n => ⟨Field.text_num_nat n, Field.text_num_neg n⟩, fun _ => rfl,
    Field.text_words, Field.text_nums⟩
  · rw [exec_badLine l cause hp, State.badLineOn_eq]
  · rw [exec_answerSent l hp, State.answerIsSent_answer ha ho hn, hempty]
    simp only [List.isEmpty_nil, if_true, Bool.not_true, ← hn]
  · have hne : a.notices.isEmpty = false := by simpa using hmore
    rw [exec_answerSent l hp, State.answerIsSent_answer ha ho hn, hne]
    simp only [Bool.false_eq_true, if_false, Bool.not_false]
  · rw [exec_answerSent l hp, State.answerIsSent_notices ha ho hn]
  · rw [exec_answerSent l hp, State.answerIsSent_idle h]
  · rw [hc, takeChar_start]
  · exact takeChar_tooLong line hc (hm ▸ hlong)
  · rw [hm, takeChar_inside line hc (hm ▸ hshort) hend]
  · subst hc; subst hm
    rw [takeChar_end line hlast hshort, if_pos ((lineContent_isSome _).2 hb)]
  · subst hc; subst hm
    rw [takeChar_end line hlast hshort, if_neg fun hs => ((lineContent_isSome _).1 hs).elim hb]
  · obtain ⟨hhigh, hlow⟩ := lineSum_digits body
    refine ⟨_, _, closeLine_eq body, ?_, ?_⟩
    · rw [← lineSum_eq]; exact hexDigit_getElem? _ hhigh
    · rw [← lineSum_eq]; exact hexDigit_getElem? _ hlow
  · exact AnswerLine.text_eq a
  · rfl

end Sys2Proof.Machine
end

section
/-! PROOFS. The request lines (R176, R179): what spells a field is read as that field. -/

namespace Sys2Proof.Machine

/-! ## Numbers and words -/

theorem isDigit_iff (c : Char) : isDigit c = true ↔ '0' ≤ c ∧ c ≤ '9' := by
  simp only [isDigit, Bool.and_eq_true, decide_eq_true_eq]

theorem isCapital_iff (c : Char) : isCapital c = true ↔ 'A' ≤ c ∧ c ≤ 'Z' := by
  simp only [isCapital, Bool.and_eq_true, decide_eq_true_eq]

theorem readNumber_eq_some (t : List Char) (n : Nat) : readNumber t = some n ↔
    1 ≤ t.length ∧ t.length ≤ 10 ∧ (∀ c ∈ t, '0' ≤ c ∧ c ≤ '9') ∧ n = t.foldl (fun x c => 10 * x + (c.toNat - 48)) 0 := by
  have hne : t ≠ [] ↔ 1 ≤ t.length := List.length_pos_iff.symm
  simp only [readNumber, Option.ite_none_right_eq_some, Bool.and_eq_true, decide_eq_true_eq, List.all_eq_true, isDigit_iff,
    Bool.not_eq_true', List.isEmpty_eq_false_iff, hne, Option.some.injEq, and_assoc, eq_comm (a := n)]

theorem isWord_iff (t : List Char) : isWord t = true ↔
    ∃ c rest, t = c :: rest ∧ ('A' ≤ c ∧ c ≤ 'Z') ∧
      ∀ d ∈ rest, ('A' ≤ d ∧ d ≤ 'Z') ∨ ('0' ≤ d ∧ d ≤ '9') ∨ d = '_' := by
  cases t with
  | nil => simp [isWord]
  | cons c rest =>
    simp only [isWord, Bool.and_eq_true, List.all_eq_true, Bool.or_eq_true, decide_eq_true_eq, isCapital_iff, isDigit_iff, or_assoc,
      List.cons.injEq]
    exact ⟨fun h => ⟨c, rest, ⟨rfl, rfl⟩, h⟩, fun ⟨_, _, ⟨hc, hr⟩, h⟩ => hc ▸ hr ▸ h⟩

theorem readNamed_ne_none {α : Type} (defs : List (String × α)) (t : List Char) : readNamed defs t ≠ none ↔ isWord t = true := by
  unfold readNamed
  split
  next h => exact iff_of_true nofun h
  next h => exact iff_of_false (fun hne => hne rfl) h

/-- The digits of a number of at most ten of them are read as that number (R176, R179). -/
theorem readNumber_digits {n : Nat} (h : numberOk n = true) : readNumber (digits n) = some n := by
  have hn : n < 10 ^ 10 := by simpa [numberOk] using h
  refine (readNumber_eq_some _ _).2 ⟨List.length_pos_iff.2 Nat.toDigits_ne_nil,
    (Nat.length_toDigits_le_iff (by decide) (by decide)).2 hn, fun c hc => ?_, ?_⟩
  · have hdigit := Nat.isDigit_of_mem_toDigits (by decide) (by decide) hc
    simpa [Char.isDigit, Char.le_def] using hdigit
  · exact (Nat.ofDigitChars_toDigits (by decide) (by decide)).symm

/-- No number is a word, whose first character is a capital. -/
theorem readNumber_of_word {t : List Char} (h : isWord t = true) : readNumber t = none := by
  obtain ⟨c, rest, rfl, hcapital, _⟩ := (isWord_iff t).1 h
  refine Option.eq_none_iff_forall_ne_some.2 fun n hn => ?_
  obtain ⟨_, _, hdigits, _⟩ := (readNumber_eq_some _ _).1 hn
  have hdigit := (hdigits c List.mem_cons_self).2
  exact absurd (Char.le_trans hcapital.1 hdigit) (by decide)

theorem digits_ne_word {n : Nat} (h : numberOk n = true) {t : List Char} (ht : isWord t = true) : digits n ≠ t := by
  intro heq
  have hread := readNumber_digits h
  rw [heq, readNumber_of_word ht] at hread
  cases hread

/-- A list of numbers, each of at most ten digits. -/
theorem mapM_readNumber {l : List Nat} (h : ∀ n ∈ l, numberOk n = true) : (l.map digits).mapM readNumber = some l := by
  induction l with
  | nil => rfl
  | cons n rest ih =>
    rw [List.map_cons, List.mapM_cons, readNumber_digits (h n List.mem_cons_self), ih fun m hm => h m (List.mem_cons_of_mem _ hm)]
    rfl

/-! ## Words in their places -/

/-- The words of a place that spells its values apart from X are read back, and stand apart in a set. -/
structure Spells {α : Type} (defs : List (String × α)) (word : α → String) : Prop where
  read : ∀ x, readNamed defs (namedText word x) = some x
  apart : ∀ x, ',' ∉ namedText word x
  notNone : ∀ x, namedText word x ≠ "NONE".toList

/-- Every value of a finite place, X among them, has been looked up. -/
theorem named_forall {α : Type} {p : Named α → Prop} (hknown : ∀ a, p (.known a)) (hunknown : p .unknown) : ∀ x, p x := by
  intro x
  cases x with
  | known a => exact hknown a
  | unknown => exact hunknown

theorem readCorridor_text (x : Named Corridor) : readCorridor (namedText Corridor.word x) = some x := by
  revert x; exact named_forall (by intro a; cases a <;> decide) (by decide)

theorem readCarriage_text (x : Named CarriageName) : readCarriage (namedText CarriageName.word x) = some x := by
  revert x; exact named_forall (by intro a; cases a <;> decide) (by decide)

theorem readSide_text (x : Named Side) : readNamed sideWords (namedText Side.word x) = some x := by
  revert x; exact named_forall (by intro a; cases a <;> decide) (by decide)

theorem readDir_text (x : Named Dir) : readNamed dirWords (namedText Dir.word x) = some x := by
  revert x; exact named_forall (by intro a; cases a <;> decide) (by decide)

theorem readRole_text (x : Named StationRole) : readNamed roleWords (namedText StationRole.word x) = some x := by
  revert x; exact named_forall (by intro a; cases a <;> decide) (by decide)

theorem readClass_text (x : Named OrderClass) : readNamed classWords (namedText OrderClass.word x) = some x := by
  revert x; exact named_forall (by intro a; cases a <;> decide) (by decide)

theorem readTiming_text (x : Named TimingKey) : readNamed timingWords (namedText TimingKey.word x) = some x := by
  revert x; exact named_forall (by intro a; cases a with | corridor c => cases c <;> decide | unit => decide) (by decide)

theorem spells_readiness : Spells readinessWords Readiness.word where
  read := named_forall (by intro a; cases a <;> decide) (by decide)
  apart := named_forall (by intro a; cases a <;> decide) (by decide)
  notNone := named_forall (by intro a; cases a <;> decide) (by decide)

theorem spells_permission : Spells permissionWords Permission.word where
  read := named_forall (by intro a; cases a <;> decide) (by decide)
  apart := named_forall (by intro a; cases a <;> decide) (by decide)
  notNone := named_forall (by intro a; cases a <;> decide) (by decide)

theorem spells_event : Spells eventWords EventKind.word where
  read := named_forall (by intro a; cases a <;> decide) (by decide)
  apart := named_forall (by intro a; cases a <;> decide) (by decide)
  notNone := named_forall (by intro a; cases a <;> decide) (by decide)

theorem mapM_readNamed {α : Type} {defs : List (String × α)} {word : α → String} (h : Spells defs word) (l : List (Named α)) :
    (l.map (namedText word)).mapM (readNamed defs) = some l := by
  induction l with
  | nil => rfl
  | cons x rest ih =>
    rw [List.map_cons, List.mapM_cons, h.read x, ih]
    rfl

/-- Words that stand apart are not the word NONE when joined. -/
theorem joined_ne_none {α : Type} {defs : List (String × α)} {word : α → String} (h : Spells defs word) {l : List (Named α)} (hl : l ≠ []) :
    joined ',' (l.map (namedText word)) ≠ "NONE".toList := by
  intro heq
  have hsplit := splitOn_joined ',' (l.map (namedText word)) (by simpa using hl) (by simpa using fun x _ => h.apart x)
  rw [heq, splitOn_of_notMem ',' "NONE".toList (by decide)] at hsplit
  have hmem : "NONE".toList ∈ l.map (namedText word) := hsplit ▸ List.mem_singleton_self _
  obtain ⟨x, _, hx⟩ := List.mem_map.1 hmem
  exact h.notNone x hx

theorem readSet_text {α : Type} {defs : List (String × α)} {word : α → String} (h : Spells defs word) (l : List (Named α)) :
    readSet defs (namedSetText word l) = some l := by
  by_cases hl : l = []
  · subst hl; rfl
  · have hmap : l.map (namedText word) ≠ [] := by simpa using hl
    rw [namedSetText, setText_eq, if_neg hmap, readSet, if_neg (joined_ne_none h hl),
      splitOn_joined ',' _ hmap (by simpa using fun x _ => h.apart x), mapM_readNamed h]

/-! ## The fields of each request -/

@[simp] theorem reqOf_some {α : Type} (a : α) : reqOf (some a) = .args a := rfl

theorem readOne_digits {n : Nat} (h : numberOk n = true) : readOne readNumber [digits n] = some n := readNumber_digits h

theorem readMaybe_text (n : Option Nat) (h : optNumberOk n = true) : readMaybe readNumber (n.toList.map digits) = some n := by
  cases n with
  | none => rfl
  | some n => simp [readMaybe, readNumber_digits (show numberOk n = true from h)]

/-- A key is read back, with what follows it left over. -/
theorem readKey_text (k : ItemKey) (h : k.form = true) (rest : List (List Char)) :
    readKey (keyText k ++ rest) = some (k, rest) := by
  cases k with
  | corridor c => simp [readKey, keyText, readCorridor_text]
  | segment c k => simp [readKey, keyText, readCorridor_text, readNumber_digits (show numberOk k = true from h)]
  | gate c k => simp [readKey, keyText, readCorridor_text, readNumber_digits (show numberOk k = true from h)]
  | lane n => simp [readKey, keyText, readNumber_digits (show numberOk n = true from h)]
  | mouth n c => simp [readKey, keyText, readCorridor_text, readNumber_digits (show numberOk n = true from h)]
  | carriage n => simp [readKey, keyText, readCarriage_text]
  | link n => simp [readKey, keyText, readNumber_digits (show numberOk n = true from h)]
  | timing k => simp [readKey, keyText, readTiming_text]

theorem readItem_text (k : ItemKey) (h : k.form = true) : readItem (keyText k) = some k := by
  have hkey := readKey_text k h []
  rw [List.append_nil] at hkey
  simp only [readItem, hkey]

theorem readDecel_text (d : Named (Option Nat)) (h : (match d with | .known d => optNumberOk d | .unknown => true) = true) :
    readDecel (decelText d) = some d := by
  cases d with
  | unknown => decide
  | known d =>
    cases d with
    | none => decide
    | some n => simp [readDecel, decelText, readNumber_digits (show numberOk n = true from h)]

theorem readArrive_text (a : ArriveArgs) (h : a.form = true) : readArrive (arriveText a) = some a := by
  obtain ⟨b, l, x, r, ref⟩ := a
  simp only [ArriveArgs.form, Bool.and_eq_true] at h
  obtain ⟨⟨⟨hb, hl⟩, hx⟩, href⟩ := h
  cases ref with
  | none => simp [readArrive, arriveText, readNumber_digits hb, readNumber_digits hl, readNumber_digits hx, spells_readiness.read]
  | some v =>
    simp [readArrive, arriveText, readNumber_digits hb, readNumber_digits hl, readNumber_digits hx, spells_readiness.read,
      readNumber_digits (show numberOk v = true from href)]

theorem readLaneSet_text (a : LaneSetArgs) (h : a.form = true) :
    readLaneSet (digits a.lane :: a.benches.map digits) = some a := by
  simp only [LaneSetArgs.form, Bool.and_eq_true, List.all_eq_true] at h
  simp [readLaneSet, readNumber_digits h.1.1, mapM_readNumber h.1.2]

theorem readBenchSwap_text (a : BenchSwapArgs) (h : a.form = true) : readSwap [digits a.n, digits a.m] = some a := by
  simp only [BenchSwapArgs.form, Bool.and_eq_true] at h
  simp [readSwap, readNumber_digits h.1, readNumber_digits h.2]

theorem readTrack_text (a : TrackArgs) (h : a.form = true) : readTrack (trackText a) = some a := by
  simp [readTrack, trackText, readCorridor_text, readNumber_digits (show numberOk a.k = true from h)]

theorem readDeclare_text (a : DeclareArgs) (h : a.form = true) :
    readDeclare [namedText CarriageName.word a.carriage, digits a.p, digits a.tolerance] = some a := by
  simp only [DeclareArgs.form, Bool.and_eq_true] at h
  simp [readDeclare, readCarriage_text, readNumber_digits h.1, readNumber_digits h.2]

end Sys2Proof.Machine
end

section
/-! PROOFS. The longer request lines: layout items, benches, orders, gates and watch slots (R6, R34, R42, R107, R167, R179). -/

namespace Sys2Proof.Machine

/-! ## Layout items -/

theorem digits_ne_remove {n : Nat} (h : numberOk n = true) : digits n ≠ "REMOVE".toList := digits_ne_word h (by decide)

theorem readLaneItem_text (n : Nat) (kind : LaneKind) (role : Option (Named StationRole)) {capacity : Nat} (h : numberOk capacity = true) :
    readLaneItem n ((LaneKind.word kind).toList
      :: ((match role with | some r => [namedText StationRole.word r] | none => []) ++ [digits capacity]))
      = some (.lane n kind role capacity) := by
  cases role with
  | none => cases kind <;> simp [readLaneItem, LaneKind.word, readNumber_digits h]
  | some r => cases kind <;> simp [readLaneItem, LaneKind.word, readNumber_digits h, readRole_text]

theorem readEdit_text (level : Level) (e : LayoutEdit) (h : e.form = true)
    (hlevel : ∀ c k input v, e = .gate c k input v → level = v) : readEdit level (editText e) = some e := by
  cases e with
  | remove k =>
    unfold readEdit editText
    rw [readKey_text k h]
    exact if_pos rfl
  | corridor c length =>
    have hlength : numberOk length = true := h
    unfold editText readEdit
    rw [readKey_text (.corridor c) rfl]
    exact (if_neg (by simpa using digits_ne_remove hlength)).trans (by simp [readNumber_digits hlength])
  | segment c k length =>
    simp only [LayoutEdit.form, Bool.and_eq_true] at h
    unfold editText readEdit
    rw [readKey_text (.segment c k) h.1]
    exact (if_neg (by simpa using digits_ne_remove h.2)).trans (by simp [readNumber_digits h.2])
  | gate c k input v =>
    simp only [LayoutEdit.form, Bool.and_eq_true] at h
    unfold editText readEdit
    rw [readKey_text (.gate c k) h.1]
    exact (if_neg (by simpa using digits_ne_remove h.2)).trans (by simp [readNumber_digits h.2, hlevel c k input v rfl])
  | lane n kind role capacity =>
    simp only [LayoutEdit.form, Bool.and_eq_true] at h
    unfold editText readEdit
    rw [readKey_text (.lane n) h.1]
    exact (if_neg (by cases role <;> simp)).trans (readLaneItem_text n kind role h.2)
  | mouth n c side dock =>
    simp only [LayoutEdit.form, Bool.and_eq_true] at h
    unfold editText readEdit
    rw [readKey_text (.mouth n c) h.1]
    exact (if_neg (by simp)).trans (by simp [readNumber_digits h.2, readSide_text])
  | carriage n length decel home address =>
    simp only [LayoutEdit.form, Bool.and_eq_true] at h
    obtain ⟨⟨hlength, hdecel⟩, haddress⟩ := h
    unfold editText readEdit
    rw [readKey_text (.carriage n) rfl]
    exact (if_neg (by simp)).trans (by simp [readNumber_digits hlength, readNumber_digits haddress, readDir_text, readDecel_text decel hdecel])
  | link n ps =>
    have hset : namedSetText Permission.word ps ≠ "REMOVE".toList := by
      intro heq
      have hread := readSet_text spells_permission ps
      rw [heq] at hread
      have hremove : readSet permissionWords "REMOVE".toList = some [.unknown] := by decide
      have hps : ps = [.unknown] := Option.some.inj (hread.symm.trans hremove)
      rw [hps] at heq
      exact absurd heq (by decide)
    unfold editText readEdit
    rw [readKey_text (.link n) h]
    exact (if_neg (by simpa using hset)).trans (by simp [readSet_text spells_permission])
  | timing c vmax reaction margin tol slip trust =>
    have hread := mapM_readNumber (l := [vmax, reaction, margin, tol, slip, trust]) (by simpa [LayoutEdit.form] using h)
    unfold editText readEdit
    rw [readKey_text (.timing (.known (.corridor c))) rfl]
    exact (if_neg (by simp)).trans (by simp only [hread])
  | timingUnit aging allowance rehome =>
    have hread := mapM_readNumber (l := [aging, allowance, rehome]) (by simpa [LayoutEdit.form] using h)
    unfold editText readEdit
    rw [readKey_text (.timing (.known .unit)) rfl]
    exact (if_neg (by simp)).trans (by simp only [hread])

/-! ## Benches -/

theorem addPair_batch {a : BenchSetArgs} (ha : a.batch = none) {n : Nat} (h : numberOk n = true) :
    addPair a "BATCH".toList (digits n) = some { a with batch := some n } := by
  simp [addPair, ha, readNumber_digits h]

theorem addPair_readiness {a : BenchSetArgs} (ha : a.readiness = none) (r : Named Readiness) :
    addPair a "READINESS".toList (namedText Readiness.word r) = some { a with readiness := some r } := by
  simp [addPair, ha, spells_readiness.read]

/-- What a reference is written as: its digits, the word NONE, or another word. -/
def referenceText : Named (Option Nat) → List Char
  | .known (some x) => digits x
  | w => namedText (fun _ => "NONE") w

theorem addPair_reference {a : BenchSetArgs} (ha : a.reference = none) (r : Named (Option Nat))
    (h : (match some r with | some (.known r) => optNumberOk r | _ => true) = true) :
    addPair a "REFERENCE".toList (referenceText r) = some { a with reference := some r } := by
  cases r with
  | known r =>
    cases r with
    | some n => simp [addPair, ha, referenceText, readNumber_digits (show numberOk n = true from h)]
    | none =>
      have hnumber : readNumber (referenceText (.known none)) = none := by decide
      have hword : readNamed [("NONE", (none : Option Nat))] (referenceText (.known none)) = some (.known none) := by decide
      simp [addPair, ha, hnumber, hword]
  | unknown =>
    have hnumber : readNumber (referenceText .unknown) = none := by decide
    have hword : readNamed [("NONE", (none : Option Nat))] (referenceText .unknown) = some .unknown := by decide
    simp [addPair, ha, hnumber, hword]

theorem benchSetText_eq (a : BenchSetArgs) :
    benchSetText a = digits a.bench :: ((a.batch.toList.flatMap fun x => ["BATCH".toList, digits x])
      ++ ((a.readiness.toList.flatMap fun r => ["READINESS".toList, namedText Readiness.word r])
        ++ (a.reference.toList.flatMap fun r => ["REFERENCE".toList, referenceText r]))) := by
  rw [← List.append_assoc]
  rfl

theorem readPairs_reference {a : BenchSetArgs} (ha : a.reference = none) (r : Option (Named (Option Nat)))
    (h : (match r with | some (.known r) => optNumberOk r | _ => true) = true) :
    readPairs a (r.toList.flatMap fun r => ["REFERENCE".toList, referenceText r]) = some { a with reference := r } := by
  cases r with
  | none =>
    obtain ⟨bench, batch, readiness, reference⟩ := a
    obtain rfl : reference = none := ha
    rfl
  | some r =>
    have hpair := addPair_reference ha r h
    simp only [Option.toList_some, List.flatMap_cons, List.flatMap_nil, List.append_nil, readPairs, hpair, Option.bind_some]

theorem readPairs_readiness {a : BenchSetArgs} (ha : a.readiness = none) (r : Option (Named Readiness)) (rest : List (List Char)) :
    readPairs a ((r.toList.flatMap fun r => ["READINESS".toList, namedText Readiness.word r]) ++ rest)
      = readPairs { a with readiness := r } rest := by
  cases r with
  | none =>
    obtain ⟨bench, batch, readiness, reference⟩ := a
    obtain rfl : readiness = none := ha
    rfl
  | some r =>
    have hpair := addPair_readiness ha r
    simp only [Option.toList_some, List.flatMap_cons, List.flatMap_nil, List.append_nil, List.cons_append, List.nil_append, readPairs,
      hpair, Option.bind_some]

theorem readPairs_batch {a : BenchSetArgs} (ha : a.batch = none) (n : Option Nat) (h : optNumberOk n = true) (rest : List (List Char)) :
    readPairs a ((n.toList.flatMap fun x => ["BATCH".toList, digits x]) ++ rest) = readPairs { a with batch := n } rest := by
  cases n with
  | none =>
    obtain ⟨bench, batch, readiness, reference⟩ := a
    obtain rfl : batch = none := ha
    rfl
  | some n =>
    have hpair := addPair_batch ha (show numberOk n = true from h)
    simp only [Option.toList_some, List.flatMap_cons, List.flatMap_nil, List.append_nil, List.cons_append, List.nil_append, readPairs,
      hpair, Option.bind_some]

theorem readBenchSet_text (a : BenchSetArgs) (h : a.form = true) : readBenchSet (benchSetText a) = some a := by
  simp only [BenchSetArgs.form, Bool.and_eq_true] at h
  obtain ⟨⟨⟨hbench, _⟩, hbatch⟩, href⟩ := h
  rw [benchSetText_eq, readBenchSet, readNumber_digits hbench, Option.bind_some, readPairs_batch rfl _ hbatch,
    readPairs_readiness rfl, readPairs_reference rfl _ href]

theorem readSettle_text (a : BenchSettleArgs) (h : a.form = true) :
    readSettle [digits a.bench,
      namedText (fun w : SettleWhere => match w with | .aboard => "ABOARD" | .inLane => "IN_LANE") a.place] = some a := by
  have hword : ∀ x : Named SettleWhere, readNamed [("ABOARD", SettleWhere.aboard), ("IN_LANE", .inLane)]
      (namedText (fun w : SettleWhere => match w with | .aboard => "ABOARD" | .inLane => "IN_LANE") x) = some x :=
    named_forall (by intro a; cases a <;> decide) (by decide)
  simp [readSettle, readNumber_digits (show numberOk a.bench = true from h), hword]

/-! ## Orders -/

/-- No class is F or T. -/
theorem classText_ne_corridor (k : Named OrderClass) :
    ¬ (namedText OrderClass.word k = ['F'] ∨ namedText OrderClass.word k = ['T']) := by
  revert k; exact named_forall (by intro a; cases a <;> decide) (by decide)

theorem readMoveEnd_text (src : MoveSource) (dest : Nat) (c : Option (Named Corridor)) (k : Named OrderClass) (hc : c ≠ some .unknown) :
    readMoveEnd src dest (c.toList.map (namedText Corridor.word) ++ [namedText OrderClass.word k]) = some ⟨src, dest, c, k⟩ := by
  cases c with
  | none =>
    show (if _ then _ else _) = _
    rw [if_neg (classText_ne_corridor k), readClass_text]
    rfl
  | some c =>
    cases c with
    | unknown => exact absurd rfl hc
    | known c =>
      have hword : namedText Corridor.word (.known c) = ['F'] ∨ namedText Corridor.word (.known c) = ['T'] := by
        cases c <;> decide
      show (if _ then _ else _) = _
      rw [if_pos hword, readCorridor_text, readClass_text]
      rfl

theorem readMoveTail_text (src : MoveSource) {dest : Nat} (hd : numberOk dest = true) (c : Option (Named Corridor))
    (k : Named OrderClass) (hc : c ≠ some .unknown) :
    readMoveTail src (digits dest :: (c.toList.map (namedText Corridor.word) ++ [namedText OrderClass.word k]))
      = some ⟨src, dest, c, k⟩ := by
  rw [readMoveTail, readNumber_digits hd, Option.bind_some, readMoveEnd_text src dest c k hc]

theorem readMove_text (a : MoveArgs) (h : a.form = true) (hc : a.corridor ≠ some .unknown) : readMove (moveText a) = some a := by
  obtain ⟨src, dest, c, k⟩ := a
  simp only [MoveArgs.form, Bool.and_eq_true] at h
  have htail := fun src => readMoveTail_text src h.2 c k hc
  cases src with
  | bench n => simp [moveText, moveSourceText, readMove, readNumber_digits (show numberOk n = true from h.1), htail]
  | laneEnd l d =>
    simp [moveText, moveSourceText, readMove, readNumber_digits (show numberOk l = true from h.1), readCorridor_text, htail]
  | aboard n => simp [moveText, moveSourceText, readMove, readCarriage_text, htail]

/-! ## Gates, watch slots and the attention mark -/

theorem readGateService_text (a : GateServiceArgs) (h : a.form = true) :
    readGateService [namedText Corridor.word a.c, digits a.k,
      namedText (fun w : ServiceWord => match w with | .putIn => "IN" | .takeOut => "OUT") a.word] = some a := by
  have hword : ∀ x : Named ServiceWord, readNamed [("IN", ServiceWord.putIn), ("OUT", .takeOut)]
      (namedText (fun w : ServiceWord => match w with | .putIn => "IN" | .takeOut => "OUT") x) = some x :=
    named_forall (by intro a; cases a <;> decide) (by decide)
  simp [readGateService, readCorridor_text, readNumber_digits (show numberOk a.k = true from h), hword]

theorem readAttention_text (x : Named Bool) :
    readOne (readNamed [("ON", true), ("OFF", false)]) [namedText (fun b : Bool => if b then "ON" else "OFF") x] = some x := by
  revert x; exact named_forall (by decide) (by decide)

theorem readAndPrev_text (x : Named Bool) :
    readNamed [("SET", true), ("CLEAR", false)] (namedText (fun b : Bool => if b then "SET" else "CLEAR") x) = some x := by
  revert x; exact named_forall (by decide) (by decide)

theorem readCorridorSel_text (x : Named (Option Corridor)) :
    readCorridorSel (namedText (fun c : Option Corridor => match c with | some c => Corridor.word c | none => "ANY") x) = some x := by
  revert x
  refine named_forall (fun a => ?_) (by decide)
  cases a with
  | none => decide
  | some c => cases c <;> decide

theorem readLaneSel_text (x : LaneSelArg) (h : (match x with | .number n => numberOk n | _ => true) = true) :
    readLaneSel (laneSelText x) = some x := by
  cases x with
  | any => decide
  | number n => simp [readLaneSel, laneSelText, readNumber_digits (show numberOk n = true from h)]
  | kind k => cases k <;> decide
  | unknown => decide

theorem readRefCond_text (x : RefCond) (h : (match x with | .equal v => numberOk v | _ => true) = true) :
    readRefCond (refCondText x) = some x := by
  cases x with
  | any => decide
  | present => decide
  | absent => decide
  | equal v => simp [readRefCond, refCondText, readNumber_digits (show numberOk v = true from h)]

theorem readSlot_text (a : SlotArgs) (h : a.form = true) : readSlot (slotText a) = some a := by
  simp only [SlotArgs.form, Bool.and_eq_true] at h
  obtain ⟨⟨⟨hlane, hvalue⟩, hmask⟩, href⟩ := h
  have henabled : (if (if a.enabled then "YES".toList else "NO".toList) = "YES".toList then some true
      else if (if a.enabled then "YES".toList else "NO".toList) = "NO".toList then some false else none) = some a.enabled := by
    cases a.enabled <;> decide
  simp only [readSlot, slotText, List.cons_append, List.nil_append, henabled, Option.bind_some, readAndPrev_text,
    readSet_text spells_event]
  refine (congrArg (Option.bind · _) (readCorridorSel_text a.corridor)).trans ?_
  simp only [Option.bind_some, readLaneSel_text a.lane hlane, readNumber_digits hvalue, readNumber_digits hmask,
    readSet_text spells_readiness, readRefCond_text a.reference href, Option.map_some]

theorem readWatch_text (a : WatchArgs) (h : a.form = true) : readWatch (watchText a) = some a := by
  obtain ⟨slot, op⟩ := a
  simp only [WatchArgs.form, Bool.and_eq_true] at h
  have hslot := readNumber_digits h.1
  cases op with
  | read => simp [watchText, readWatch, hslot]
  | off => simp [watchText, readWatch, hslot]
  | write b =>
    have hread := readSlot_text b h.2
    have hshape : slotText b ≠ [] ∧ slotText b ≠ ["OFF".toList] := by simp [slotText]
    cases hfields : slotText b with
    | nil => exact absurd hfields hshape.1
    | cons t rest =>
      rw [hfields] at hread hshape
      simp only [watchText, hfields, readWatch, hslot, Option.bind_some, if_neg hshape.2, hread, Option.map_some]

end Sys2Proof.Machine
end

section
/-! PROOFS. The port's reading of a request line, and its refusals in their order (R176, R179). -/

namespace Sys2Proof.Machine

/-! ## Which lines are requests -/

/-- The request that each request word asks, by the reader of its fields (section 12.6); the words of `.other` are no request's. -/
def asking (l : LinkId) (level : Level) (pins : Pins) (fields : List (List Char)) : ReqWord → Instr
  | .status => .status l (reqOf (readNone fields))
  | .save => .save l (reqOf (readNone fields))
  | .restart => .restart l (reqOf (readNone fields)) pins
  | .arrive => .arrive l (reqOf (readArrive fields))
  | .handoff => .handoff l (reqOf (readOne readNumber fields))
  | .move => .move l (reqOf (readMove fields))
  | .cancel => .cancel l (reqOf (readOne readNumber fields))
  | .abort => .abort l (reqOf (readOne readNumber fields))
  | .clear => .clear l (reqOf (readOne readCarriage fields))
  | .fence => .fence l (reqOf (readTrack fields))
  | .unfence => .unfence l (reqOf (readTrack fields))
  | .home => .home l (reqOf (readOne readCarriage fields))
  | .declare => .declare l (reqOf (readDeclare fields))
  | .watch => .watch l (reqOf (readWatch fields))
  | .fetch => .fetch l (reqOf (readMaybe readNumber fields))
  | .attention => .attention l (reqOf (readOne (readNamed [("ON", true), ("OFF", false)]) fields))
  | .layoutGet => .layoutGet l (reqOf (readItem fields))
  | .layoutSet => .layoutSet l (reqOf (readEdit level fields))
  | .modeConfigure => .modeConfigure l (reqOf (readNone fields))
  | .modeRun => .modeRun l (reqOf (readNone fields))
  | .laneGet => .laneGet l (reqOf (readOne readNumber fields))
  | .laneSet => .laneSet l (reqOf (readLaneSet fields))
  | .benchGet => .benchGet l (reqOf (readOne readNumber fields))
  | .benchSet => .benchSet l (reqOf (readBenchSet fields))
  | .benchDelete => .benchDelete l (reqOf (readOne readNumber fields))
  | .benchIdent => .benchIdent l (reqOf (readOne readNumber fields))
  | .benchSwap => .benchSwap l (reqOf (readSwap fields))
  | .benchSettle => .benchSettle l (reqOf (readSettle fields))
  | .orderGet => .orderGet l (reqOf (readOne readNumber fields))
  | .orderList => .orderList l (reqOf (readMaybe readNumber fields))
  | .carriageGet => .carriageGet l (reqOf (readOne readCarriage fields))
  | .carriageList => .carriageList l (reqOf (readOne readCorridor fields))
  | .segmentGet => .segmentGet l (reqOf (readTrack fields))
  | .segmentList => .segmentList l (reqOf (readOne readCorridor fields))
  | .gateService => .gateService l (reqOf (readGateService fields))
  | .gateGet => .gateGet l (reqOf (readTrack fields))
  | .authorityGet => .authorityGet l (reqOf (readOne readCarriage fields))
  | .lineGet => .lineGet l (reqOf (readOne readCorridor fields))
  | .other words => .status l (.unlisted words)

/-- The request words of section 12.6 that stand alone. -/
def soleWords : List String :=
  ["STATUS", "SAVE", "RESTART", "ARRIVE", "HANDOFF", "MOVE", "CANCEL", "ABORT", "CLEAR", "FENCE", "UNFENCE", "HOME", "DECLARE",
   "WATCH", "FETCH", "ATTENTION"]

/-- The request words with their sub-words. -/
def wordPairs : List (String × String) :=
  [("LAYOUT", "GET"), ("LAYOUT", "SET"), ("MODE", "CONFIGURE"), ("MODE", "RUN"), ("LANE", "GET"), ("LANE", "SET"), ("BENCH", "GET"),
   ("BENCH", "SET"), ("BENCH", "DELETE"), ("BENCH", "IDENT"), ("BENCH", "SWAP"), ("BENCH", "SETTLE"), ("ORDER", "GET"), ("ORDER",
   "LIST"), ("CARRIAGE", "GET"), ("CARRIAGE", "LIST"), ("SEGMENT", "GET"), ("SEGMENT", "LIST"), ("GATE", "SERVICE"), ("GATE",
   "GET"), ("AUTHORITY", "GET"), ("LINE", "GET")]

theorem words_of_soleWords {x : String} (h : x ∈ soleWords) : ∃ w : ReqWord, w.words = [x] := by
  have hlist : soleWords.map (fun x => [x]) = [ReqWord.status, .save, .restart, .arrive, .handoff, .move, .cancel, .abort, .clear, .fence,
    .unfence, .home, .declare, .watch, .fetch, .attention].map ReqWord.words := rfl
  obtain ⟨w, -, hw⟩ := List.mem_map.1 (hlist ▸ List.mem_map_of_mem (f := fun x => [x]) h)
  exact ⟨w, hw⟩

theorem words_of_wordPairs {x y : String} (h : (x, y) ∈ wordPairs) : ∃ w : ReqWord, w.words = [x, y] := by
  have hlist : wordPairs.map (fun p => [p.1, p.2]) = [ReqWord.layoutGet, .layoutSet, .modeConfigure, .modeRun, .laneGet, .laneSet, .benchGet,
    .benchSet, .benchDelete, .benchIdent, .benchSwap, .benchSettle, .orderGet, .orderList, .carriageGet, .carriageList, .segmentGet,
    .segmentList, .gateService, .gateGet, .authorityGet, .lineGet].map ReqWord.words := rfl
  obtain ⟨w, -, hw⟩ := List.mem_map.1 (hlist ▸ List.mem_map_of_mem (f := fun p : String × String => [p.1, p.2]) h)
  exact ⟨w, hw⟩

/-- A line that opens with a request's words is read as that request. -/
theorem readRequest_words (l : LinkId) (level : Level) (pins : Pins) (w : ReqWord) (rest : List (List Char)) (hw : w.words ≠ []) :
    readRequest l level pins (w.words.map String.toList ++ rest) = some (asking l level pins rest w) := by
  cases w with
  | other words => exact absurd rfl hw
  | _ => rfl

theorem answeredAs_reqOf {α : Type} (w : ReqWord) (o : Option α) : answeredAs w (reqOf o) = w := by cases o <;> rfl

theorem asked_asking (l : LinkId) (level : Level) (pins : Pins) (w : ReqWord) (rest : List (List Char)) (hw : w.words ≠ []) :
    ∃ ok, asked (asking l level pins rest w) = some (l, w, ok) := by
  cases w with
  | other words => exact absurd rfl hw
  | _ => exact ⟨_, congrArg (fun x => some (l, x, _)) (answeredAs_reqOf _ _)⟩

/-- A line that opens with no request's words is read as none: each test of the reader is for the words of one. -/
theorem readRequest_of_no_words (l : LinkId) (level : Level) (pins : Pins) (fields : List (List Char))
    (h : ∀ w : ReqWord, w.words ≠ [] → ¬ w.words.map String.toList <+: fields) : readRequest l level pins fields = none := by
  cases fields with
  | nil => rfl
  | cons f rest =>
    have hsole : ∀ x, x ∈ soleWords → decide (f = x.toList) = false := by
      intro x hx
      obtain ⟨w, hw⟩ := words_of_soleWords hx
      refine decide_eq_false fun hf => h w (by rw [hw]; exact List.cons_ne_nil _ _) ?_
      rw [hw, hf]
      exact ⟨rest, rfl⟩
    cases rest with
    | nil =>
      simp (disch := decide) only [-String.reduceToList, readRequest, hsole, Bool.false_eq_true, if_false]
    | cons v more =>
      have hpair : ∀ x y, (x, y) ∈ wordPairs → (decide (f = x.toList) && decide (v = y.toList)) = false := by
        intro x y hxy
        obtain ⟨w, hw⟩ := words_of_wordPairs hxy
        refine Bool.eq_false_iff.2 fun hf => h w (by rw [hw]; exact List.cons_ne_nil _ _) ?_
        simp only [Bool.and_eq_true, decide_eq_true_eq] at hf
        rw [hw, hf.1, hf.2]
        exact ⟨more, rfl⟩
      simp (disch := decide) only [-String.reduceToList, readRequest, hsole, hpair, Bool.false_eq_true, if_false]

theorem readRequest_eq_none (l : LinkId) (level : Level) (pins : Pins) (fields : List (List Char)) :
    readRequest l level pins fields = none ↔ ∀ w : ReqWord, w.words ≠ [] → ¬ w.words.map String.toList <+: fields := by
  refine ⟨fun h w hw hprefix => ?_, readRequest_of_no_words l level pins fields⟩
  obtain ⟨rest, rfl⟩ := hprefix
  rw [readRequest_words l level pins w rest hw] at h
  cases h

/-- A good line is told by its fields: as a request, or as a line of other words (log 7). -/
theorem readLine_fields (l : LinkId) (level : Level) (pins : Pins) (fields : List (List Char)) (hne : fields ≠ [])
    (h : ∀ t ∈ fields, ' ' ∉ t) :
    readLine l level pins (closeLine ('>' :: joined ' ' fields)) =
      some ((readRequest l level pins fields).getD (.status l (.unlisted (wordsInPlace fields)))) := by
  simp only [readLine, lineContent_closeLine, splitOn_joined ' ' fields hne h]

/-! ## What stands in the place of a request word -/

theorem subWorded_of_words {w : ReqWord} {x y : String} (h : w.words = [x, y]) : x ∈ subWorded := by
  cases w <;> simp only [ReqWord.words, List.cons.injEq, reduceCtorEq, and_false] at h <;> simp [subWorded, ← h.1]

theorem words_of_subWorded {x : String} (h : x ∈ subWorded) : ∃ (w : ReqWord) (y : String), w.words = [x, y] := by
  have hpaired : ∀ x ∈ subWorded, ∃ p ∈ wordPairs, p.1 = x := by decide
  obtain ⟨⟨x, y⟩, hp, rfl⟩ := hpaired x h
  obtain ⟨w, hw⟩ := words_of_wordPairs hp
  exact ⟨w, y, hw⟩

theorem head_any_subWorded (fields : List (List Char)) :
    (fields.head?.any fun w => subWorded.any fun x => decide (w = x.toList)) = true
      ↔ ∃ (w : ReqWord) (x y : String), w.words = [x, y] ∧ fields.head? = some x.toList := by
  simp only [Option.any_eq_true, List.any_eq_true, decide_eq_true_eq]
  constructor
  · rintro ⟨_, hhead, x, hx, rfl⟩
    obtain ⟨w, y, hw⟩ := words_of_subWorded hx
    exact ⟨w, x, y, hw, hhead⟩
  · rintro ⟨w, x, y, hw, hhead⟩
    exact ⟨_, hhead, x, subWorded_of_words hw, rfl⟩

theorem wordsInPlace_pair (fields : List (List Char))
    (h : ∃ (w : ReqWord) (x y : String), w.words = [x, y] ∧ fields.head? = some x.toList) : wordsInPlace fields = fields.take 2 := by
  rw [wordsInPlace, if_pos ((head_any_subWorded fields).2 h)]

theorem wordsInPlace_sole (fields : List (List Char))
    (h : ∀ (w : ReqWord) (x y : String), w.words = [x, y] → fields.head? ≠ some x.toList) : wordsInPlace fields = fields.take 1 := by
  rw [wordsInPlace, if_neg fun hany => ?_]
  obtain ⟨w, x, y, hw, hhead⟩ := (head_any_subWorded fields).1 hany
  exact h w x y hw hhead

/-! ## A request in form is read back -/

theorem fields_isSome {α : Type} {form : α → Bool} {q : Req α} (h : (q.fields form).isSome = true) : ∃ a, q = .args a ∧ form a = true := by
  cases q with
  | malformed => cases h
  | unlisted words => cases h
  | args a =>
    refine ⟨a, rfl, ?_⟩
    refine Classical.byContradiction fun hform => ?_
    simp [Req.fields, hform] at h

theorem asked_eq {l l' : LinkId} {w w' : ReqWord} {ok ok' : Bool} (h : some (l', w', ok') = some (l, w, ok)) : l' = l ∧ w' = w ∧ ok' = ok := by
  simpa only [Option.some.injEq, Prod.mk.injEq] using h

/-- A request word with a reader of its fields: what spells fields in form is read as the request that holds them. -/
theorem readRequest_line {α : Type} {l : LinkId} {level : Level} {pins : Pins} {mk : Req α → Instr} {form : α → Bool}
    {read : List (List Char) → Option α} {text : α → List (List Char)} {q : Req α} (w : ReqWord) (hw : w.words ≠ [])
    (hq : (q.fields form).isSome = true) (hasking : ∀ rest, asking l level pins rest w = mk (reqOf (read rest)))
    (hread : ∀ a, q = .args a → form a = true → read (text a) = some a) :
    readRequest l level pins (w.line q text) = some (mk q) := by
  obtain ⟨a, rfl, ha⟩ := fields_isSome hq
  have htext : w.text = w.words.map String.toList := by
    cases w with
    | other words => exact absurd rfl hw
    | _ => rfl
  rw [ReqWord.line, htext, readRequest_words l level pins w _ hw, hasking, hread a rfl ha, reqOf_some]

/-- The words and fields of a request in form are read as that request (R179). -/
theorem readRequest_requestText (l : LinkId) (level : Level) (pins : Pins) (w : ReqWord) (c : Instr) (h : asked c = some (l, w, true))
    (hs : SpelledAt level pins c) : readRequest l level pins (requestText c) = some c := by
  cases c with
  | status l' q =>
    obtain ⟨rfl, _, hq⟩ := asked_eq h
    exact readRequest_line (mk := .status l') .status nofun hq (fun _ => rfl) (fun _ _ _ => rfl)
  | layoutGet l' q =>
    obtain ⟨rfl, _, hq⟩ := asked_eq h
    exact readRequest_line (mk := .layoutGet l') .layoutGet nofun hq (fun _ => rfl) (fun a _ ha => readItem_text a ha)
  | layoutSet l' q =>
    obtain ⟨rfl, _, hq⟩ := asked_eq h
    have hgate : ∀ e, q = .args e → ∀ c k input v, e = .gate c k input v → level = v := by
      rintro _ rfl c k input v rfl
      exact hs
    exact readRequest_line (mk := .layoutSet l') .layoutSet nofun hq (fun _ => rfl) (fun e he hform => readEdit_text level e hform (hgate e he))
  | modeConfigure l' q =>
    obtain ⟨rfl, _, hq⟩ := asked_eq h
    exact readRequest_line (mk := .modeConfigure l') .modeConfigure nofun hq (fun _ => rfl) (fun _ _ _ => rfl)
  | modeRun l' q =>
    obtain ⟨rfl, _, hq⟩ := asked_eq h
    exact readRequest_line (mk := .modeRun l') .modeRun nofun hq (fun _ => rfl) (fun _ _ _ => rfl)
  | save l' q =>
    obtain ⟨rfl, _, hq⟩ := asked_eq h
    exact readRequest_line (mk := .save l') .save nofun hq (fun _ => rfl) (fun _ _ _ => rfl)
  | restart l' q p =>
    obtain ⟨rfl, _, hq⟩ := asked_eq h
    obtain rfl : pins = p := hs
    exact readRequest_line (mk := fun q => .restart l' q pins) .restart nofun hq (fun _ => rfl) (fun _ _ _ => rfl)
  | laneGet l' q =>
    obtain ⟨rfl, _, hq⟩ := asked_eq h
    exact readRequest_line (mk := .laneGet l') .laneGet nofun hq (fun _ => rfl) (fun _ _ ha => readNumber_digits ha)
  | benchGet l' q =>
    obtain ⟨rfl, _, hq⟩ := asked_eq h
    exact readRequest_line (mk := .benchGet l') .benchGet nofun hq (fun _ => rfl) (fun _ _ ha => readNumber_digits ha)
  | arrive l' q =>
    obtain ⟨rfl, _, hq⟩ := asked_eq h
    exact readRequest_line (mk := .arrive l') .arrive nofun hq (fun _ => rfl) (fun a _ ha => readArrive_text a ha)
  | handoff l' q =>
    obtain ⟨rfl, _, hq⟩ := asked_eq h
    exact readRequest_line (mk := .handoff l') .handoff nofun hq (fun _ => rfl) (fun _ _ ha => readNumber_digits ha)
  | laneSet l' q =>
    obtain ⟨rfl, _, hq⟩ := asked_eq h
    exact readRequest_line (mk := .laneSet l') .laneSet nofun hq (fun _ => rfl) (fun a _ ha => readLaneSet_text a ha)
  | benchSet l' q =>
    obtain ⟨rfl, _, hq⟩ := asked_eq h
    exact readRequest_line (mk := .benchSet l') .benchSet nofun hq (fun _ => rfl) (fun a _ ha => readBenchSet_text a ha)
  | benchDelete l' q =>
    obtain ⟨rfl, _, hq⟩ := asked_eq h
    exact readRequest_line (mk := .benchDelete l') .benchDelete nofun hq (fun _ => rfl) (fun _ _ ha => readNumber_digits ha)
  | benchIdent l' q =>
    obtain ⟨rfl, _, hq⟩ := asked_eq h
    exact readRequest_line (mk := .benchIdent l') .benchIdent nofun hq (fun _ => rfl) (fun _ _ ha => readNumber_digits ha)
  | benchSwap l' q =>
    obtain ⟨rfl, _, hq⟩ := asked_eq h
    exact readRequest_line (mk := .benchSwap l') .benchSwap nofun hq (fun _ => rfl) (fun a _ ha => readBenchSwap_text a ha)
  | benchSettle l' q =>
    obtain ⟨rfl, _, hq⟩ := asked_eq h
    exact readRequest_line (mk := .benchSettle l') .benchSettle nofun hq (fun _ => rfl) (fun a _ ha => readSettle_text a ha)
  | move l' q =>
    obtain ⟨rfl, _, hq⟩ := asked_eq h
    have hcorridor : ∀ a, q = .args a → a.corridor ≠ some .unknown := by
      rintro _ rfl
      exact hs
    exact readRequest_line (mk := .move l') .move nofun hq (fun _ => rfl) (fun a he ha => readMove_text a ha (hcorridor a he))
  | cancel l' q =>
    obtain ⟨rfl, _, hq⟩ := asked_eq h
    exact readRequest_line (mk := .cancel l') .cancel nofun hq (fun _ => rfl) (fun _ _ ha => readNumber_digits ha)
  | abort l' q =>
    obtain ⟨rfl, _, hq⟩ := asked_eq h
    exact readRequest_line (mk := .abort l') .abort nofun hq (fun _ => rfl) (fun _ _ ha => readNumber_digits ha)
  | orderGet l' q =>
    obtain ⟨rfl, _, hq⟩ := asked_eq h
    exact readRequest_line (mk := .orderGet l') .orderGet nofun hq (fun _ => rfl) (fun _ _ ha => readNumber_digits ha)
  | orderList l' q =>
    obtain ⟨rfl, _, hq⟩ := asked_eq h
    exact readRequest_line (mk := .orderList l') .orderList nofun hq (fun _ => rfl) (fun n _ ha => readMaybe_text n ha)
  | clear l' q =>
    obtain ⟨rfl, _, hq⟩ := asked_eq h
    exact readRequest_line (mk := .clear l') .clear nofun hq (fun _ => rfl) (fun n _ _ => readCarriage_text n)
  | carriageGet l' q =>
    obtain ⟨rfl, _, hq⟩ := asked_eq h
    exact readRequest_line (mk := .carriageGet l') .carriageGet nofun hq (fun _ => rfl) (fun n _ _ => readCarriage_text n)
  | carriageList l' q =>
    obtain ⟨rfl, _, hq⟩ := asked_eq h
    exact readRequest_line (mk := .carriageList l') .carriageList nofun hq (fun _ => rfl) (fun c _ _ => readCorridor_text c)
  | fence l' q =>
    obtain ⟨rfl, _, hq⟩ := asked_eq h
    exact readRequest_line (mk := .fence l') .fence nofun hq (fun _ => rfl) (fun a _ ha => readTrack_text a ha)
  | unfence l' q =>
    obtain ⟨rfl, _, hq⟩ := asked_eq h
    exact readRequest_line (mk := .unfence l') .unfence nofun hq (fun _ => rfl) (fun a _ ha => readTrack_text a ha)
  | segmentGet l' q =>
    obtain ⟨rfl, _, hq⟩ := asked_eq h
    exact readRequest_line (mk := .segmentGet l') .segmentGet nofun hq (fun _ => rfl) (fun a _ ha => readTrack_text a ha)
  | segmentList l' q =>
    obtain ⟨rfl, _, hq⟩ := asked_eq h
    exact readRequest_line (mk := .segmentList l') .segmentList nofun hq (fun _ => rfl) (fun c _ _ => readCorridor_text c)
  | home l' q =>
    obtain ⟨rfl, _, hq⟩ := asked_eq h
    exact readRequest_line (mk := .home l') .home nofun hq (fun _ => rfl) (fun n _ _ => readCarriage_text n)
  | declare l' q =>
    obtain ⟨rfl, _, hq⟩ := asked_eq h
    exact readRequest_line (mk := .declare l') .declare nofun hq (fun _ => rfl) (fun a _ ha => readDeclare_text a ha)
  | gateService l' q =>
    obtain ⟨rfl, _, hq⟩ := asked_eq h
    exact readRequest_line (mk := .gateService l') .gateService nofun hq (fun _ => rfl) (fun a _ ha => readGateService_text a ha)
  | gateGet l' q =>
    obtain ⟨rfl, _, hq⟩ := asked_eq h
    exact readRequest_line (mk := .gateGet l') .gateGet nofun hq (fun _ => rfl) (fun a _ ha => readTrack_text a ha)
  | authorityGet l' q =>
    obtain ⟨rfl, _, hq⟩ := asked_eq h
    exact readRequest_line (mk := .authorityGet l') .authorityGet nofun hq (fun _ => rfl) (fun n _ _ => readCarriage_text n)
  | lineGet l' q =>
    obtain ⟨rfl, _, hq⟩ := asked_eq h
    exact readRequest_line (mk := .lineGet l') .lineGet nofun hq (fun _ => rfl) (fun c _ _ => readCorridor_text c)
  | watch l' q =>
    obtain ⟨rfl, _, hq⟩ := asked_eq h
    exact readRequest_line (mk := .watch l') .watch nofun hq (fun _ => rfl) (fun a _ ha => readWatch_text a ha)
  | fetch l' q =>
    obtain ⟨rfl, _, hq⟩ := asked_eq h
    exact readRequest_line (mk := .fetch l') .fetch nofun hq (fun _ => rfl) (fun n _ ha => readMaybe_text n ha)
  | attention l' q =>
    obtain ⟨rfl, _, hq⟩ := asked_eq h
    exact readRequest_line (mk := .attention l') .attention nofun hq (fun _ => rfl) (fun b _ _ => readAttention_text b)
  | _ => cases h

/-! ## The refusals of an open port -/

/-- An open port answers a line that it does not hand on with the status of its judgement (R175, R176). -/
structure RefusedBy (s : State) (l : LinkId) (w : ReqWord) (ok : Bool) (c : Instr) : Prop where
  form : ok = false → exec c s = .next (s.replied l w (.refuse .badForm))
  portRefusal : ok = true → ∀ st, s.portRefusal l w = some st → exec c s = .next (s.replied l w (.refuse st))

theorem refusedBy_of_judged {α : Type} {s : State} {l : LinkId} (w : ReqWord) {form : α → Bool} {q : Req α} {c : Instr}
    (h : ∀ st, portJudges (s.takeLine l w) l w form q = .inl st →
      exec c s = .next (s.replied l (answeredAs w q) (.refuse st))) :
    RefusedBy s l (answeredAs w q) (q.fields form).isSome c where
  form := by
    intro hok
    refine h .badForm ?_
    rw [Option.isSome_eq_false_iff, Option.isNone_iff_eq_none] at hok
    rw [portJudges, hok]
  portRefusal := by
    intro hok st hst
    obtain ⟨a, rfl, ha⟩ := fields_isSome hok
    refine h st ?_
    have hrefusal : (s.takeLine l w).portRefusal l w = some st := hst
    simp only [portJudges, Req.fields, ha, if_true, hrefusal]

theorem refusedBy_request {α : Type} {s : State} {l : LinkId} (w : ReqWord) {form : α → Bool} {q : Req α} {c : Instr}
    {serve : State → α → Served} (hp : s.powered = true) (ho : (s.link l).outstanding = none)
    (hc : exec c s = .next (request s l w form q serve)) : RefusedBy s l (answeredAs w q) (q.fields form).isSome c := by
  refine refusedBy_of_judged w fun st hst => ?_
  rw [hc]
  simp only [request, hp, ho, hst, Bool.not_true, Bool.false_eq_true, if_false, Option.isSome_none]
  rfl

theorem refusedBy_restart {s : State} {l : LinkId} (q : Req Unit) (pins : Pins) (hp : s.powered = true) (ho : (s.link l).outstanding = none) :
    RefusedBy s l (answeredAs .restart q) (q.fields fun _ => true).isSome (.restart l q pins) := by
  refine refusedBy_of_judged .restart fun st hst => ?_
  have hc : exec (.restart l q pins) s = execRestart l q pins s := rfl
  rw [hc]
  simp only [execRestart, hp, ho, hst, Bool.not_true, Bool.false_eq_true, if_false, Option.isSome_none]
  rfl

/-- Every request row begins with the judgement of its port. -/
theorem refusedBy_of_asked {s : State} {l : LinkId} {c : Instr} {w : ReqWord} {ok : Bool} (hp : s.powered = true)
    (ho : (s.link l).outstanding = none) (h : asked c = some (l, w, ok)) : RefusedBy s l w ok c := by
  cases c <;> cases h
  case restart => exact refusedBy_restart _ _ hp ho
  all_goals exact refusedBy_request _ hp ho rfl

theorem portRefusal_mode {s : State} {l : LinkId} (hm : s.mode = .configuring) : s.portRefusal l .move = some .mode :=
  if_pos ⟨rfl, hm⟩

theorem portRefusal_denied {s : State} {l : LinkId} {w : ReqWord} (hw : ¬ (w = .move ∧ s.mode = .configuring))
    (hmay : s.mayAsk l w = false) : s.portRefusal l w = some .denied := by
  rw [State.portRefusal, if_neg hw, hmay, if_neg Bool.false_ne_true]

/-- Settles O16. -/
theorem portRefusesInOrder : Obligations.PortRefusesInOrder := by
  unfold Obligations.PortRefusesInOrder
  refine ⟨readLine_fields, fun fields => ⟨wordsInPlace_pair fields, wordsInPlace_sole fields⟩, readRequest_eq_none,
    fun l level pins w rest hw => ?_, readRequest_requestText, readNumber_eq_some,
    fun α defs t => (readNamed_ne_none defs t).trans (isWord_iff t), fun s l words hp ho => ?_, fun s l c w ok hp ho h => ?_⟩
  · obtain ⟨ok, hok⟩ := asked_asking l level pins w rest hw
    exact ⟨_, ok, readRequest_words l level pins w rest hw, hok⟩
  · exact (refusedBy_of_asked (c := .status l (.unlisted words)) hp ho rfl).form rfl
  · have hrefused := refusedBy_of_asked hp ho h
    refine ⟨hrefused.form, fun hok hw hm => ?_, fun hok hw hmay => hrefused.portRefusal hok _ (portRefusal_denied hw hmay)⟩
    subst hw
    exact hrefused.portRefusal hok _ (portRefusal_mode hm)

end Sys2Proof.Machine
end

section
/-! PROOFS. The seating of all carriages of a corridor together, and the fences that MODE RUN drops (R11, R93, R94). -/

namespace Sys2Proof.Machine

/-- A change of segment records and of queued notices alone. -/
structure Relayered (s t : State) : Prop where
  fields : t = { s with segments := t.segments, links := t.links }
  ports : ∀ l, t.portStand l = s.portStand l

namespace Relayered

theorem refl (s : State) : Relayered s s := ⟨rfl, fun _ => rfl⟩

theorem trans {s t u : State} (h : Relayered s t) (k : Relayered t u) : Relayered s u :=
  ⟨k.fields.trans (by rw [h.fields]), fun l => (k.ports l).trans (h.ports l)⟩

theorem foldl {α : Type} (f : State → α → State) (hf : ∀ t a, Relayered t (f t a)) (l : List α) (s : State) : Relayered s (l.foldl f s) := by
  induction l generalizing s with
  | nil => exact refl s
  | cons a rest ih => exact (hf s a).trans (ih _)

theorem segments (s : State) (x : Two (Table Segment)) : Relayered s { s with segments := x } := ⟨rfl, fun _ => rfl⟩

theorem modSeg (s : State) (c : Corridor) (k : Nat) (g : Segment → Segment) : Relayered s (s.modSeg c k g) := segments s _

theorem offer (s : State) (o : Offer) : Relayered s (s.offer o) :=
  ⟨by conv => lhs; rw [offer_fields]
      simp only [segments_offer], (Calm.offer s o).ports⟩

theorem setFence (s : State) (c : Corridor) (k : Nat) (f : Fence) : Relayered s (s.setFence c k f) := by
  unfold State.setFence
  split
  · exact (modSeg s c k _).trans (offer _ _)
  · exact refl s

theorem liftFence (s : State) (c : Corridor) (k : Nat) : Relayered s (s.liftFence c k) := by
  unfold State.liftFence
  split
  · exact (modSeg s c k _).trans (offer _ _)
  · exact refl s

theorem clearTrack (s : State) (c : Corridor) : Relayered s (s.clearTrack c) := segments s _

theorem seatWanted (c : Corridor) (s : State) (k : Nat) : Relayered s (State.seatWanted c s k) := by
  unfold State.seatWanted
  split
  · exact refl s
  · exact modSeg s c k _
  · exact setFence s c k _

theorem seatAll (s : State) (c : Corridor) : Relayered s (s.seatAll c) :=
  (clearTrack s c).trans (foldl _ (seatWanted c) _ _)

theorem dropStaleFences (s : State) (c : Corridor) : Relayered s (s.dropStaleFences c) := foldl _ (fun t _ => liftFence t c _) _ s

section
variable {s t : State} (h : Relayered s t)
include h

theorem wanting (c : Corridor) (k : Nat) : t.wanting c k = s.wanting c k := by rw [h.fields]; rfl
theorem layout : t.layout = s.layout := by rw [h.fields]
theorem segsInUse (c : Corridor) : t.segsInUse c = s.segsInUse c := by rw [h.fields]; rfl
theorem car (n : CarriageName) : t.car n = s.car n := by rw [h.fields]; rfl

/-- A mode entered before such a change, or behind it. -/
theorem withMode (m : UnitMode) : Relayered { s with mode := m } { t with mode := m } :=
  ⟨by conv => lhs; rw [h.fields], h.ports⟩

theorem calm : Calm s t where
  still := by rw [h.fields]; rfl
  lanes := fun n => by rw [h.fields]; rfl
  ports := h.ports
  cars := fun n => by rw [h.car]
  orders := by rw [h.fields]

end

end Relayered

/-! ## What a seating makes of a segment -/

/-- A segment record seated for the carriages that want it (R11, R93): one stands on it, two fence it. -/
def Segment.seatedFor (g : Segment) : List CarriageName → Segment
  | [] => g
  | [n] => { g with standing := some n }
  | _ :: _ :: _ => { g with fence := some (g.fence.getD (.auto .restartOverlap)) }

theorem Segment.seatedFor_seatedFor (g : Segment) (l : List CarriageName) : (g.seatedFor l).seatedFor l = g.seatedFor l := by
  match l with
  | [] => rfl
  | [n] => rfl
  | _ :: _ :: _ => rfl

theorem Segment.seatedFor_running (g : Segment) (l : List CarriageName) : (g.seatedFor l).running = g.running := by
  match l with
  | [] => rfl
  | [n] => rfl
  | _ :: _ :: _ => rfl

theorem Segment.seatedFor_waiting (g : Segment) (l : List CarriageName) : (g.seatedFor l).waiting = g.waiting := by
  match l with
  | [] => rfl
  | [n] => rfl
  | _ :: _ :: _ => rfl

theorem seg_seatWanted (c : Corridor) (s : State) (k : Nat) (d : Corridor) (j : Nat) :
    (State.seatWanted c s k).seg d j = if d = c ∧ j = k then (s.seg c k).seatedFor (s.wanting c k) else s.seg d j := by
  unfold State.seatWanted
  split
  next h =>
    rw [h]
    split
    next hdj => rw [hdj.1, hdj.2]; rfl
    next => rfl
  next n h => rw [h]; exact State.seg_modSeg s c d k j _
  next h => rw [h]; exact seg_setFence s c d k j _

theorem seg_foldl_seatWanted (c : Corridor) (l : List Nat) (s : State) (d : Corridor) (j : Nat) :
    (l.foldl (State.seatWanted c) s).seg d j =
      if d = c ∧ j ∈ l then (s.seg c j).seatedFor (s.wanting c j) else s.seg d j := by
  induction l generalizing s with
  | nil => simp
  | cons k rest ih =>
    have hrel := Relayered.seatWanted c s k
    rw [List.foldl_cons, ih, hrel.wanting, seg_seatWanted, seg_seatWanted]
    by_cases hd : d = c
    · subst hd
      by_cases hj : j = k
      · subst hj
        simp [Segment.seatedFor_seatedFor]
      · simp [hj]
    · simp [hd]

/-- A segment record with its layers and waiting set cleared (R93, R94). -/
def Segment.cleared (g : Segment) : Segment := { g with running := none, standing := none, waiting := [] }

theorem seg_clearTrack (s : State) (c d : Corridor) (k : Nat) :
    (s.clearTrack c).seg d k = if d = c then (s.seg d k).cleared else s.seg d k :=
  State.seg_mapSegs s c d k Segment.cleared rfl

/-- The segment records after the seating of a corridor. -/
theorem seg_seatAll (s : State) (c d : Corridor) (k : Nat) :
    (s.seatAll c).seg d k =
      if d = c then (if k ∈ s.segsInUse c then (s.seg c k).cleared.seatedFor (s.wanting c k) else (s.seg c k).cleared) else s.seg d k := by
  have hrel := Relayered.clearTrack s c
  rw [State.seatAll, seg_foldl_seatWanted, hrel.wanting, seg_clearTrack, seg_clearTrack, if_pos rfl]
  by_cases hd : d = c
  · subst hd
    simp only [true_and, if_true]
  · simp only [hd, false_and, if_false]

/-! ## Stale fences -/

theorem seg_liftFence (s : State) (c d : Corridor) (k j : Nat) :
    (s.liftFence c k).seg d j = if d = c ∧ j = k then { s.seg c k with fence := none } else s.seg d j := by
  unfold State.liftFence
  split
  next f h => rw [State.offerFence, State.seg_of_segments (segments_offer _ _), State.seg_modSeg]
  next h =>
    split
    next hdj => rw [hdj.1, hdj.2, ← h]
    next => rfl

theorem seg_foldl_liftFence (c : Corridor) (l : List Nat) (s : State) (d : Corridor) (j : Nat) :
    (l.foldl (fun t k => t.liftFence c k) s).seg d j = if d = c ∧ j ∈ l then { s.seg c j with fence := none } else s.seg d j := by
  induction l generalizing s with
  | nil => simp
  | cons k rest ih =>
    rw [List.foldl_cons, ih, seg_liftFence, seg_liftFence]
    by_cases hd : d = c
    · subst hd
      by_cases hj : j = k
      · subst hj; simp
      · simp [hj]
    · simp [hd]

/-- The numbers of the records at or beyond the segment count that are fenced. -/
theorem seg_dropStaleFences (s : State) (c d : Corridor) (k : Nat) :
    (s.dropStaleFences c).seg d k =
      if d = c ∧ s.layout.segCount c ≤ k then { s.seg d k with fence := none } else s.seg d k := by
  have hfold : s.dropStaleFences c = ((((s.segments.get c).entries.filter fun e =>
      e.2.fence.isSome && decide (s.layout.segCount c ≤ e.1)).map (·.1)).foldl (fun t k => t.liftFence c k) s) := by
    rw [State.dropStaleFences, List.foldl_map]
  rw [hfold, seg_foldl_liftFence]
  by_cases hd : d = c
  · subst hd
    by_cases hk : s.layout.segCount d ≤ k
    · rw [if_pos (show d = d ∧ _ from ⟨rfl, hk⟩)]
      split
      · rfl
      next hnot =>
        have hfence : (s.seg d k).fence = none := by
          refine Classical.byContradiction fun hf => ?_
          refine hnot ⟨rfl, List.mem_map.2 ⟨(k, s.seg d k), List.mem_filter.2 ⟨?_, by simp [Option.isSome_iff_ne_none.2 hf, hk]⟩, rfl⟩⟩
          cases hget : (s.segments.get d).get? k with
          | none =>
            have hblank : s.seg d k = Segment.blank := by rw [State.seg, hget]; rfl
            exact absurd (by rw [hblank]; rfl) hf
          | some v =>
            have hseg : s.seg d k = v := by rw [State.seg, hget]; rfl
            rw [hseg]
            exact mem_entries_of_get? _ _ _ hget
        rw [← hfence]
    · rw [if_neg (show ¬ (d = d ∧ s.layout.segCount d ≤ k) from fun h => hk h.2)]
      refine if_neg ?_
      rintro ⟨_, hmem⟩
      obtain ⟨e, he, rfl⟩ := List.mem_map.1 hmem
      simp only [List.mem_filter, Bool.and_eq_true, decide_eq_true_eq] at he
      exact hk he.2.2
  · simp only [hd, false_and, if_false]

end Sys2Proof.Machine
end

section
/-! PROOFS. The consistency check (R8), condition by condition. -/

namespace Sys2Proof.Machine

/-- One condition of the check: it answers the item it names where the condition fails, and nothing where it holds. -/
structure Judges (p : Prop) (names : ItemName → Prop) (r : Option ItemName) : Prop where
  fails : ¬ p → ∃ i, r = some i ∧ names i
  holds : p → r = none

theorem Judges.of_cases {p : Prop} {names : ItemName → Prop} {r : Option ItemName} (hnone : r = none → p)
    (hsome : ∀ i, r = some i → ¬ p ∧ names i) : Judges p names r := by
  cases hr : r with
  | none => exact ⟨fun hp => absurd (hnone hr) hp, fun _ => rfl⟩
  | some i => exact ⟨fun _ => ⟨i, rfl, (hsome i hr).2⟩, fun hp => absurd hp (hsome i hr).1⟩

theorem FirstFailing.cons {p : Prop} {names : ItemName → Prop} {r q : Option ItemName} {rest : List (Prop × (ItemName → Prop))}
    (h : Judges p names r) (hrest : FirstFailing rest q) : FirstFailing ((p, names) :: rest) (r <|> q) := by
  refine ⟨fun hp => ?_, fun hp => ?_⟩
  · obtain ⟨i, hi, hn⟩ := h.fails hp
    exact ⟨i, by rw [hi]; rfl, hn⟩
  · rw [h.holds hp]
    exact hrest

theorem FirstFailing.last {p : Prop} {names : ItemName → Prop} {r : Option ItemName} (h : Judges p names r) :
    FirstFailing [(p, names)] r :=
  ⟨h.fails, h.holds⟩

/-! ## What is taken corridor by corridor, F before T -/

theorem corridor_forall {p : Corridor → Prop} : (∀ c, p c) ↔ p .f ∧ p .t :=
  ⟨fun h => ⟨h .f, h .t⟩, fun h c => match c with | .f => h.1 | .t => h.2⟩

/-- A condition asked of both corridors: the item named is that of F, or of T where F meets the condition. -/
theorem judges_corridors {p : Corridor → Prop} {names : Corridor → ItemName → Prop} {r : Corridor → Option ItemName}
    (h : ∀ c, Judges (p c) (names c) (r c)) :
    Judges (∀ c, p c) (fun i => ∃ c, ¬ p c ∧ (c = .t → p .f) ∧ names c i) (Corridor.all.findSome? r) := by
  have hall : Corridor.all.findSome? r = (r .f <|> r .t) := by
    cases hf : r .f <;> cases ht : r .t <;> simp [Corridor.all, hf, ht]
  rw [hall]
  by_cases hf : p .f
  · rw [(h .f).holds hf]
    refine ⟨fun hp => ?_, fun hp => (h .t).holds (hp .t)⟩
    have ht : ¬ p .t := fun ht => hp (corridor_forall.2 ⟨hf, ht⟩)
    obtain ⟨i, hi, hn⟩ := (h .t).fails ht
    exact ⟨i, hi, .t, ht, fun _ => hf, hn⟩
  · obtain ⟨i, hi, hn⟩ := (h .f).fails hf
    rw [hi]
    exact ⟨fun _ => ⟨i, rfl, .f, hf, nofun, hn⟩, fun hp => absurd (hp .f) hf⟩

theorem Judges.weaken {p : Prop} {names names' : ItemName → Prop} {r : Option ItemName} (h : Judges p names r)
    (hn : ∀ i, names i → names' i) : Judges p names' r :=
  ⟨fun hp => (h.fails hp).imp fun i hi => ⟨hi.1, hn i hi.2⟩, h.holds⟩

/-- The first of the numbers below a bound that fails a test. -/
theorem find?_range_eq_some {q : Nat → Bool} {n k : Nat} (h : (List.range n).find? q = some k) :
    k < n ∧ q k = true ∧ ∀ j, j < k → q j = false := by
  rw [List.find?_range_eq_some] at h
  obtain ⟨hq, hk, hj⟩ := h
  exact ⟨by simpa using hk, hq, fun j hlt => by simpa using hj j hlt⟩

theorem find?_range_eq_none {q : Nat → Bool} {n : Nat} (h : (List.range n).find? q = none) : ∀ j, j < n → q j = false := by
  intro j hj
  simpa using List.find?_eq_none.1 h j (List.mem_range.2 hj)

/-! ## Conditions 1 to 4: lengths, segments, gates and inputs -/

theorem judges_lengths (s : State) : Judges (∀ c, s.layout.length.get c ≠ none)
    (fun i => ∃ c, i = .corridor c ∧ s.layout.length.get c = none ∧ (c = .t → s.layout.length.get .f ≠ none)) s.check1 := by
  cases hf : s.layout.length.get .f with
  | none =>
    have hcheck : s.check1 = some (.corridor .f) := by simp [State.check1, Corridor.all, hf]
    rw [hcheck]
    exact ⟨fun _ => ⟨_, rfl, .f, rfl, hf, nofun⟩, fun h => absurd hf (h .f)⟩
  | some e =>
    cases ht : s.layout.length.get .t with
    | none =>
      have hcheck : s.check1 = some (.corridor .t) := by simp [State.check1, Corridor.all, hf, ht]
      rw [hcheck]
      exact ⟨fun _ => ⟨_, rfl, .t, rfl, ht, fun _ => Option.some_ne_none e⟩, fun h => absurd ht (h .t)⟩
    | some d =>
      have hcheck : s.check1 = none := by simp [State.check1, Corridor.all, hf, ht]
      rw [hcheck]
      exact ⟨fun h => absurd (corridor_forall.2 ⟨by rw [hf]; exact Option.some_ne_none e, by rw [ht]; exact Option.some_ne_none d⟩) h, fun _ => rfl⟩

theorem segSum_eq (s : State) (c : Corridor) : s.segSum c = ((s.layout.segments.get c).entries.map (·.2)).sum := by
  rw [State.segSum, List.sum_eq_foldl, List.foldl_map]

theorem judges_segmentsOn (s : State) (c : Corridor) : Judges (SegmentsFit s c)
    (fun i => (i = .corridor c ∧ ∀ k, k < s.layout.segCount c → s.segInUse c k = true) ∨
      ∃ k, i = .segment c k ∧ k < s.layout.segCount c ∧ s.segInUse c k = false ∧ ∀ j, j < k → s.segInUse c j = true) (s.check2On c) := by
  cases hfind : (List.range (s.layout.segCount c)).find? fun k => !s.segInUse c k with
  | some k =>
    obtain ⟨hk, hnot, hbefore⟩ := find?_range_eq_some hfind
    have hunused : s.segInUse c k = false := by simpa using hnot
    have hcheck : s.check2On c = some (.segment c k) := by simp only [State.check2On, hfind]
    rw [hcheck]
    exact ⟨fun _ => ⟨_, rfl, .inr ⟨k, rfl, hk, hunused, fun j hj => by simpa using hbefore j hj⟩⟩,
      fun h => absurd (h.1 k hk) (by rw [hunused]; decide)⟩
  | none =>
    have hused : ∀ k, k < s.layout.segCount c → s.segInUse c k = true := fun k hk => by simpa using find?_range_eq_none hfind k hk
    have hcheck : s.check2On c =
        if s.layout.segCount c < 2 ∨ some (s.segSum c) ≠ s.layout.length.get c then some (.corridor c) else none := by
      simp only [State.check2On, hfind]
    rw [hcheck, segSum_eq]
    split
    next hbad =>
      refine ⟨fun _ => ⟨_, rfl, .inl ⟨rfl, hused⟩⟩, fun h => ?_⟩
      exact hbad.elim (fun hc => absurd h.2.1 (by omega)) fun hl => absurd h.2.2.symm hl
    next hgood =>
      rw [not_or, Classical.not_not] at hgood
      exact ⟨fun h => absurd ⟨hused, by omega, hgood.2.symm⟩ h, fun _ => rfl⟩

theorem judges_segments (s : State) : Judges (∀ c, SegmentsFit s c)
    (fun i => ∃ c, ¬ SegmentsFit s c ∧ (c = .t → SegmentsFit s .f) ∧
      ((i = .corridor c ∧ ∀ k, k < s.layout.segCount c → s.segInUse c k = true) ∨
        ∃ k, i = .segment c k ∧ k < s.layout.segCount c ∧ s.segInUse c k = false ∧ ∀ j, j < k → s.segInUse c j = true)) s.check2 :=
  judges_corridors (judges_segmentsOn s)

/-- What a failed gate condition names on a corridor: the first index without a gate, or the first gate beyond the segment count. -/
def NamesGate (s : State) (c : Corridor) (k : Nat) : Prop :=
  (k ≤ s.layout.segCount c ∧ s.gateInput c k = none ∧ ∀ j, j < k → s.gateInput c j ≠ none) ∨
    (s.layout.segCount c < k ∧ (∀ j, j ≤ s.layout.segCount c → s.gateInput c j ≠ none) ∧
      ∃ pre input post, (s.layout.gates.get c).entries = pre ++ (k, input) :: post ∧ ∀ e ∈ pre, e.1 ≤ s.layout.segCount c)

theorem judges_gatesOn (s : State) (c : Corridor) : Judges (GatesFit s c) (fun i => ∃ k, i = .gate c k ∧ NamesGate s c k) (s.check3On c) := by
  have hkeys : ∀ k, k ∈ (s.layout.gates.get c).keys ↔ s.gateInput c k ≠ none := mem_keys _
  cases hfind : (List.range (s.layout.segCount c + 1)).find? fun k => (s.gateInput c k).isNone with
  | some k =>
    obtain ⟨hk, hnone, hbefore⟩ := find?_range_eq_some hfind
    have habsent : s.gateInput c k = none := by simpa using hnone
    have hcheck : s.check3On c = some (.gate c k) := by simp only [State.check3On, hfind]
    rw [hcheck]
    refine ⟨fun _ => ⟨_, rfl, k, rfl, .inl ⟨by omega, habsent, fun j hj => Option.isSome_iff_ne_none.1 (by simpa using hbefore j hj)⟩⟩,
      fun h => ?_⟩
    exact absurd habsent ((h k).2 (by omega))
  | none =>
    have hthere : ∀ j, j ≤ s.layout.segCount c → s.gateInput c j ≠ none := fun j hj =>
      Option.isSome_iff_ne_none.1 (by simpa using find?_range_eq_none hfind j (by omega))
    have hcheck : s.check3On c = ((s.layout.gates.get c).keys.find? fun k => decide (s.layout.segCount c < k)).map (.gate c) := by
      simp only [State.check3On, hfind]
    rw [hcheck]
    cases hbeyond : (s.layout.gates.get c).keys.find? fun k => decide (s.layout.segCount c < k) with
    | none =>
      refine ⟨fun h => absurd (fun k => ⟨fun hk => ?_, hthere k⟩) h, fun _ => rfl⟩
      simpa using List.find?_eq_none.1 hbeyond k ((hkeys k).2 hk)
    | some k =>
      have hin := List.mem_of_find?_eq_some hbeyond
      have hk : s.layout.segCount c < k := by simpa using List.find?_some hbeyond
      refine ⟨fun _ => ⟨_, rfl, k, rfl, .inr ⟨hk, hthere, ?_⟩⟩, fun h => absurd ((h k).1 ((hkeys k).1 hin)) (by omega)⟩
      rw [Table.keys, List.find?_map, Option.map_eq_some_iff] at hbeyond
      obtain ⟨⟨k', input⟩, he, rfl⟩ := hbeyond
      obtain ⟨_, pre, post, hsplit, hpre⟩ := List.find?_eq_some_iff_append.1 he
      exact ⟨pre, input, post, hsplit, fun e hmem => by simpa using hpre e hmem⟩

theorem judges_gates (s : State) : Judges (∀ c, GatesFit s c)
    (fun i => ∃ c k, i = .gate c k ∧ (c = .t → GatesFit s .f) ∧ NamesGate s c k) s.check3 :=
  (judges_corridors (judges_gatesOn s)).weaken fun _ ⟨c, _, hf, k, hi, hn⟩ => ⟨c, k, hi, hf, hn⟩

/-- No input is repeated, neither in the list nor from those seen before it. -/
theorem firstRepeated_none {seen : List Nat} {l : List ((Corridor × Nat) × Nat)} (h : State.firstRepeated seen l = none) :
    (l.map (·.2)).Nodup ∧ ∀ x ∈ l.map (·.2), x ∉ seen := by
  induction l generalizing seen with
  | nil => exact ⟨List.nodup_nil, nofun⟩
  | cons e rest ih =>
    obtain ⟨g, i⟩ := e
    rw [State.firstRepeated] at h
    split at h
    next => cases h
    next hseen =>
      have hi : i ∉ seen := by simpa using hseen
      obtain ⟨hnodup, hfresh⟩ := ih h
      refine ⟨List.nodup_cons.2 ⟨fun hin => hfresh i hin List.mem_cons_self, hnodup⟩, fun x hx => ?_⟩
      rcases List.mem_cons.1 hx with rfl | hx
      · exact hi
      · exact fun hs => hfresh x hx (List.mem_cons_of_mem _ hs)

/-- The gate named uses an input seen before it, and no gate before it does. -/
theorem firstRepeated_some {seen : List Nat} {l : List ((Corridor × Nat) × Nat)} {g : Corridor × Nat}
    (h : State.firstRepeated seen l = some g) : ∃ input pre post, l = pre ++ (g, input) :: post ∧ (pre.map (·.2)).Nodup ∧
      (∀ x ∈ pre.map (·.2), x ∉ seen) ∧ (input ∈ pre.map (·.2) ∨ input ∈ seen) := by
  induction l generalizing seen with
  | nil => cases h
  | cons e rest ih =>
    obtain ⟨g', i⟩ := e
    rw [State.firstRepeated] at h
    split at h
    next hseen =>
      cases h
      exact ⟨i, [], rest, rfl, List.nodup_nil, nofun, .inr (by simpa using hseen)⟩
    next hseen =>
      have hi : i ∉ seen := by simpa using hseen
      obtain ⟨input, pre, post, rfl, hnodup, hfresh, hin⟩ := ih h
      refine ⟨input, (g', i) :: pre, post, rfl, List.nodup_cons.2 ⟨fun hmem => hfresh i hmem List.mem_cons_self, hnodup⟩, fun x hx => ?_, ?_⟩
      · rcases List.mem_cons.1 hx with rfl | hx
        · exact hi
        · exact fun hs => hfresh x hx (List.mem_cons_of_mem _ hs)
      · rcases hin with hin | hin
        · exact .inl (List.mem_cons_of_mem _ hin)
        · rcases List.mem_cons.1 hin with rfl | hin
          · exact .inl List.mem_cons_self
          · exact .inr hin

theorem judges_inputs (s : State) : Judges ((gateList s).map (·.2)).Nodup
    (fun i => ∃ c k input pre post, i = .gate c k ∧ gateList s = pre ++ ((c, k), input) :: post ∧ (pre.map (·.2)).Nodup ∧
      input ∈ pre.map (·.2)) s.check4 := by
  have hall : s.allGates = gateList s := by simp [State.allGates, gateList, Corridor.all]
  have hcheck : s.check4 = (State.firstRepeated [] (gateList s)).map fun g => .gate g.1 g.2 := by rw [State.check4, hall]
  rw [hcheck]
  cases hrep : State.firstRepeated [] (gateList s) with
  | none => exact ⟨fun h => absurd (firstRepeated_none hrep).1 h, fun _ => rfl⟩
  | some g =>
    obtain ⟨input, pre, post, hsplit, hnodup, _, hin⟩ := firstRepeated_some hrep
    have hin' : input ∈ pre.map (·.2) := hin.resolve_right nofun
    refine ⟨fun _ => ⟨_, rfl, g.1, g.2, input, pre, post, rfl, hsplit, hnodup, hin'⟩, fun h => ?_⟩
    rw [hsplit, List.map_append, List.map_cons] at h
    exact absurd rfl ((List.nodup_append.1 h).2.2 _ hin' _ List.mem_cons_self)

end Sys2Proof.Machine
end

section
/-! PROOFS. The consistency check (R8): mouths, lanes, benches, carriages and links. -/

namespace Sys2Proof.Machine

/-! ## Condition 5: the mouths -/

theorem mem_carsOf (s : State) (c : Corridor) (x : CarriageName) : x ∈ s.carsOf c ↔ x.corridor = c ∧ s.item x ≠ none := by
  have hname : x ∈ c.carriages ↔ x.corridor = c := by cases x <;> cases c <;> decide
  rw [State.carsOf, List.mem_filter, hname, State.hasRecord, Option.isSome_iff_ne_none]

theorem badMouth_iff (s : State) (n : Nat) (c : Corridor) : s.badMouth n c = true ↔ ¬ MouthFits s n c := by
  unfold State.badMouth MouthFits
  cases hm : s.mouth n c with
  | none => simp
  | some m =>
    cases he : s.layout.length.get c with
    | none => simp
    | some e =>
      have hcars : ((s.carsOf c).any fun x => match s.item x with
          | some it => decide (e < m.dock + it.length)
          | none => false) = true ↔ ¬ ∀ x it, x.corridor = c → s.item x = some it → m.dock + it.length ≤ e := by
        rw [List.any_eq_true]
        simp only [Classical.not_forall, exists_prop, Nat.not_le]
        constructor
        · rintro ⟨x, hx, hpast⟩
          obtain ⟨hc, hitem⟩ := (mem_carsOf s c x).1 hx
          obtain ⟨it, hit⟩ := Option.ne_none_iff_exists'.1 hitem
          rw [hit] at hpast
          exact ⟨x, it, hc, hit, by simpa using hpast⟩
        · rintro ⟨x, it, hc, hit, hpast⟩
          refine ⟨x, (mem_carsOf s c x).2 ⟨hc, by rw [hit]; exact Option.some_ne_none it⟩, ?_⟩
          rw [hit]
          exact decide_eq_true hpast
      simp only [Option.some.injEq, forall_eq', exists_eq_left', Bool.or_eq_true, Option.isNone_iff_eq_none, Classical.not_and_iff_not_or_not, Classical.not_not]
      exact or_congr_right hcars

theorem mem_laneNumbers (n : Nat) : n ∈ State.laneNumbers ↔ 1 ≤ n ∧ n ≤ 120 := by
  simp only [State.laneNumbers, List.mem_map, List.mem_range]
  constructor
  · rintro ⟨i, hi, rfl⟩; omega
  · exact fun h => ⟨n - 1, by omega, by omega⟩

/-- The lane numbers before one of them are the lower ones. -/
theorem mem_of_laneNumbers_split {pre post : List Nat} {n : Nat} (h : State.laneNumbers = pre ++ n :: post) (m : Nat) :
    1 ≤ m → m < n → m ∈ pre := by
  intro hm hlt
  have hsorted : State.laneNumbers.Pairwise (· < ·) := by
    rw [State.laneNumbers, List.pairwise_map]
    exact (List.pairwise_lt_range (n := 120)).imp fun hab => by omega
  have hn : n ∈ State.laneNumbers := by rw [h]; simp
  have hin : m ∈ State.laneNumbers := (mem_laneNumbers m).2 ⟨hm, by have := (mem_laneNumbers n).1 hn; omega⟩
  rw [h] at hin hsorted
  rcases List.mem_append.1 hin with hpre | hpost
  · exact hpre
  · rcases List.mem_cons.1 hpost with rfl | hpost
    · exact absurd hlt (Nat.lt_irrefl _)
    · have := (List.pairwise_cons.1 (List.pairwise_append.1 hsorted).2.1).1 m hpost
      omega

theorem judges_mouthsOf (s : State) (n : Nat) : Judges (∀ c, MouthFits s n c)
    (fun i => ∃ c, i = .mouth n c ∧ ¬ MouthFits s n c ∧ (c = .t → MouthFits s n .f))
    ((Corridor.all.find? fun c => s.badMouth n c).map (.mouth n)) := by
  by_cases hf : MouthFits s n .f
  · have hgood : s.badMouth n .f = false := Bool.eq_false_iff.2 fun h => (badMouth_iff s n .f).1 h hf
    by_cases ht : MouthFits s n .t
    · have hgood' : s.badMouth n .t = false := Bool.eq_false_iff.2 fun h => (badMouth_iff s n .t).1 h ht
      exact ⟨fun h => absurd (corridor_forall.2 ⟨hf, ht⟩) h, fun _ => by simp [Corridor.all, hgood, hgood']⟩
    · have hbad := (badMouth_iff s n .t).2 ht
      exact ⟨fun _ => ⟨.mouth n .t, by simp [Corridor.all, hgood, hbad], .t, rfl, ht, fun _ => hf⟩, fun h => absurd (h .t) ht⟩
  · have hbad := (badMouth_iff s n .f).2 hf
    exact ⟨fun _ => ⟨.mouth n .f, by simp [Corridor.all, hbad], .f, rfl, hf, nofun⟩, fun h => absurd (h .f) hf⟩

theorem judges_mouths (s : State) : Judges (∀ n, 1 ≤ n → n ≤ 120 → ∀ c, MouthFits s n c)
    (fun i => ∃ n c, i = .mouth n c ∧ 1 ≤ n ∧ n ≤ 120 ∧ ¬ MouthFits s n c ∧ (c = .t → MouthFits s n .f) ∧
      ∀ m, 1 ≤ m → m < n → ∀ d, MouthFits s m d) s.check5 := by
  refine .of_cases (fun h n h1 h2 => ?_) fun i h => ?_
  · have hnone := List.findSome?_eq_none_iff.1 h n ((mem_laneNumbers n).2 ⟨h1, h2⟩)
    refine Classical.byContradiction fun hbad => ?_
    obtain ⟨i, hi, _⟩ := (judges_mouthsOf s n).fails hbad
    rw [hi] at hnone
    cases hnone
  · obtain ⟨pre, n, post, hsplit, hi, hpre⟩ := List.findSome?_eq_some_iff.1 h
    obtain ⟨h1, h2⟩ := (mem_laneNumbers n).1 (by rw [hsplit]; simp)
    have hgood : ∀ m ∈ pre, ∀ d, MouthFits s m d := by
      intro m hm
      refine Classical.byContradiction fun hbad => ?_
      obtain ⟨j, hj, _⟩ := (judges_mouthsOf s m).fails hbad
      rw [hpre m hm] at hj
      cases hj
    have hbad : ¬ ∀ c, MouthFits s n c := fun hfit => by
      rw [(judges_mouthsOf s n).holds hfit] at hi
      cases hi
    obtain ⟨j, hj, c, rfl, hc, hf⟩ := (judges_mouthsOf s n).fails hbad
    rw [hi] at hj
    cases hj
    exact ⟨fun hall => hc (hall n h1 h2 c), n, c, rfl, h1, h2, hc, hf, fun m hm hlt => hgood m (mem_of_laneNumbers_split hsplit m hm hlt)⟩

/-! ## Conditions 6 and 7: the lanes -/

/-- A test of every LANE item: the first that fails it is named. -/
theorem judges_lanes (s : State) {p : Nat → LaneItem → Prop} (bad : Nat → LaneItem → Bool) (hbad : ∀ n it, bad n it = true ↔ ¬ p n it) :
    Judges (∀ e ∈ s.layout.lanes.entries, p e.1 e.2)
      (fun i => ∃ pre e post, s.layout.lanes.entries = pre ++ e :: post ∧ i = .lane e.1 ∧ ¬ p e.1 e.2 ∧ ∀ d ∈ pre, p d.1 d.2)
      ((s.layout.lanes.entries.find? fun e => bad e.1 e.2).map fun e => .lane e.1) := by
  refine .of_cases (fun h e he => ?_) fun i h => ?_
  · have hgood := List.find?_eq_none.1 (Option.map_eq_none_iff.1 h) e he
    exact Classical.not_not.1 fun hp => hgood ((hbad _ _).2 hp)
  · obtain ⟨e, he, rfl⟩ := Option.map_eq_some_iff.1 h
    obtain ⟨hfail, pre, post, hsplit, hpre⟩ := List.find?_eq_some_iff_append.1 he
    have hp := (hbad _ _).1 hfail
    refine ⟨fun hall => hp (hall e (by rw [hsplit]; simp)), pre, e, post, hsplit, rfl, hp, fun d hd => ?_⟩
    have hgood := hpre d hd
    exact Classical.not_not.1 fun hnot => by simp [(hbad _ _).2 hnot] at hgood

theorem mouthsFit_iff (s : State) (n : Nat) (it : LaneItem) : s.mouthsFit n it = true ↔ LaneMouthsFit s n it := by
  unfold State.mouthsFit LaneMouthsFit
  by_cases hk : it.kind = .bay
  · simp only [hk, if_true, Bool.and_eq_true, Option.isSome_iff_ne_none]
  · simp only [hk, if_false]
    cases s.mouth n .f <;> cases s.mouth n .t <;> simp

/-! ## Conditions 8 and 9: the benches -/

theorem straddlesNowhere_iff (s : State) (n : Nat) : s.straddlesNowhere n = true ↔
    ¬ ∀ e ∈ s.benches.entries, ∀ x c, e.2.place = .straddling x n c → s.laneItem n ≠ none ∧ s.mouth n x.corridor ≠ none := by
  rw [State.straddlesNowhere, List.any_eq_true]
  simp only [Classical.not_forall, exists_prop, not_and, Classical.not_not, ne_eq]
  refine exists_congr fun e => and_congr_right fun _ => ?_
  constructor
  · intro h
    split at h
    next x l c hplace =>
      simp only [Bool.and_eq_true, decide_eq_true_eq, Bool.or_eq_true, Option.isNone_iff_eq_none] at h
      obtain ⟨rfl, habsent⟩ := h
      exact ⟨x, c, hplace, fun hlane => habsent.resolve_left hlane⟩
    next => cases h
  · rintro ⟨x, c, hplace, habsent⟩
    rw [hplace]
    simp only [Bool.and_eq_true, decide_eq_true_eq, true_and, Bool.or_eq_true, Option.isNone_iff_eq_none]
    exact Classical.or_iff_not_imp_left.2 habsent

theorem benchesFindLane_iff (s : State) (n : Nat) :
    ((!(s.lane n).benches.isEmpty && (s.laneItem n).isNone) || s.straddlesNowhere n) = true ↔ ¬ BenchesFindLane s n := by
  rw [Bool.or_eq_true, straddlesNowhere_iff, BenchesFindLane, Classical.not_and_iff_not_or_not]
  refine or_congr_left ?_
  rw [Bool.and_eq_true, Bool.not_eq_true', List.isEmpty_eq_false_iff, Option.isNone_iff_eq_none, Classical.not_imp, Classical.not_not]

theorem judges_benchLanes (s : State) : Judges (∀ n, 1 ≤ n → n ≤ 120 → BenchesFindLane s n)
    (fun i => ∃ n, i = .lane n ∧ 1 ≤ n ∧ n ≤ 120 ∧ ¬ BenchesFindLane s n ∧ ∀ m, 1 ≤ m → m < n → BenchesFindLane s m) s.check8 := by
  refine .of_cases (fun h n h1 h2 => ?_) fun i h => ?_
  · have hgood := List.find?_eq_none.1 (Option.map_eq_none_iff.1 h) n ((mem_laneNumbers n).2 ⟨h1, h2⟩)
    exact Classical.not_not.1 fun hp => hgood ((benchesFindLane_iff s n).2 hp)
  · obtain ⟨n, hn, rfl⟩ := Option.map_eq_some_iff.1 h
    obtain ⟨hfail, pre, post, hsplit, hpre⟩ := List.find?_eq_some_iff_append.1 hn
    obtain ⟨h1, h2⟩ := (mem_laneNumbers n).1 (by rw [hsplit]; simp)
    have hp := (benchesFindLane_iff s n).1 hfail
    refine ⟨fun hall => hp (hall n h1 h2), n, rfl, h1, h2, hp, fun m hm hlt => ?_⟩
    have hgood := hpre m (mem_of_laneNumbers_split hsplit m hm hlt)
    rw [Bool.not_eq_true'] at hgood
    exact Classical.not_not.1 fun hnot => Bool.eq_false_iff.1 hgood ((benchesFindLane_iff s m).2 hnot)

theorem benchOn_iff (s : State) (x : CarriageName) : s.benchOn x = true ↔
    ∃ e ∈ s.benches.entries, e.2.place = .aboard x ∨ ∃ l c, e.2.place = .straddling x l c := by
  rw [State.benchOn, List.any_eq_true]
  refine exists_congr fun e => and_congr_right fun _ => ?_
  cases hplace : e.2.place <;> simp [eq_comm]

theorem benchesFindCarriage_iff (s : State) (x : CarriageName) : (s.benchOn x && (s.item x).isNone) = true ↔ ¬ BenchesFindCarriage s x := by
  rw [Bool.and_eq_true, benchOn_iff, Option.isNone_iff_eq_none, BenchesFindCarriage]
  simp only [Classical.not_forall, exists_prop, Classical.not_not, ne_eq]
  constructor
  · rintro ⟨⟨e, he, hplace⟩, hitem⟩; exact ⟨e, he, hplace, hitem⟩
  · rintro ⟨e, he, hplace, hitem⟩; exact ⟨⟨e, he, hplace⟩, hitem⟩

theorem judges_benchCarriages (s : State) : Judges (∀ x, BenchesFindCarriage s x)
    (fun i => ∃ x pre post, i = .carriage x ∧ ¬ BenchesFindCarriage s x ∧ CarriageName.all = pre ++ x :: post ∧
      ∀ y ∈ pre, BenchesFindCarriage s y) s.check9 := by
  have hall : ∀ x, x ∈ CarriageName.all := fun x => by cases x <;> decide
  refine .of_cases (fun h x => ?_) fun i h => ?_
  · have hgood := List.find?_eq_none.1 (Option.map_eq_none_iff.1 h) x (hall x)
    exact Classical.not_not.1 fun hp => hgood ((benchesFindCarriage_iff s x).2 hp)
  · obtain ⟨x, hx, rfl⟩ := Option.map_eq_some_iff.1 h
    obtain ⟨hfail, pre, post, hsplit, hpre⟩ := List.find?_eq_some_iff_append.1 hx
    have hp := (benchesFindCarriage_iff s x).1 hfail
    refine ⟨fun hgood => hp (hgood x), x, pre, post, rfl, hp, hsplit, fun y hy => ?_⟩
    have hgood := hpre y hy
    rw [Bool.not_eq_true'] at hgood
    exact Classical.not_not.1 fun hnot => Bool.eq_false_iff.1 hgood ((benchesFindCarriage_iff s y).2 hnot)

/-! ## Condition 10: the carriages -/

theorem carriage_exists {p : CarriageName → Prop} : (∃ x, p x) ↔ p .f1 ∨ p .f2 ∨ p .f3 ∨ p .t1 ∨ p .t2 ∨ p .t3 := by
  constructor
  · rintro ⟨x, hx⟩
    cases x <;> simp only [hx, true_or, or_true]
  · rintro (h | h | h | h | h | h) <;> exact ⟨_, h⟩

/-- The carriage of each ordinal in a corridor. -/
structure Ordinals (c : Corridor) (x y z : CarriageName) : Prop where
  names : c.carriages = [x, y, z]
  corridor : ∀ n : CarriageName, n.corridor = c ↔ n = x ∨ n = y ∨ n = z
  ordinals : x.ordinal = 1 ∧ y.ordinal = 2 ∧ z.ordinal = 3

theorem ordinals_f : Ordinals .f .f1 .f2 .f3 := ⟨rfl, fun n => by cases n <;> decide, by decide⟩
theorem ordinals_t : Ordinals .t .t1 .t2 .t3 := ⟨rfl, fun n => by cases n <;> decide, by decide⟩

section
variable {s : State} {c : Corridor} {x y z : CarriageName} (h : Ordinals c x y z)
include h

/-- What is asked of a carriage of the corridor is asked of the three. -/
theorem Ordinals.exists_iff {p : CarriageName → Prop} : (∃ n : CarriageName, n.corridor = c ∧ p n) ↔ p x ∨ p y ∨ p z := by
  constructor
  · rintro ⟨n, hn, hp⟩
    rcases (h.corridor n).1 hn with rfl | rfl | rfl
    · exact .inl hp
    · exact .inr (.inl hp)
    · exact .inr (.inr hp)
  · rintro (hp | hp | hp)
    · exact ⟨x, (h.corridor x).2 (.inl rfl), hp⟩
    · exact ⟨y, (h.corridor y).2 (.inr (.inl rfl)), hp⟩
    · exact ⟨z, (h.corridor z).2 (.inr (.inr rfl)), hp⟩

theorem Ordinals.offends_iff {n : CarriageName} (hn : n.corridor = c) : CarriageOffends s n ↔
    (s.item n = none ∧ (n.ordinal = 1 ∨ (n.ordinal < x.ordinal ∧ s.item x ≠ none) ∨ (n.ordinal < y.ordinal ∧ s.item y ≠ none) ∨
      (n.ordinal < z.ordinal ∧ s.item z ≠ none))) ∨
    ∃ a, s.item n = some a ∧ ((x.ordinal < n.ordinal ∧ ∃ b, s.item x = some b ∧ a.address = b.address) ∨
      (y.ordinal < n.ordinal ∧ ∃ b, s.item y = some b ∧ a.address = b.address) ∨
      (z.ordinal < n.ordinal ∧ ∃ b, s.item z = some b ∧ a.address = b.address)) := by
  rw [CarriageOffends, hn, h.exists_iff]
  refine or_congr_right ?_
  constructor
  · rintro ⟨m, a, b, hm, hlt, ha, hb, hab⟩
    exact ⟨a, ha, (h.exists_iff (p := fun m => m.ordinal < n.ordinal ∧ ∃ b, s.item m = some b ∧ a.address = b.address)).1
      ⟨m, hm, hlt, b, hb, hab⟩⟩
  · rintro ⟨a, ha, hm⟩
    obtain ⟨m, hm, hlt, b, hb, hab⟩ :=
      (h.exists_iff (p := fun m => m.ordinal < n.ordinal ∧ ∃ b, s.item m = some b ∧ a.address = b.address)).2 hm
    exact ⟨m, a, b, hm, hlt, ha, hb, hab⟩

theorem Ordinals.first_offends : CarriageOffends s x ↔ s.item x = none := by
  obtain ⟨hx, hy, hz⟩ := h.ordinals
  rw [h.offends_iff ((h.corridor x).2 (.inl rfl)), hx, hy, hz]
  simp

theorem Ordinals.second_offends : CarriageOffends s y ↔
    (s.item y = none ∧ s.item z ≠ none) ∨ ∃ a b, s.item y = some a ∧ s.item x = some b ∧ a.address = b.address := by
  obtain ⟨hx, hy, hz⟩ := h.ordinals
  rw [h.offends_iff ((h.corridor y).2 (.inr (.inl rfl))), hx, hy, hz]
  simp

theorem Ordinals.third_offends : CarriageOffends s z ↔
    ∃ a, s.item z = some a ∧ ((∃ b, s.item x = some b ∧ a.address = b.address) ∨ ∃ b, s.item y = some b ∧ a.address = b.address) := by
  obtain ⟨hx, hy, hz⟩ := h.ordinals
  rw [h.offends_iff ((h.corridor z).2 (.inr (.inr rfl))), hx, hy, hz]
  simp

/-- The carriages of a corridor by rising ordinal: the first that offends is answered. -/
theorem Ordinals.judges : Judges (∀ n : CarriageName, n.corridor = c → ¬ CarriageOffends s n)
    (fun i => ∃ n, i = .carriage n ∧ n.corridor = c ∧ CarriageOffends s n ∧
      ∀ m : CarriageName, m.corridor = c → m.ordinal < n.ordinal → ¬ CarriageOffends s m)
    ((s.firstOffending [] true c.carriages).map .carriage) := by
  have hfirst := h.first_offends (s := s)
  have hsecond := h.second_offends (s := s)
  have hthird := h.third_offends (s := s)
  obtain ⟨hx, hy, hz⟩ := h.ordinals
  have hforall : ∀ p : CarriageName → Prop, (∀ n : CarriageName, n.corridor = c → p n) ↔ p x ∧ p y ∧ p z := fun p => by
    constructor
    · exact fun hp => ⟨hp x ((h.corridor x).2 (.inl rfl)), hp y ((h.corridor y).2 (.inr (.inl rfl))), hp z ((h.corridor z).2 (.inr (.inr rfl)))⟩
    · rintro ⟨hpx, hpy, hpz⟩ n hn
      rcases (h.corridor n).1 hn with rfl | rfl | rfl
      · exact hpx
      · exact hpy
      · exact hpz
  have hcx : x.corridor = c := (h.corridor x).2 (.inl rfl)
  have hcy : y.corridor = c := (h.corridor y).2 (.inr (.inl rfl))
  have hcz : z.corridor = c := (h.corridor z).2 (.inr (.inr rfl))
  rw [h.names, hforall]
  by_cases h1 : CarriageOffends s x
  · refine ⟨fun _ => ⟨.carriage x, ?_, x, rfl, hcx, h1, (hforall _).2 ?_⟩, fun hgood => absurd h1 hgood.1⟩
    · simp [State.firstOffending, hfirst.1 h1]
    · simp [hx, hy, hz]
  obtain ⟨ia, ha⟩ := Option.ne_none_iff_exists'.1 (mt hfirst.2 h1)
  by_cases h2 : CarriageOffends s y
  · refine ⟨fun _ => ⟨.carriage y, ?_, y, rfl, hcy, h2, (hforall _).2 ?_⟩, fun hgood => absurd h2 hgood.2.1⟩
    · rcases hsecond.1 h2 with ⟨hnone, hz'⟩ | ⟨a, b, hya, hxb, hab⟩
      · simp [State.firstOffending, ha, hnone, State.hasRecord, Option.isSome_iff_ne_none.2 hz']
      · rw [ha, Option.some.injEq] at hxb
        subst hxb
        simp [State.firstOffending, ha, hya, hab]
    · simp [hx, hy, hz, h1]
  by_cases h3 : CarriageOffends s z
  · refine ⟨fun _ => ⟨.carriage z, ?_, z, rfl, hcz, h3, (hforall _).2 ?_⟩, fun hgood => absurd h3 hgood.2.2⟩
    · obtain ⟨ic, hc', hsame⟩ := hthird.1 h3
      obtain ⟨ib, hb⟩ : ∃ ib, s.item y = some ib := Option.ne_none_iff_exists'.1 fun hnone =>
        h2 (hsecond.2 (.inl ⟨hnone, by rw [hc']; exact Option.some_ne_none ic⟩))
      have hab : ib.address ≠ ia.address := fun hab => h2 (hsecond.2 (.inr ⟨ib, ia, hb, ha, hab⟩))
      simp only [ha, hb, Option.some.injEq, exists_eq_left'] at hsame
      simp [State.firstOffending, ha, hb, hc', hab, hsame.symm]
    · simp [hx, hy, hz, h1, h2]
  · refine ⟨fun hbad => absurd ⟨h1, h2, h3⟩ hbad, fun _ => ?_⟩
    cases hb : s.item y with
    | none =>
      have hc' : s.item z = none := by
        refine Classical.byContradiction fun hc' => ?_
        exact h2 (hsecond.2 (.inl ⟨hb, hc'⟩))
      simp [State.firstOffending, ha, hb, hc', State.hasRecord]
    | some ib =>
      have hab : ib.address ≠ ia.address := fun hab => h2 (hsecond.2 (.inr ⟨ib, ia, hb, ha, hab⟩))
      cases hc' : s.item z with
      | none => simp [State.firstOffending, ha, hb, hc', hab]
      | some ic =>
        have hca : ic.address ≠ ia.address := fun he => h3 (hthird.2 ⟨ic, hc', .inl ⟨ia, ha, he⟩⟩)
        have hcb : ic.address ≠ ib.address := fun he => h3 (hthird.2 ⟨ic, hc', .inr ⟨ib, hb, he⟩⟩)
        simp [State.firstOffending, ha, hb, hc', hab, hca, hcb]

end

/-- Condition 10, F before T. -/
theorem judges_carriages (s : State) : Judges (∀ x, ¬ CarriageOffends s x)
    (fun i => ∃ x, i = .carriage x ∧ CarriageOffends s x ∧ (x.corridor = .t → ∀ y : CarriageName, y.corridor = .f → ¬ CarriageOffends s y) ∧
      ∀ y : CarriageName, y.corridor = x.corridor → y.ordinal < x.ordinal → ¬ CarriageOffends s y) s.check10 := by
  have hcheck : s.check10 = Corridor.all.findSome? fun c => (s.firstOffending [] true c.carriages).map ItemName.carriage := by
    simp only [State.check10, Corridor.all, List.findSome?_cons, List.findSome?_nil]
    cases s.firstOffending [] true Corridor.f.carriages <;> cases s.firstOffending [] true Corridor.t.carriages <;> rfl
  have hon : ∀ c : Corridor, Judges (∀ n : CarriageName, n.corridor = c → ¬ CarriageOffends s n)
      (fun i => ∃ n, i = .carriage n ∧ n.corridor = c ∧ CarriageOffends s n ∧
        ∀ m : CarriageName, m.corridor = c → m.ordinal < n.ordinal → ¬ CarriageOffends s m)
      ((s.firstOffending [] true c.carriages).map .carriage) := by
    intro c
    cases c
    · exact ordinals_f.judges
    · exact ordinals_t.judges
  have hall := judges_corridors hon
  rw [hcheck]
  refine ⟨fun hbad => ?_, fun hgood => hall.holds fun _ n _ => hgood n⟩
  obtain ⟨i, hi, c, _, hf, n, hname, rfl, hn, hbefore⟩ := hall.fails fun h => hbad fun x => h x.corridor x rfl
  exact ⟨i, hi, n, hname, hn, hf, hbefore⟩

/-! ## Condition 11, and the whole check -/

theorem layoutHeld_iff (y : Layout) : y.layoutHeld = true ↔ ∃ l ps, y.perms.get l = some ps ∧ Permission.layout ∈ ps := by
  have hall : ∀ l, l ∈ LinkId.all := fun l => by cases l <;> decide
  rw [Layout.layoutHeld, List.any_eq_true]
  refine exists_congr fun l => ?_
  cases hl : y.perms.get l with
  | none => simp
  | some ps => simp [hall l]

theorem judges_links (s : State) : Judges (∃ l ps, s.layout.perms.get l = some ps ∧ Permission.layout ∈ ps) (fun i => i = .link .l1)
    s.check11 := by
  rw [← layoutHeld_iff, State.check11]
  exact ⟨fun h => ⟨_, if_neg h, rfl⟩, fun h => if_pos h⟩

/-- The check answers the first condition of its table that fails (R8). -/
theorem firstFailing_check (s : State) : FirstFailing (checkTable s) s.check :=
  .cons (judges_lengths s) <| .cons (judges_segments s) <| .cons (judges_gates s) <| .cons (judges_inputs s) <|
  .cons (judges_mouths s) <|
  .cons (judges_lanes s (fun n it => !s.mouthsFit n it) fun n it => by rw [← mouthsFit_iff, Bool.not_eq_true', Bool.not_eq_true]) <|
  .cons ((judges_lanes s (p := fun n it => s.held n ≤ it.capacity) (fun n it => decide (it.capacity < s.held n))
    fun n it => by rw [decide_eq_true_eq, Nat.not_le]).weaken fun _ ⟨pre, e, post, hsplit, hi, hbad, hpre⟩ =>
      ⟨pre, e, post, hsplit, hi, Nat.not_le.1 hbad, hpre⟩) <|
  .cons (judges_benchLanes s) <| .cons (judges_benchCarriages s) <| .cons (judges_carriages s) <| .last (judges_links s)

end Sys2Proof.Machine
end

section
/-! PROOFS. MODE CONFIGURE and MODE RUN (R10, R11). -/

namespace Sys2Proof.Machine

/-! ## Entering RUNNING -/

/-- The layers that MODE RUN builds, before the unit is RUNNING (R11). -/
def State.rebuilt (s : State) : State := (((s.dropStaleFences .f).dropStaleFences .t).seatAll .f).seatAll .t

theorem relayered_rebuilt (s : State) : Relayered s s.rebuilt :=
  (((Relayered.dropStaleFences s .f).trans (.dropStaleFences _ .t)).trans (.seatAll _ .f)).trans (.seatAll _ .t)

/-- A segment record without a stale fence. -/
def State.freshFence (s : State) (c : Corridor) (k : Nat) : Segment :=
  if s.layout.segCount c ≤ k then { s.seg c k with fence := none } else s.seg c k

theorem seg_dropped (s : State) (c : Corridor) (k : Nat) : ((s.dropStaleFences .f).dropStaleFences .t).seg c k = s.freshFence c k := by
  rw [seg_dropStaleFences, seg_dropStaleFences, (Relayered.dropStaleFences s .f).layout, State.freshFence]
  cases c <;> simp

/-- What the building of the layers makes of a segment record (R11). -/
theorem seg_rebuilt (s : State) (c : Corridor) (k : Nat) :
    s.rebuilt.seg c k =
      if k ∈ s.segsInUse c then (s.freshFence c k).cleared.seatedFor (s.wanting c k) else (s.freshFence c k).cleared := by
  have hdrop := (Relayered.dropStaleFences s .f).trans (.dropStaleFences _ .t)
  have hseat := hdrop.trans (.seatAll _ .f)
  rw [State.rebuilt, seg_seatAll, seg_seatAll, seg_seatAll, hseat.segsInUse, hseat.wanting, hdrop.segsInUse, hdrop.wanting]
  cases c <;> simp [seg_dropped]

section
variable {s : State} {c : Corridor} {k : Nat}

theorem rebuilt_running : (s.rebuilt.seg c k).running = none := by
  rw [seg_rebuilt]
  split
  · rw [Segment.seatedFor_running]; rfl
  · rfl

theorem rebuilt_standing_one {n : CarriageName} (hk : k ∈ s.segsInUse c) (hn : s.wanting c k = [n]) :
    (s.rebuilt.seg c k).standing = some n := by
  rw [seg_rebuilt, if_pos hk, hn]; rfl

theorem Segment.seatedFor_standing {g : Segment} {l : List CarriageName} (h : ∀ n, l ≠ [n]) : (g.seatedFor l).standing = g.standing := by
  match l with
  | [] => rfl
  | [n] => exact absurd rfl (h n)
  | _ :: _ :: _ => rfl

theorem rebuilt_standing_none (h : k ∉ s.segsInUse c ∨ ∀ n, s.wanting c k ≠ [n]) : (s.rebuilt.seg c k).standing = none := by
  rw [seg_rebuilt]
  split
  next hk => rw [Segment.seatedFor_standing (h.resolve_left fun hnot => hnot hk)]; rfl
  next => rfl

theorem Segment.seatedFor_fence_two {g : Segment} {l : List CarriageName} (h : 2 ≤ l.length) :
    (g.seatedFor l).fence = some (g.fence.getD (.auto .restartOverlap)) := by
  match l with
  | [] => simp at h
  | [n] => simp at h
  | _ :: _ :: _ => rfl

theorem Segment.seatedFor_fence_less {g : Segment} {l : List CarriageName} (h : l.length < 2) : (g.seatedFor l).fence = g.fence := by
  match l with
  | [] => rfl
  | [n] => rfl
  | _ :: _ :: _ => exact absurd h (by simp only [List.length_cons]; omega)

theorem rebuilt_fence_two (hk : k ∈ s.segsInUse c) (h : 2 ≤ (s.wanting c k).length) : (s.rebuilt.seg c k).fence ≠ none := by
  rw [seg_rebuilt, if_pos hk, Segment.seatedFor_fence_two h]
  exact Option.some_ne_none _

theorem rebuilt_fence_stale (hk : s.layout.segCount c ≤ k) (hunused : k ∉ s.segsInUse c) : (s.rebuilt.seg c k).fence = none := by
  rw [seg_rebuilt, if_neg hunused, State.freshFence, if_pos hk]; rfl

theorem Segment.seatedFor_fenced {g : Segment} {f : Fence} (h : g.fence = some f) (l : List CarriageName) :
    (g.seatedFor l).fence = some f := by
  rcases Nat.lt_or_ge l.length 2 with hl | hl
  · rw [Segment.seatedFor_fence_less hl, h]
  · rw [Segment.seatedFor_fence_two hl, h]; rfl

theorem rebuilt_fence_kept {f : Fence} (hk : k < s.layout.segCount c) (hf : (s.seg c k).fence = some f) :
    (s.rebuilt.seg c k).fence = some f := by
  have hfresh : s.freshFence c k = s.seg c k := if_neg (Nat.not_le.2 hk)
  rw [seg_rebuilt, hfresh]
  split
  · exact Segment.seatedFor_fenced (g := (s.seg c k).cleared) hf _
  · exact hf

theorem rebuilt_fence_new (hf : (s.seg c k).fence = none) : (s.rebuilt.seg c k).fence = none ∨
    ((s.rebuilt.seg c k).fence = some (.auto .restartOverlap) ∧ 2 ≤ (s.wanting c k).length) := by
  have hfresh : (s.freshFence c k).cleared.fence = none := by
    rw [State.freshFence]
    split
    · rfl
    · exact hf
  rw [seg_rebuilt]
  split
  · rcases Nat.lt_or_ge (s.wanting c k).length 2 with hl | hl
    · exact .inl (by rw [Segment.seatedFor_fence_less hl, hfresh])
    · exact .inr ⟨by rw [Segment.seatedFor_fence_two hl, hfresh]; rfl, hl⟩
  · exact .inl hfresh

end

theorem layers_eq {s t : State} {c : Corridor} {k : Nat} (h : t.layers c k = s.layers c k) :
    (t.seg c k).fence = (s.seg c k).fence ∧ (t.seg c k).running = (s.seg c k).running ∧ (t.seg c k).standing = (s.seg c k).standing := by
  simpa only [State.layers, Prod.mk.injEq] using h

/-! ## The requests -/

theorem takeLine_check (s : State) (l : LinkId) (w : ReqWord) : (s.takeLine l w).check = s.check := rfl

section
variable {s : State} {l : LinkId}

/-- In CONFIGURING, MODE RUN with a check that passes: the layers, then what the allocator gives out. -/
theorem modeRun_enters (h : Asks s l .modeRun) (hbusy : s.storeBusy = none ∨ s.storeBusy = some l) (hmode : s.mode = .configuring)
    (hcheck : s.check = none) :
    ∃ t, exec (.modeRun l (.args ())) s = .next t ∧
      RunsOnly ({ (s.takeLine l .modeRun).rebuilt with mode := .running }.answer l .modeRun (.ok [])) t := by
  have hbusy' : (s.takeLine l .modeRun).busyFor l = false := (busyFor_false s l).2 hbusy
  have hmode' : (s.takeLine l .modeRun).mode = .configuring := hmode
  have hserve : serveModeRun l (s.takeLine l .modeRun) () = ⟨(s.takeLine l .modeRun).enterRunning, some (.ok [])⟩ := by
    simp only [serveModeRun, hbusy', hmode', takeLine_check, hcheck, Bool.false_eq_true, if_false, reduceCtorEq]
    rfl
  exact ⟨_, rfl, request_accepted (serve := serveModeRun l) h rfl nofun hserve
    (RunsOnly.trans (.owe { (s.takeLine l .modeRun).rebuilt with mode := .running } .f) (.owe _ .t))⟩

/-- MODE CONFIGURE (R10), by its table. -/
theorem exec_modeConfigure (h : Asks s l .modeConfigure) :
    exec (.modeConfigure l (.args ())) s =
      .next
        (if s.storeBusy ≠ none ∧ s.storeBusy ≠ some l then s.replied l .modeConfigure (.refuse .busy)
         else if s.mode = .configuring then s.replied l .modeConfigure (.ok [])
         else if s.book ≠ [] ∨ s.working = true then s.replied l .modeConfigure (.refuse .busy)
         else
           { s with
             mode := .configuring
             segments := ⟨s.segments.f.mapValues fun _ g => { g with waiting := [] },
               s.segments.t.mapValues fun _ g => { g with waiting := [] }⟩ }.replied l .modeConfigure (.ok [])) := by
  refine congrArg Host.Outcome.next ?_
  by_cases hbusy : s.busyFor l = true
  · rw [if_pos ((busyFor_iff s l).1 hbusy)]
    exact request_refuses (serve := serveModeConfigure l) h rfl nofun (if_pos hbusy)
  rw [if_neg (mt (busyFor_iff s l).2 hbusy)]
  by_cases hmode : s.mode = .configuring
  · rw [if_pos hmode]
    exact request_replied s l .modeConfigure _ (serveModeConfigure l) () _ h rfl nofun ((if_neg hbusy).trans (if_pos hmode))
  rw [if_neg hmode]
  have hwork : (!s.book.isEmpty || s.working) = true ↔ s.book ≠ [] ∨ s.working = true := by
    rw [Bool.or_eq_true, Bool.not_eq_true', List.isEmpty_eq_false_iff]
  by_cases hw : s.book ≠ [] ∨ s.working = true
  · rw [if_pos hw]
    exact request_refuses (serve := serveModeConfigure l) h rfl nofun
      ((if_neg hbusy).trans ((if_neg hmode).trans (if_pos (hwork.2 hw))))
  · rw [if_neg hw]
    exact request_exact s l .modeConfigure _ (serveModeConfigure l) () _ _ h rfl nofun
      ((if_neg hbusy).trans ((if_neg hmode).trans (if_neg (mt hwork.1 hw)))) h.1.2.2 fun _ => rfl

end

/-- Settles O27. -/
theorem modesAreEntered : Obligations.ModesAreEntered := by
  unfold Obligations.ModesAreEntered
  refine ⟨firstFailing_check, fun s l h => exec_modeConfigure h, fun s l h => ⟨fun hnone hother => ?_, fun hbusy hmode => ?_,
    fun hbusy hmode => ⟨fun i hi => ?_, fun hcheck => ?_⟩⟩⟩
  · exact congrArg Host.Outcome.next (request_refuses (serve := serveModeRun l) h rfl nofun (if_pos ((busyFor_iff s l).2 ⟨hnone, hother⟩)))
  · have hfree : ¬ s.busyFor l = true := by rw [(busyFor_false s l).2 hbusy]; exact Bool.false_ne_true
    exact congrArg Host.Outcome.next (request_replied s l .modeRun _ (serveModeRun l) () _ h rfl nofun
      ((if_neg hfree).trans (if_pos hmode)))
  · have hfree : ¬ s.busyFor l = true := by rw [(busyFor_false s l).2 hbusy]; exact Bool.false_ne_true
    have hserve : serveModeRun l (s.takeLine l .modeRun) () = ⟨s.takeLine l .modeRun, some ⟨.range, i.fields, []⟩⟩ := by
      refine (if_neg hfree).trans ((if_neg (show s.mode ≠ .running by rw [hmode]; decide)).trans ?_)
      rw [takeLine_check, hi]
    exact congrArg Host.Outcome.next (request_replied s l .modeRun _ (serveModeRun l) () _ h rfl nofun hserve)
  · obtain ⟨t, hexec, hruns⟩ := modeRun_enters h hbusy hmode hcheck
    have hcalm := ((relayered_rebuilt (s.takeLine l .modeRun)).withMode .running).calm.answered l .modeRun (.ok [])
    have hline : ({ s with mode := .running } : State).replied l .modeRun (.ok []) =
        ({ s.takeLine l .modeRun with mode := .running } : State).answer l .modeRun (.ok []) := rfl
    have hcalm' : Calm (({ s with mode := .running } : State).replied l .modeRun (.ok [])) t := by
      rw [hline]
      exact hcalm.trans hruns.calm
    have hlayers : ∀ c k, (t.seg c k).fence = ((s.takeLine l .modeRun).rebuilt.seg c k).fence ∧
        (t.seg c k).running = ((s.takeLine l .modeRun).rebuilt.seg c k).running ∧
        (t.seg c k).standing = ((s.takeLine l .modeRun).rebuilt.seg c k).standing := fun c k => layers_eq (hruns.layers c k)
    refine ⟨t, hexec, hcalm', fun c k n hk hn => ?_, fun c k hk htwo => ?_, fun c k hnot => ?_,
      fun c k hk hunused => ?_, fun c k f hk hf => ?_, fun c k hf => ?_⟩
    · rw [(hlayers c k).2.1, (hlayers c k).2.2]
      exact ⟨rebuilt_standing_one hk hn, rebuilt_running⟩
    · rw [(hlayers c k).1, (hlayers c k).2.1]
      exact ⟨rebuilt_fence_two hk htwo, rebuilt_running⟩
    · rw [(hlayers c k).2.1, (hlayers c k).2.2]
      exact ⟨rebuilt_standing_none hnot, rebuilt_running⟩
    · rw [(hlayers c k).1]
      exact rebuilt_fence_stale hk hunused
    · rw [(hlayers c k).1]
      exact rebuilt_fence_kept hk hf
    · rw [(hlayers c k).1]
      exact rebuilt_fence_new hf

end Sys2Proof.Machine
end

section
/-! PROOFS. A start (R15, R16): its stages, the filters of the gates (R99), and the seating that no cleared watch hears of (R172). -/

namespace Sys2Proof.Machine

/-! ## The stages of a start -/

namespace State

/-- The unit with what retained memory still holds (R16). -/
def retained (s : State) (checked : Bool) : State := if checked && !s.retainedAgrees then s.clearRetained else s

/-- The lane and bench tables of the start, on the loaded layout (R15, R23, R29). -/
def stocked (s : State) (checked : Bool) : State := (loadLayout (s.retained checked)).startInventory

/-- The carriage records of the start (R16, R68). -/
def recorded (s : State) (checked : Bool) : State := CarriageName.all.foldl startRecord (s.stocked checked)

/-- The start values of every block, over the tables and the carriage records. -/
def begunFrom (t : State) (pins : Pins) (lost : Bool) : State :=
  let m := t.startMode
  { t with
    powered := true, mode := m, storeBusy := none, retainedAgrees := true, millis := 0, inputs := pins.present
    book := [], nextId := 1
    lines := ⟨Line.blank, Line.blank⟩
    stops := ⟨Stop.start pins.loopF, Stop.start pins.loopT⟩
    links := ⟨Link.start (startNotices m lost), Link.start (startNotices m lost), Link.start (startNotices m lost)⟩
    owed := ⟨false, false⟩
    starting := ⟨true, true⟩ }

/-- The unit before the gates and the layers are built. -/
def begun (s : State) (pins : Pins) (checked : Bool) : State := begunFrom (s.recorded checked) pins (checked && !s.retainedAgrees)

/-- The gate records of the start (R99). -/
def gated (s : State) (pins : Pins) (checked : Bool) : State := ((s.begun pins checked).startGates .f).startGates .t

theorem start_eq (s : State) (pins : Pins) (checked : Bool) : s.start pins checked = ((s.gated pins checked).seatAll .f).seatAll .t := rfl

end State

/-! ## Cleared watches -/

/-- No link watches anything: every slot is cleared (R172). -/
def Unwatched (s : State) : Prop := ∀ l, (s.link l).slots = clearedSlots

theorem firedSet_clearedSlots (s : State) (o : Offer) : firedSet (slotMatches s o) clearedSlots = [] := by
  have hcleared : slotMatches s o WatchSlot.cleared = false := rfl
  simp [clearedSlots, List.replicate, firedSet, chainsFrom, hcleared]

theorem offerOn_unwatched {s : State} (h : Unwatched s) {o : Offer} (ho : o.own = none) (l : LinkId) : s.offerOn o l = s := by
  simp [State.offerOn, h l, firedSet_clearedSlots, ho]

theorem offer_unwatched {s : State} (h : Unwatched s) {o : Offer} (ho : o.own = none) : s.offer o = s := by
  rw [State.offer, offerOn_unwatched h ho, offerOn_unwatched h ho, offerOn_unwatched h ho]

theorem unwatched_of_links {s t : State} (h : Unwatched s) (hl : t.links = s.links) : Unwatched t := fun l => by
  rw [State.link, hl]
  exact h l

theorem setFence_links {s : State} (h : Unwatched s) (c : Corridor) (k : Nat) (f : Fence) : (s.setFence c k f).links = s.links := by
  cases hf : (s.seg c k).fence with
  | none =>
    have hoffer : ∀ (u : State) (o : Offer), u.links = s.links → o.own = none → (u.offer o).links = s.links := fun u o hu ho => by
      rw [offer_unwatched (unwatched_of_links h hu) ho, hu]
    rw [setFence_fresh hf]
    exact hoffer _ _ rfl rfl
  | some g => rw [setFence_standing (by rw [hf]; exact Option.some_ne_none g)]

theorem seatWanted_links {s : State} (h : Unwatched s) (c : Corridor) (k : Nat) : (State.seatWanted c s k).links = s.links := by
  unfold State.seatWanted
  split
  · rfl
  · rfl
  · exact setFence_links h c k _

theorem seatAll_links {s : State} (h : Unwatched s) (c : Corridor) : (s.seatAll c).links = s.links := by
  have hfold : ∀ (l : List Nat) (t : State), Unwatched t → (l.foldl (State.seatWanted c) t).links = t.links := by
    intro l
    induction l with
    | nil => exact fun _ _ => rfl
    | cons k rest ih =>
      intro t ht
      have hone := seatWanted_links ht c k
      rw [List.foldl_cons, ih _ (unwatched_of_links ht hone), hone]
  exact hfold _ _ h

/-! ## The gates -/

/-- A gate's filter primed from its input, where there is one (R99). -/
def Gate.primedBy (g : Gate) : Option Level → Gate
  | some v => { g with samples := Samples.all v, level := v }
  | none => g

theorem Gate.primedBy_primedBy (g : Gate) (input : Option Level) : (g.primedBy input).primedBy input = g.primedBy input := by
  cases input <;> rfl

/-- The level at the input of a gate, where it has one. -/
def State.levelAt (s : State) (c : Corridor) (k : Nat) : Option Level := (s.gateInput c k).map s.inputLevel

/-- The filter of one gate in use primed. -/
def State.primeGate (s : State) (c : Corridor) (t : State) (k : Nat) : State :=
  match s.gateInput c k with
  | some i => t.modGate c k fun g => { g with samples := Samples.all (s.inputLevel i), level := s.inputLevel i }
  | none => t

/-- The gate records of a corridor with their service alone retained (R99). -/
def State.blankGates (s : State) (c : Corridor) : State :=
  { s with gates := s.gates.set c ((s.gates.get c).mapValues fun _ g => { Gate.blank with service := g.service }) }

theorem startGates_eq (s : State) (c : Corridor) :
    s.startGates c = (s.layout.gates.get c).keys.foldl (s.primeGate c) (s.blankGates c) := rfl

theorem primeGate_fields (s : State) (c : Corridor) (t : State) (k : Nat) :
    s.primeGate c t k = { t with gates := (s.primeGate c t k).gates } := by
  unfold State.primeGate
  split <;> rfl

theorem gates_trans {s t u : State} (h : t = { s with gates := t.gates }) (k : u = { t with gates := u.gates }) :
    u = { s with gates := u.gates } := k.trans (by rw [h])

theorem foldl_primeGate_fields (s : State) (c : Corridor) (l : List Nat) (t : State) :
    l.foldl (s.primeGate c) t = { t with gates := (l.foldl (s.primeGate c) t).gates } := by
  induction l generalizing t with
  | nil => rfl
  | cons k rest ih => exact gates_trans (primeGate_fields s c t k) (ih _)

theorem startGates_fields (s : State) (c : Corridor) : s.startGates c = { s with gates := (s.startGates c).gates } := by
  rw [startGates_eq]
  exact gates_trans (t := s.blankGates c) rfl (foldl_primeGate_fields s c _ _)

theorem gate_primeGate (s : State) (c : Corridor) (t : State) (k : Nat) (d : Corridor) (j : Nat) :
    (s.primeGate c t k).gate d j = if d = c ∧ j = k then (t.gate c k).primedBy (s.levelAt c k) else t.gate d j := by
  unfold State.primeGate State.levelAt
  cases s.gateInput c k with
  | some i => exact gate_modGate t c d k j _
  | none =>
    simp only [Option.map_none, Gate.primedBy]
    split
    next h => rw [h.1, h.2]
    next => rfl

theorem gate_foldl_primeGate (s : State) (c : Corridor) (l : List Nat) (t : State) (d : Corridor) (j : Nat) :
    (l.foldl (s.primeGate c) t).gate d j = if d = c ∧ j ∈ l then (t.gate c j).primedBy (s.levelAt c j) else t.gate d j := by
  induction l generalizing t with
  | nil => simp
  | cons k rest ih =>
    rw [List.foldl_cons, ih, gate_primeGate, gate_primeGate]
    by_cases hd : d = c
    · subst hd
      by_cases hj : j = k
      · subst hj
        simp [Gate.primedBy_primedBy]
      · simp [hj]
    · simp [hd]

theorem gate_blankGates (s : State) (c d : Corridor) (k : Nat) :
    (s.blankGates c).gate d k = if d = c then { Gate.blank with service := (s.gate c k).service } else s.gate d k := by
  simp only [State.blankGates, State.gate, Two.get_set]
  by_cases hd : d = c
  · subst hd
    rw [if_pos rfl, if_pos rfl, Table.get?_mapValues]
    cases (s.gates.get d).get? k <;> rfl
  · rw [if_neg hd, if_neg hd]

/-- The gate records of a corridor after a start: the service they had, and the filter of those in use primed (R99, log 81). -/
theorem gate_startGates (s : State) (c d : Corridor) (k : Nat) :
    (s.startGates c).gate d k =
      if d = c then ({ Gate.blank with service := (s.gate c k).service } : Gate).primedBy (s.levelAt c k) else s.gate d k := by
  rw [startGates_eq, gate_foldl_primeGate, gate_blankGates, gate_blankGates, if_pos rfl]
  by_cases hd : d = c
  · rw [if_pos hd]
    by_cases hk : k ∈ (s.layout.gates.get c).keys
    · rw [if_pos ⟨hd, hk⟩, if_pos hd]
    · have hnone : s.gateInput c k = none := Classical.not_not.1 (mt (mem_keys _ k).2 hk)
      rw [if_neg fun h => hk h.2, State.levelAt, hnone, if_pos hd]
      rfl
  · rw [if_neg hd, if_neg fun h => hd h.1, if_neg hd]

/-! ## The carriage records -/

/-- What retained memory keeps of a carriage without an item (R14, log 10). -/
theorem retainedOnly_fields (v : Carriage) :
    (State.retainedOnly v).p = v.p ∧ (State.retainedOnly v).load = v.load ∧ (State.retainedOnly v).mark = v.mark := ⟨rfl, rfl, rfl⟩

/-- The record of a carriage name after a start. -/
def Carriage.startedWith (v : Carriage) (allowance : Nat) (hasItem : Bool) : Carriage :=
  if hasItem then v.created allowance else State.retainedOnly v

theorem startRecord_eq (s : State) (n : CarriageName) :
    s.startRecord n = s.setCar n ((s.car n).startedWith s.layout.unit.allowance (s.hasRecord n)) := by
  unfold State.startRecord Carriage.startedWith
  split
  · exact createRecord_eq s n
  · rfl

theorem carriages_trans {s t u : State} (h : t = { s with carriages := t.carriages }) (k : u = { t with carriages := u.carriages }) :
    u = { s with carriages := u.carriages } := k.trans (by rw [h])

theorem foldl_startRecord_fields (l : List CarriageName) (s : State) :
    l.foldl State.startRecord s = { s with carriages := (l.foldl State.startRecord s).carriages } := by
  induction l generalizing s with
  | nil => rfl
  | cons n rest ih => exact carriages_trans (by rw [startRecord_eq]; rfl) (ih (s.startRecord n))

theorem car_foldl_startRecord (l : List CarriageName) (hl : l.Nodup) (s : State) (m : CarriageName) :
    (l.foldl State.startRecord s).car m =
      if m ∈ l then (s.car m).startedWith s.layout.unit.allowance (s.hasRecord m) else s.car m := by
  induction l generalizing s with
  | nil => rfl
  | cons n rest ih =>
    obtain ⟨hn, hrest⟩ := List.nodup_cons.1 hl
    have hsame : ∀ v, (s.setCar n v).layout = s.layout ∧ (s.setCar n v).hasRecord m = s.hasRecord m := fun _ => ⟨rfl, rfl⟩
    rw [List.foldl_cons, ih hrest, startRecord_eq, (hsame _).1, (hsame _).2, State.car_setCar]
    by_cases hm : m = n
    · subst hm
      rw [if_neg hn, if_pos rfl, if_pos List.mem_cons_self]
    · rw [if_neg hm]
      simp only [List.mem_cons, hm, false_or]

end Sys2Proof.Machine
end

section
/-! PROOFS. The lane and bench tables after a start (R16, R23, R29), and the transfer marks it settles. -/

namespace Sys2Proof.Machine

/-! ## One transfer mark -/

/-- A carriage record whose transfer mark is settled: its bench straddles (R16). -/
def Carriage.settled (v : Carriage) : Carriage := if v.mark = none then v else { v with load := .straddled, mark := none }

theorem Carriage.settled_fields (v : Carriage) : v.settled.p = v.p ∧ v.settled.u = v.u ∧ v.settled.mark = none ∧
    v.settled.load = (if v.mark = none then v.load else .straddled) := by
  unfold Carriage.settled
  split
  next h => exact ⟨rfl, rfl, h, rfl⟩
  next h => exact ⟨rfl, rfl, rfl, rfl⟩

/-- A change of lanes, benches and carriages alone. -/
def Restocked (s t : State) : Prop := t = { s with lanes := t.lanes, benches := t.benches, carriages := t.carriages }

theorem Restocked.trans {s t u : State} (h : Restocked s t) (k : Restocked t u) : Restocked s u :=
  Eq.trans k (by rw [show t = _ from h])

theorem settleMark_unmarked {s : State} {n : CarriageName} (h : (s.car n).mark = none) : s.settleMark n = s := by
  simp only [State.settleMark, h]

/-- The tables after the bench of a mark has been put astride (R16). -/
theorem settleMark_marked {s : State} {n : CarriageName} {k : TransferMark} (h : (s.car n).mark = some k) :
    ∃ benches, s.settleMark n = { s with
        lanes := s.lanes.mapValues fun _ v => { v with benches := v.benches.erase k.bench }
        benches := benches
        carriages := s.carriages.set n { s.car n with load := .straddled, mark := none } } ∧
      ∀ b, benches.get? b = if b = k.bench then (s.bench? b).map fun v => { v with place := .straddling n k.lane k.mouth } else s.bench? b := by
  obtain ⟨benches, hmod, hget⟩ := modBench_shape { s with lanes := s.lanes.mapValues fun _ v => { v with benches := v.benches.erase k.bench } }
    k.bench fun v => { v with place := .straddling n k.lane k.mouth }
  refine ⟨benches, ?_, fun b => (hget b).trans ?_⟩
  · simp only [State.settleMark, h, hmod]
    rfl
  · split
    next hb => rw [hb]; rfl
    next => rfl

theorem restocked_settleMark (s : State) (n : CarriageName) : Restocked s (s.settleMark n) := by
  cases h : (s.car n).mark with
  | none => rw [settleMark_unmarked h]; rfl
  | some k =>
    obtain ⟨benches, heq, -⟩ := settleMark_marked h
    rw [heq]; rfl

theorem car_settleMark (s : State) (n m : CarriageName) : (s.settleMark n).car m = if m = n then (s.car n).settled else s.car m := by
  cases h : (s.car n).mark with
  | none =>
    rw [settleMark_unmarked h, Carriage.settled, if_pos h]
    split
    next hm => rw [hm]
    next => rfl
  | some k =>
    obtain ⟨benches, heq, -⟩ := settleMark_marked h
    have hsettled : (s.car n).settled = { s.car n with load := .straddled, mark := none } :=
      if_neg (by rw [h]; exact Option.some_ne_none k)
    rw [heq, hsettled]
    exact Six.get_set s.carriages n m _

theorem bench?_settleMark_other {s : State} {n : CarriageName} {b : Nat} (h : (s.car n).mark.map (·.bench) ≠ some b) :
    (s.settleMark n).bench? b = s.bench? b := by
  cases hm : (s.car n).mark with
  | none => rw [settleMark_unmarked hm]
  | some k =>
    obtain ⟨benches, heq, hget⟩ := settleMark_marked hm
    rw [heq]
    refine (hget b).trans (if_neg fun hb => h ?_)
    rw [hm, hb]; rfl

theorem lane_settleMark {s : State} {n : CarriageName} {k : TransferMark} (h : (s.car n).mark = some k) (j : Nat) :
    (s.settleMark n).lane j = { s.lane j with benches := (s.lane j).benches.erase k.bench } := by
  obtain ⟨benches, heq, -⟩ := settleMark_marked h
  rw [heq]
  simp only [State.lane, Table.get?_mapValues]
  cases s.lanes.get? j <;> rfl

/-! ## Every mark -/

theorem restocked_settleMarks (l : List CarriageName) (s : State) : Restocked s (l.foldl State.settleMark s) := by
  induction l generalizing s with
  | nil => rfl
  | cons n rest ih => exact (restocked_settleMark s n).trans (ih _)

theorem car_settleMarks (l : List CarriageName) (hl : l.Nodup) (s : State) (m : CarriageName) :
    (l.foldl State.settleMark s).car m = if m ∈ l then (s.car m).settled else s.car m := by
  induction l generalizing s with
  | nil => rfl
  | cons n rest ih =>
    obtain ⟨hn, hrest⟩ := List.nodup_cons.1 hl
    rw [List.foldl_cons, ih hrest, car_settleMark]
    by_cases hm : m = n
    · subst hm
      rw [if_neg hn, if_pos rfl, if_pos List.mem_cons_self]
    · rw [if_neg hm]
      simp only [List.mem_cons, hm, false_or]

theorem bench?_settleMarks_other {l : List CarriageName} (hl : l.Nodup) {s : State} {b : Nat}
    (h : ∀ m ∈ l, (s.car m).mark.map (·.bench) ≠ some b) : (l.foldl State.settleMark s).bench? b = s.bench? b := by
  induction l generalizing s with
  | nil => rfl
  | cons n rest ih =>
    obtain ⟨hn, hrest⟩ := List.nodup_cons.1 hl
    refine (ih hrest fun m hm => ?_).trans (bench?_settleMark_other (h n List.mem_cons_self))
    rw [car_settleMark, if_neg (show ¬ m = n from fun he => hn (he ▸ hm))]
    exact h m (List.mem_cons_of_mem _ hm)

theorem settleMarks_unmarked {l : List CarriageName} {s : State} (h : ∀ m ∈ l, (s.car m).mark = none) : l.foldl State.settleMark s = s := by
  induction l with
  | nil => rfl
  | cons n rest ih =>
    rw [List.foldl_cons, settleMark_unmarked (h n List.mem_cons_self)]
    exact ih fun m hm => h m (List.mem_cons_of_mem _ hm)

/-- No bench is claimed, and none has moved (R29). -/
def Unmoved (s : State) : Prop := ∀ b v, s.bench? b = some v → v.claim = none ∧ v.lastMoved = 0

theorem unmoved_settleMark {s : State} (h : Unmoved s) (n : CarriageName) : Unmoved (s.settleMark n) := by
  intro b v hv
  cases hm : (s.car n).mark with
  | none => rw [settleMark_unmarked hm] at hv; exact h b v hv
  | some k =>
    obtain ⟨benches, heq, hget⟩ := settleMark_marked hm
    rw [heq] at hv
    have hv' : benches.get? b = some v := hv
    rw [hget] at hv'
    split at hv'
    · obtain ⟨w, hw, rfl⟩ := Option.map_eq_some_iff.1 hv'
      exact h b w hw
    · exact h b v hv'

theorem unmoved_settleMarks (l : List CarriageName) {s : State} (h : Unmoved s) : Unmoved (l.foldl State.settleMark s) := by
  induction l generalizing s with
  | nil => exact h
  | cons n rest ih => exact ih (unmoved_settleMark h n)

/-- The carriages before and behind one in the list of all. -/
theorem carriages_split (n : CarriageName) : ∃ pre post, CarriageName.all = pre ++ n :: post ∧ n ∉ pre ∧ n ∉ post ∧ pre.Nodup ∧ post.Nodup := by
  have hmem : n ∈ CarriageName.all := by cases n <;> decide
  obtain ⟨pre, post, hsplit⟩ := List.append_of_mem hmem
  have hnodup : CarriageName.all.Nodup := by decide
  rw [hsplit, List.nodup_append] at hnodup
  obtain ⟨hpre, hrest, hapart⟩ := hnodup
  obtain ⟨hpost, hpost'⟩ := List.nodup_cons.1 hrest
  exact ⟨pre, post, hsplit, fun h => hapart n h n List.mem_cons_self rfl, hpost, hpre, hpost'⟩

/-- The bench of a mark that no other carriage's mark names straddles at the mark's mouth (R16). -/
theorem bench?_settleMarks {s : State} {n : CarriageName} {k : TransferMark} (hk : (s.car n).mark = some k)
    (hothers : ∀ m, m ≠ n → (s.car m).mark.map (·.bench) ≠ some k.bench) :
    (CarriageName.all.foldl State.settleMark s).bench? k.bench
      = (s.bench? k.bench).map fun v => { v with place := .straddling n k.lane k.mouth } := by
  obtain ⟨pre, post, hsplit, hnpre, hnpost, hpre, hpost⟩ := carriages_split n
  have hbefore : ∀ m, m ∉ pre → (pre.foldl State.settleMark s).car m = s.car m := fun m hm => by
    rw [car_settleMarks pre hpre, if_neg hm]
  have hmark : ((pre.foldl State.settleMark s).car n).mark = some k := by rw [hbefore n hnpre, hk]
  have hbench := bench?_settleMarks_other hpre (s := s) (b := k.bench) fun m hm => hothers m fun he => hnpre (he ▸ hm)
  obtain ⟨benches, heq, hget⟩ := settleMark_marked hmark
  have hdone : ((pre.foldl State.settleMark s).settleMark n).bench? k.bench
      = (s.bench? k.bench).map fun v => { v with place := .straddling n k.lane k.mouth } := by
    rw [heq]
    exact (hget _).trans ((if_pos rfl).trans (by rw [hbench]))
  rw [hsplit, List.foldl_append, List.foldl_cons, ← hdone]
  refine bench?_settleMarks_other hpost fun m hm => ?_
  have hmn : m ≠ n := fun he => hnpost (he ▸ hm)
  rw [car_settleMark, if_neg hmn, car_settleMarks pre hpre]
  split
  · rw [(Carriage.settled_fields _).2.2.1]; exact nofun
  · exact hothers m hmn

/-- A single mark takes its bench out of every list (R16). -/
theorem lane_settleMarks {s : State} {n : CarriageName} {k : TransferMark} (hk : (s.car n).mark = some k)
    (hothers : ∀ m, m ≠ n → (s.car m).mark = none) (j : Nat) :
    ((CarriageName.all.foldl State.settleMark s).lane j).benches = (s.lane j).benches.erase k.bench := by
  obtain ⟨pre, post, hsplit, hnpre, hnpost, -, -⟩ := carriages_split n
  have hbefore : pre.foldl State.settleMark s = s := settleMarks_unmarked fun m hm => hothers m fun he => hnpre (he ▸ hm)
  have hafter : post.foldl State.settleMark (s.settleMark n) = s.settleMark n := settleMarks_unmarked fun m hm => by
    have hmn : m ≠ n := fun he => hnpost (he ▸ hm)
    rw [car_settleMark, if_neg hmn]
    exact hothers m hmn
  rw [hsplit, List.foldl_append, List.foldl_cons, hbefore, hafter, lane_settleMark hk]

/-! ## The locks -/

/-- The lock of a BAY lane at which a bench straddles is set again (R23). -/
def State.relockHeld (s : State) (n : Nat) : State := if s.isBay n && !(s.straddlers n).isEmpty then s.relock n else s

theorem relockHeld_fields (s : State) (n : Nat) : s.relockHeld n = { s with lanes := (s.relockHeld n).lanes } := by
  unfold State.relockHeld
  split <;> rfl

theorem lanes_trans {s t u : State} (h : t = { s with lanes := t.lanes }) (k : u = { t with lanes := u.lanes }) :
    u = { s with lanes := u.lanes } := k.trans (by rw [h])

theorem foldl_relockHeld_fields (l : List Nat) (s : State) : l.foldl State.relockHeld s = { s with lanes := (l.foldl State.relockHeld s).lanes } := by
  induction l generalizing s with
  | nil => rfl
  | cons n rest ih => exact lanes_trans (relockHeld_fields s n) (ih _)

/-- A lane entry relocked, where its lane is a BAY lane with a bench astride. -/
def State.relocked (s : State) (n : Nat) (v : Lane) : Lane :=
  if s.isBay n && !(s.straddlers n).isEmpty then { v with lock := s.lockOf n, waiting := none } else v

theorem relocked_relocked (s : State) (n : Nat) (v : Lane) : s.relocked n (s.relocked n v) = s.relocked n v := by
  unfold State.relocked
  split <;> rfl

theorem lane_relockHeld (s : State) (n j : Nat) : (s.relockHeld n).lane j = if j = n then s.relocked n (s.lane n) else s.lane j := by
  unfold State.relockHeld State.relocked
  split
  · exact s.lane_setLane n j _
  · split
    next h => rw [h]
    next => rfl

theorem relocked_congr {s t : State} (h : t = { s with lanes := t.lanes }) (n : Nat) (v : Lane) : t.relocked n v = s.relocked n v := by
  rw [h]; rfl

theorem lane_foldl_relockHeld (l : List Nat) (s : State) (j : Nat) :
    (l.foldl State.relockHeld s).lane j = if j ∈ l then s.relocked j (s.lane j) else s.lane j := by
  induction l generalizing s with
  | nil => rfl
  | cons n rest ih =>
    rw [List.foldl_cons, ih, relocked_congr (relockHeld_fields s n), lane_relockHeld]
    by_cases hj : j = n
    · subst hj
      simp [relocked_relocked]
    · simp [hj]

theorem straddlers_ne_nil {s : State} {k : Nat} {c : Corridor} (h : StraddlesAt s k c) : s.straddlers k ≠ [] := by
  obtain ⟨e, he, n, hplace⟩ := h
  have hmem : e.1 ∈ s.straddlers k := List.mem_map.2 ⟨e, List.mem_filter.2 ⟨he, by simp [State.straddlesAt, hplace]⟩, rfl⟩
  exact List.ne_nil_of_mem hmem

theorem relocked_lock (s : State) (n : Nat) {v : Lane} (hv : v.lock = none) :
    (s.isBay n = false → (s.relocked n v).lock = none) ∧
    (¬ StraddlesAt s n .f → ¬ StraddlesAt s n .t → (s.relocked n v).lock = none) ∧
    ∀ c : Corridor, s.isBay n = true → StraddlesAt s n c → ¬ StraddlesAt s n c.other → (s.relocked n v).lock = some c := by
  unfold State.relocked
  refine ⟨fun hbay => by simp [hbay, hv], fun hf ht => ?_, fun c hbay hc hother => ?_⟩
  · by_cases hbay : s.isBay n = true
    · split
      · exact (lockOf_of_bay hbay).2 hf ht
      · exact hv
    · simp [hbay, hv]
  · have hne : (s.straddlers n).isEmpty = false := List.isEmpty_eq_false_iff.2 (straddlers_ne_nil hc)
    simp only [hbay, hne, Bool.not_false, Bool.and_self, if_true]
    exact (lockOf_of_bay hbay).1 c hc hother

/-! ## The tables of a start -/

/-- The benches of a start before the marks are settled: unclaimed and unmoved. -/
def State.withoutClaims (s : State) : State := { s with benches := s.benches.mapValues fun _ v => { v with claim := none, lastMoved := 0 } }

/-- The lanes of a start before the locks: nothing under way, no lock, no one waiting. -/
def Lane.restarted (v : Lane) : Lane := { v with incoming := 0, outgoing := 0, lock := none, waiting := none }

/-- The tables with every mark settled and every lane restarted. -/
def State.settledTables (s : State) : State :=
  let t := CarriageName.all.foldl State.settleMark s.withoutClaims
  { t with lanes := t.lanes.mapValues fun _ v => v.restarted }

theorem startInventory_eq (s : State) : s.startInventory = State.laneNumbers.foldl State.relockHeld s.settledTables := rfl

theorem restocked_startInventory (s : State) : Restocked s s.startInventory := by
  have hmarks := restocked_settleMarks CarriageName.all s.withoutClaims
  have hbefore : Restocked s s.withoutClaims := rfl
  have hlanes : Restocked (CarriageName.all.foldl State.settleMark s.withoutClaims) s.settledTables := rfl
  have hlocks : Restocked s.settledTables s.startInventory := by
    rw [startInventory_eq]
    have h := foldl_relockHeld_fields State.laneNumbers s.settledTables
    generalize State.laneNumbers.foldl State.relockHeld s.settledTables = u at h ⊢
    rw [h]; rfl
  exact ((hbefore.trans hmarks).trans hlanes).trans hlocks

theorem startInventory_fields (s : State) :
    s.startInventory.benches = (CarriageName.all.foldl State.settleMark s.withoutClaims).benches ∧
      s.startInventory.carriages = (CarriageName.all.foldl State.settleMark s.withoutClaims).carriages := by
  have h := foldl_relockHeld_fields State.laneNumbers s.settledTables
  rw [startInventory_eq, h]
  exact ⟨rfl, rfl⟩

theorem car_startInventory (s : State) (n : CarriageName) : s.startInventory.car n = (s.car n).settled := by
  have hall : n ∈ CarriageName.all := by cases n <;> decide
  rw [State.car, (startInventory_fields s).2]
  exact (car_settleMarks _ (by decide) s.withoutClaims n).trans (if_pos hall)

theorem bench?_startInventory (s : State) (b : Nat) :
    s.startInventory.bench? b = (CarriageName.all.foldl State.settleMark s.withoutClaims).bench? b := by
  rw [State.bench?, (startInventory_fields s).1]
  rfl

theorem unmoved_startInventory (s : State) : Unmoved s.startInventory := by
  have hbefore : Unmoved s.withoutClaims := by
    intro b v hv
    have hv' : (s.benches.mapValues fun _ v => { v with claim := none, lastMoved := 0 }).get? b = some v := hv
    rw [Table.get?_mapValues] at hv'
    obtain ⟨w, -, rfl⟩ := Option.map_eq_some_iff.1 hv'
    exact ⟨rfl, rfl⟩
  intro b v hv
  rw [bench?_startInventory] at hv
  exact unmoved_settleMarks _ hbefore b v hv

/-- A lane entry after a start: its list after the marks, the lock by the benches astride. -/
theorem lane_startInventory (s : State) (j : Nat) :
    s.startInventory.lane j =
      (if j ∈ State.laneNumbers then s.startInventory.relocked j ((CarriageName.all.foldl State.settleMark s.withoutClaims).lane j).restarted
       else ((CarriageName.all.foldl State.settleMark s.withoutClaims).lane j).restarted) := by
  have hlane : s.settledTables.lane j = ((CarriageName.all.foldl State.settleMark s.withoutClaims).lane j).restarted := by
    simp only [State.settledTables, State.lane, Table.get?_mapValues]
    cases (CarriageName.all.foldl State.settleMark s.withoutClaims).lanes.get? j <;> rfl
  have hrelocked : s.startInventory.relocked j = s.settledTables.relocked j := by
    rw [startInventory_eq]
    exact funext (relocked_congr (foldl_relockHeld_fields _ _) j)
  rw [hrelocked, ← hlane, startInventory_eq]
  exact lane_foldl_relockHeld _ _ j

end Sys2Proof.Machine
end

section
/-! PROOFS. What a start leaves (R15, R16, R23, R29, R68, R99), stage by stage from retained memory. -/

namespace Sys2Proof.Machine

/-! ## What the stages leave alone -/

theorem seatAll_fields {s : State} (h : Unwatched s) (c : Corridor) : s.seatAll c = { s with segments := (s.seatAll c).segments } := by
  have hlinks := seatAll_links h c
  have hfields := (Relayered.seatAll s c).fields
  rw [hlinks] at hfields
  exact hfields

theorem segments_trans {s t u : State} (h : t = { s with segments := t.segments }) (k : u = { t with segments := u.segments }) :
    u = { s with segments := u.segments } := k.trans (by rw [h])

section
variable (s : State) (pins : Pins) (checked : Bool)

/-- The start values that no table or record decides (R15). -/
theorem begunFrom_values (t : State) (lost : Bool) :
    (t.begunFrom pins lost).powered = true ∧ (t.begunFrom pins lost).storeBusy = none ∧ (t.begunFrom pins lost).millis = 0 ∧
    (t.begunFrom pins lost).book = [] ∧ (t.begunFrom pins lost).nextId = 1 ∧ (t.begunFrom pins lost).inputs = pins.present ∧
    (t.begunFrom pins lost).mode = t.startMode ∧ (∀ c, (t.begunFrom pins lost).line c = Line.blank) ∧
    (t.begunFrom pins lost).stops = ⟨Stop.start pins.loopF, Stop.start pins.loopT⟩ ∧
    ∀ l, (t.begunFrom pins lost).link l = Link.start (startNotices t.startMode lost) :=
  ⟨rfl, rfl, rfl, rfl, rfl, rfl, rfl, fun c => by cases c <;> rfl, rfl, fun l => by cases l <;> rfl⟩

/-- What the start values leave alone. -/
theorem begunFrom_kept (t : State) (lost : Bool) :
    (t.begunFrom pins lost).layout = t.layout ∧ (t.begunFrom pins lost).saved = t.saved ∧ (t.begunFrom pins lost).pending = t.pending ∧
    (t.begunFrom pins lost).lanes = t.lanes ∧ (t.begunFrom pins lost).benches = t.benches ∧
    (t.begunFrom pins lost).segments = t.segments ∧ (t.begunFrom pins lost).gates = t.gates ∧
    ∀ n, (t.begunFrom pins lost).car n = t.car n :=
  ⟨rfl, rfl, rfl, rfl, rfl, rfl, rfl, fun _ => rfl⟩

theorem begun_kept : (s.begun pins checked).layout = (s.recorded checked).layout ∧ (s.begun pins checked).saved = (s.recorded checked).saved ∧
    (s.begun pins checked).pending = (s.recorded checked).pending ∧ (s.begun pins checked).lanes = (s.recorded checked).lanes ∧
    (s.begun pins checked).benches = (s.recorded checked).benches ∧ (s.begun pins checked).segments = (s.recorded checked).segments ∧
    (s.begun pins checked).gates = (s.recorded checked).gates ∧ ∀ n, (s.begun pins checked).car n = (s.recorded checked).car n :=
  begunFrom_kept pins (s.recorded checked) _

theorem begun_link (l : LinkId) :
    (s.begun pins checked).link l = Link.start (startNotices (s.recorded checked).startMode (checked && !s.retainedAgrees)) := by
  obtain ⟨-, -, -, -, -, -, -, -, -, hlink⟩ := begunFrom_values pins (s.recorded checked) (checked && !s.retainedAgrees)
  exact hlink l

theorem startGates_kept (c : Corridor) : (s.startGates c).links = s.links ∧ (s.startGates c).segments = s.segments ∧
    (s.startGates c).layout = s.layout ∧ (s.startGates c).inputs = s.inputs := by
  have h := startGates_fields s c
  generalize s.startGates c = t at h ⊢
  rw [h]
  exact ⟨rfl, rfl, rfl, rfl⟩

theorem gated_kept : (s.gated pins checked).links = (s.begun pins checked).links ∧
    (s.gated pins checked).segments = (s.begun pins checked).segments := by
  obtain ⟨hlinks, hsegments, -, -⟩ := startGates_kept (s.begun pins checked) .f
  obtain ⟨hlinks', hsegments', -, -⟩ := startGates_kept ((s.begun pins checked).startGates .f) .t
  exact ⟨hlinks'.trans hlinks, hsegments'.trans hsegments⟩

theorem gated_fields : s.gated pins checked = { s.begun pins checked with gates := (s.gated pins checked).gates } :=
  gates_trans (startGates_fields _ .f) (startGates_fields _ .t)

theorem unwatched_gated : Unwatched (s.gated pins checked) := by
  refine unwatched_of_links (s := s.begun pins checked) (fun l => ?_) (gated_kept s pins checked).1
  rw [begun_link]
  rfl

theorem start_segments : s.start pins checked = { s.gated pins checked with segments := (s.start pins checked).segments } := by
  have hgated := unwatched_gated s pins checked
  have hf := seatAll_fields hgated .f
  exact segments_trans hf (seatAll_fields (unwatched_of_links hgated (seatAll_links hgated .f)) .t)

end

/-- A state that differs from another in its gates and segments alone. -/
structure Begins (b u : State) : Prop where
  fields : u = { b with gates := u.gates, segments := u.segments }

namespace Begins

theorem of_gates_segments {b t u : State} (h : t = { b with gates := t.gates }) (k : u = { t with segments := u.segments }) : Begins b u :=
  ⟨by
    have hgates : u.gates = t.gates := by rw [k]
    rw [hgates]
    exact k.trans (by rw [h])⟩

variable {b u : State} (h : Begins b u)
include h

theorem powered : u.powered = b.powered := by rw [h.fields]
theorem storeBusy : u.storeBusy = b.storeBusy := by rw [h.fields]
theorem millis : u.millis = b.millis := by rw [h.fields]
theorem book : u.book = b.book := by rw [h.fields]
theorem nextId : u.nextId = b.nextId := by rw [h.fields]
theorem saved : u.saved = b.saved := by rw [h.fields]
theorem inputs : u.inputs = b.inputs := by rw [h.fields]
theorem pending : u.pending = b.pending := by rw [h.fields]
theorem layout : u.layout = b.layout := by rw [h.fields]
theorem mode : u.mode = b.mode := by rw [h.fields]
theorem lanes : u.lanes = b.lanes := by rw [h.fields]
theorem benches : u.benches = b.benches := by rw [h.fields]
theorem car (n : CarriageName) : u.car n = b.car n := by rw [h.fields]; rfl
theorem link (l : LinkId) : u.link l = b.link l := by rw [h.fields]; rfl
theorem line (c : Corridor) : u.line c = b.line c := by rw [h.fields]; rfl
theorem stops : u.stops = b.stops := by rw [h.fields]

end Begins

theorem begins_start (s : State) (pins : Pins) (checked : Bool) : Begins (s.begun pins checked) (s.start pins checked) :=
  .of_gates_segments (gated_fields s pins checked) (start_segments s pins checked)

theorem kept_of_carriages {s t : State} (h : t = { s with carriages := t.carriages }) : t.layout = s.layout ∧ t.saved = s.saved ∧
    t.pending = s.pending ∧ t.segments = s.segments ∧ t.gates = s.gates ∧ t.lanes = s.lanes ∧ t.benches = s.benches := by
  rw [h]
  exact ⟨rfl, rfl, rfl, rfl, rfl, rfl, rfl⟩

theorem Restocked.kept {s t : State} (h : Restocked s t) : t.layout = s.layout ∧ t.saved = s.saved ∧ t.pending = s.pending ∧
    t.segments = s.segments ∧ t.gates = s.gates := by
  rw [show t = _ from h]
  exact ⟨rfl, rfl, rfl, rfl, rfl⟩

section
variable (s : State) (pins : Pins) (checked : Bool)

theorem recorded_kept : (s.recorded checked).layout = (s.stocked checked).layout ∧ (s.recorded checked).saved = (s.stocked checked).saved ∧
    (s.recorded checked).pending = (s.stocked checked).pending ∧ (s.recorded checked).segments = (s.stocked checked).segments ∧
    (s.recorded checked).gates = (s.stocked checked).gates ∧ (s.recorded checked).lanes = (s.stocked checked).lanes ∧
    (s.recorded checked).benches = (s.stocked checked).benches :=
  kept_of_carriages (foldl_startRecord_fields CarriageName.all (s.stocked checked))

theorem stocked_kept : (s.stocked checked).layout = (s.retained checked).loadLayout.layout ∧
    (s.stocked checked).saved = (s.retained checked).saved ∧ (s.stocked checked).pending = (s.retained checked).pending ∧
    (s.stocked checked).segments = (s.retained checked).segments ∧ (s.stocked checked).gates = (s.retained checked).gates :=
  (restocked_startInventory (s.retained checked).loadLayout).kept

theorem retained_kept : (s.retained checked).saved = s.saved ∧ (s.retained checked).pending = s.pending := by
  unfold State.retained
  split <;> exact ⟨rfl, rfl⟩

/-- The layout, the saved layout, the commands waiting, and the records that the seating and the gates begin with. -/
theorem recorded_layout : (s.recorded checked).layout = (if s.saved.valid = true then s.saved.content else Layout.empty) ∧
    (s.recorded checked).saved = s.saved ∧ (s.recorded checked).pending = s.pending ∧
    (s.recorded checked).segments = (s.retained checked).segments ∧ (s.recorded checked).gates = (s.retained checked).gates := by
  obtain ⟨hsaved, hpending⟩ := retained_kept s checked
  obtain ⟨hlayout1, hsaved1, hpending1, hsegments1, hgates1, -, -⟩ := recorded_kept s checked
  obtain ⟨hlayout2, hsaved2, hpending2, hsegments2, hgates2⟩ := stocked_kept s checked
  have hloaded : (s.retained checked).loadLayout.layout =
      (if (s.retained checked).saved.valid = true then (s.retained checked).saved.content else Layout.empty) := rfl
  refine ⟨?_, hsaved1.trans (hsaved2.trans hsaved), hpending1.trans (hpending2.trans hpending), hsegments1.trans hsegments2,
    hgates1.trans hgates2⟩
  rw [hlayout1, hlayout2, hloaded, hsaved]

/-! ## The check, the lanes and the benches -/

/-- The check reads the layout, the lanes and the benches alone (R8). -/
theorem check_congr {s t : State} (hy : t.layout = s.layout) (hl : t.lanes = s.lanes) (hb : t.benches = s.benches) : t.check = s.check := by
  have h : ∀ u : State, u.check = ({ State.reset with layout := u.layout, lanes := u.lanes, benches := u.benches } : State).check :=
    fun _ => rfl
  rw [h t, h s, hy, hl, hb]

theorem start_check : (s.start pins checked).check = (s.recorded checked).check := by
  have h := begins_start s pins checked
  obtain ⟨hlayout, -, -, hlanes, hbenches, -, -, -⟩ := begun_kept s pins checked
  exact check_congr (h.layout.trans hlayout) (h.lanes.trans hlanes) (h.benches.trans hbenches)

theorem start_tables : (s.start pins checked).layout = (s.recorded checked).layout ∧ (s.start pins checked).lanes = (s.stocked checked).lanes ∧
    (s.start pins checked).benches = (s.stocked checked).benches := by
  have h := begins_start s pins checked
  obtain ⟨-, -, -, -, -, hlanes, hbenches⟩ := recorded_kept s checked
  obtain ⟨hlayout', -, -, hlanes', hbenches', -, -, -⟩ := begun_kept s pins checked
  exact ⟨h.layout.trans hlayout', h.lanes.trans (hlanes'.trans hlanes), h.benches.trans (hbenches'.trans hbenches)⟩

/-! ## The carriages -/

theorem stocked_layout : (s.stocked checked).layout = (s.recorded checked).layout := (recorded_kept s checked).1.symm

/-- A carriage record after a start, from what retained memory holds (R16, R68). -/
theorem start_car (n : CarriageName) : (s.start pins checked).car n =
    ((s.retained checked).car n).settled.startedWith (s.start pins checked).layout.unit.allowance
      ((s.start pins checked).item n).isSome := by
  have hall : n ∈ CarriageName.all := by cases n <;> decide
  have hlayout := (start_tables s pins checked).1
  have hcar : (s.start pins checked).car n = (s.recorded checked).car n := by
    obtain ⟨-, -, -, -, -, -, -, hcar⟩ := begun_kept s pins checked
    exact ((begins_start s pins checked).car n).trans (hcar n)
  have hitem : ((s.start pins checked).item n).isSome = (s.stocked checked).hasRecord n := by
    rw [State.hasRecord, State.item, State.item, hlayout, ← stocked_layout]
  have hstocked : (s.stocked checked).car n = ((s.retained checked).car n).settled := car_startInventory _ n
  rw [hcar, hitem, hlayout, ← stocked_layout, ← hstocked]
  exact (car_foldl_startRecord _ (by decide) _ n).trans (if_pos hall)

/-! ## The segments -/

theorem start_seg (c : Corridor) (k : Nat) : (s.start pins checked).seg c k =
    if k ∈ (s.start pins checked).segsInUse c then
      ((s.retained checked).seg c k).cleared.seatedFor ((s.start pins checked).wanting c k)
    else ((s.retained checked).seg c k).cleared := by
  have hf := Relayered.seatAll (s.gated pins checked) .f
  have hall := hf.trans (.seatAll _ .t)
  have hseg : ∀ d, (s.gated pins checked).seg d k = (s.retained checked).seg d k := fun d => by
    have hsegments : (s.gated pins checked).segments = (s.retained checked).segments := by
      obtain ⟨-, -, -, -, -, hbegun, -, -⟩ := begun_kept s pins checked
      obtain ⟨-, -, -, hrecorded, -⟩ := recorded_layout s checked
      exact (gated_kept s pins checked).2.trans (hbegun.trans hrecorded)
    exact State.seg_of_segments hsegments d k
  rw [State.start_eq, hall.segsInUse, hall.wanting, seg_seatAll, seg_seatAll, seg_seatAll, hf.segsInUse, hf.wanting]
  cases c <;> simp [hseg]

/-! ## The gates -/

theorem levelAt_congr {s t : State} (hy : t.layout = s.layout) (hi : t.inputs = s.inputs) (c : Corridor) (k : Nat) :
    t.levelAt c k = s.levelAt c k := by
  have hlevel : t.inputLevel = s.inputLevel := by
    funext i
    rw [State.inputLevel, State.inputLevel, hi]
  rw [State.levelAt, State.levelAt, State.gateInput, State.gateInput, hy, hlevel]

theorem start_gate (c : Corridor) (k : Nat) : (s.start pins checked).gate c k =
    ({ Gate.blank with service := ((s.retained checked).gate c k).service } : Gate).primedBy ((s.start pins checked).levelAt c k) := by
  have hgate : (s.start pins checked).gate c k = (s.gated pins checked).gate c k := by
    have h := congrArg State.gates (start_segments s pins checked)
    rw [State.gate, State.gate, h]
  have hbegun : ∀ d, (s.begun pins checked).gate d k = (s.retained checked).gate d k := fun d => by
    have hgates : (s.begun pins checked).gates = (s.retained checked).gates := by
      obtain ⟨-, -, -, -, -, -, hbegun, -⟩ := begun_kept s pins checked
      obtain ⟨-, -, -, -, hrecorded⟩ := recorded_layout s checked
      exact hbegun.trans hrecorded
    rw [State.gate, State.gate, hgates]
  have hlevel : (s.start pins checked).levelAt c k = (s.begun pins checked).levelAt c k := by
    have h := begins_start s pins checked
    exact levelAt_congr h.layout h.inputs c k
  have hlevel' : ∀ d, ((s.begun pins checked).startGates .f).levelAt d k = (s.begun pins checked).levelAt d k := fun d => by
    obtain ⟨-, -, hlayout, hinputs⟩ := startGates_kept (s.begun pins checked) .f
    exact levelAt_congr hlayout hinputs d k
  rw [hgate, State.gated, gate_startGates, gate_startGates, gate_startGates, hlevel]
  cases c <;> simp [hbegun, hlevel']

end

/-! ## Retained memory that stands, and retained memory that is lost -/

theorem retained_standing {s : State} {checked : Bool} (h : checked = false ∨ s.retainedAgrees = true) : s.retained checked = s := by
  unfold State.retained
  rcases h with h | h <;> simp [h]

theorem retained_lost {s : State} {checked : Bool} (hc : checked = true) (h : s.retainedAgrees = false) :
    s.retained checked = s.clearRetained := by
  unfold State.retained
  simp [hc, h]

theorem clearRetained_seg (s : State) (c : Corridor) (k : Nat) : s.clearRetained.seg c k = Segment.blank := by cases c <;> rfl
theorem clearRetained_gate (s : State) (c : Corridor) (k : Nat) : s.clearRetained.gate c k = Gate.blank := by cases c <;> rfl
theorem clearRetained_car (s : State) (n : CarriageName) : s.clearRetained.car n = Carriage.blank := by cases n <;> rfl

/-- No mark is settled where no carriage has one. -/
theorem settleMarks_of_unmarked {s : State} (h : ∀ n, (s.car n).mark = none) :
    CarriageName.all.foldl State.settleMark s.withoutClaims = s.withoutClaims := settleMarks_unmarked fun m _ => h m

/-- With retained memory lost there is no bench and no list. -/
theorem stocked_lost {s : State} {checked : Bool} (hc : checked = true) (h : s.retainedAgrees = false) :
    (s.stocked checked).benches = Table.empty ∧ ∀ n, ((s.stocked checked).lane n).benches = [] := by
  have hmarks : CarriageName.all.foldl State.settleMark s.clearRetained.loadLayout.withoutClaims = s.clearRetained.loadLayout.withoutClaims :=
    settleMarks_of_unmarked fun n => by
      have hcar : s.clearRetained.loadLayout.car n = Carriage.blank := clearRetained_car s n
      rw [hcar]; rfl
  rw [State.stocked, retained_lost hc h]
  refine ⟨?_, fun n => ?_⟩
  · rw [(startInventory_fields _).1, hmarks]; rfl
  · rw [lane_startInventory, hmarks]
    split
    · unfold State.relocked
      split <;> rfl
    · rfl

theorem startedWith_links (v : Carriage) (a : Nat) (b : Bool) : (v.startedWith a b).link = .up ∧ (v.startedWith a b).misses = 0 ∧
    (v.startedWith a b).lastAnswer = none ∧ (v.startedWith a b).returned = false := by
  unfold Carriage.startedWith
  split <;> exact ⟨rfl, rfl, rfl, rfl⟩

theorem startedWith_kept (v : Carriage) (a : Nat) (b : Bool) : (v.startedWith a b).p = v.p ∧ (v.startedWith a b).load = v.load ∧
    (v.startedWith a b).mark = v.mark := by
  unfold Carriage.startedWith
  split <;> exact ⟨rfl, rfl, rfl⟩

/-- Carriages without a position want no segment. -/
theorem wanting_unplaced {s : State} (h : ∀ n, (s.car n).p = none) (c : Corridor) (k : Nat) : s.wanting c k = [] := by
  have huncertain : ∀ n, s.uncertain n = none := fun n => by
    rw [State.uncertain, h n]
    cases s.item n <;> rfl
  simp [State.wanting, huncertain]

/-- The lock and the counts of a lane after a start (R23). -/
theorem start_lane (s : State) (pins : Pins) (checked : Bool) (k : Nat) :
    ((s.start pins checked).lane k).incoming = 0 ∧ ((s.start pins checked).lane k).outgoing = 0 ∧
      ((s.start pins checked).lane k).waiting = none ∧
      ((s.start pins checked).isBay k = false → ((s.start pins checked).lane k).lock = none) ∧
      (¬ StraddlesAt (s.start pins checked) k .f → ¬ StraddlesAt (s.start pins checked) k .t →
        ((s.start pins checked).lane k).lock = none) ∧
      ∀ c : Corridor, 1 ≤ k → k ≤ 120 → (s.start pins checked).isBay k = true → StraddlesAt (s.start pins checked) k c →
        ¬ StraddlesAt (s.start pins checked) k c.other → ((s.start pins checked).lane k).lock = some c := by
  obtain ⟨hlayout, hlanes, hbenches⟩ := start_tables s pins checked
  have hbay : (s.start pins checked).isBay k = (s.stocked checked).isBay k := by
    rw [State.isBay, State.isBay, State.laneItem, State.laneItem, hlayout, ← stocked_layout]
  have hstraddles : ∀ c, StraddlesAt (s.start pins checked) k c ↔ StraddlesAt (s.stocked checked) k c := fun c => by
    rw [StraddlesAt, StraddlesAt, hbenches]
  have hlane : (s.start pins checked).lane k = (s.stocked checked).lane k := by rw [State.lane, State.lane, hlanes]
  have heq := lane_startInventory (s.retained checked).loadLayout k
  rw [← State.stocked] at heq
  simp only [hbay, hstraddles, hlane, heq]
  generalize (CarriageName.all.foldl State.settleMark (s.retained checked).loadLayout.withoutClaims).lane k = v
  have hlock := relocked_lock (s.stocked checked) k (v := v.restarted) rfl
  by_cases hk : k ∈ State.laneNumbers
  · rw [if_pos hk]
    have hrest : ((s.stocked checked).relocked k v.restarted).incoming = 0 ∧ ((s.stocked checked).relocked k v.restarted).outgoing = 0 ∧
        ((s.stocked checked).relocked k v.restarted).waiting = none := by
      unfold State.relocked
      split <;> exact ⟨rfl, rfl, rfl⟩
    exact ⟨hrest.1, hrest.2.1, hrest.2.2, hlock.1, hlock.2.1, fun c _ _ => hlock.2.2 c⟩
  · rw [if_neg hk]
    exact ⟨rfl, rfl, rfl, fun _ => rfl, fun _ _ => rfl, fun c h1 h2 => absurd ((mem_laneNumbers k).2 ⟨h1, h2⟩) hk⟩

/-- The link record of a start (R172, R173). -/
theorem start_link (s : State) (pins : Pins) (checked : Bool) (l : LinkId) :
    (s.start pins checked).link l = Link.start (startNotices (s.start pins checked).mode (checked && !s.retainedAgrees)) := by
  have h := begins_start s pins checked
  obtain ⟨-, -, -, -, -, -, hmode, -, -, -⟩ := begunFrom_values pins (s.recorded checked) (checked && !s.retainedAgrees)
  rw [h.link, h.mode, begun_link, State.begun, hmode]

theorem start_mode (s : State) (pins : Pins) (checked : Bool) :
    (s.start pins checked).mode = (if s.saved.valid = true ∧ (s.start pins checked).check = none then .running else .configuring) := by
  have hmode : (s.start pins checked).mode = (s.recorded checked).startMode := by
    obtain ⟨-, -, -, -, -, -, hmode, -, -, -⟩ := begunFrom_values pins (s.recorded checked) (checked && !s.retainedAgrees)
    exact (begins_start s pins checked).mode.trans hmode
  rw [hmode, start_check, State.startMode, (recorded_layout s checked).2.1]
  simp only [Bool.and_eq_true, Option.isNone_iff_eq_none]

theorem primedBy_fields (g : Gate) (input : Option Level) : (g.primedBy input).misses = g.misses ∧ (g.primedBy input).rising = g.rising ∧
    (g.primedBy input).duration = g.duration ∧ (g.primedBy input).attributed = g.attributed ∧ (g.primedBy input).standstill = g.standstill ∧
    (g.primedBy input).outcome = g.outcome ∧ (g.primedBy input).service = g.service := by
  cases input <;> exact ⟨rfl, rfl, rfl, rfl, rfl, rfl, rfl⟩

end Sys2Proof.Machine
end

section
/-! PROOFS. The two obligations about starts (R15, R16, R23, R68). -/

namespace Sys2Proof.Machine

section
variable (s : State) (pins : Pins) (checked : Bool)

/-- The values of a start that its tables do not decide. -/
theorem start_values : (s.start pins checked).powered = true ∧ (s.start pins checked).storeBusy = none ∧
    (s.start pins checked).millis = 0 ∧ (s.start pins checked).book = [] ∧ (s.start pins checked).nextId = 1 ∧
    (s.start pins checked).saved = s.saved ∧ (s.start pins checked).inputs = pins.present ∧
    (s.start pins checked).pending = s.pending ∧ (∀ c, (s.start pins checked).line c = Line.blank) ∧
    (s.start pins checked).stops = ⟨Stop.start pins.loopF, Stop.start pins.loopT⟩ := by
  have h := begins_start s pins checked
  obtain ⟨hpowered, hstore, hmillis, hbook, hid, hinputs, -, hline, hstops, -⟩ :=
    begunFrom_values pins (s.recorded checked) (checked && !s.retainedAgrees)
  obtain ⟨-, hsaved, hpending, -, -, -, -, -⟩ := begun_kept s pins checked
  obtain ⟨-, hsaved', hpending', -, -⟩ := recorded_layout s checked
  exact ⟨h.powered.trans hpowered, h.storeBusy.trans hstore, h.millis.trans hmillis, h.book.trans hbook, h.nextId.trans hid,
    h.saved.trans (hsaved.trans hsaved'), h.inputs.trans hinputs, h.pending.trans (hpending.trans hpending'),
    fun c => (h.line c).trans (hline c), h.stops.trans hstops⟩

theorem startNotices_eq (m : UnitMode) (agrees : Bool) : startNotices m (checked && !agrees) =
    ⟨.started m, 0, none⟩ :: (if checked = true ∧ agrees = false then [⟨.retainedLost, 0, none⟩] else []) := by
  cases checked <;> cases agrees <;> rfl

/-- Every bench of a start is unclaimed and unmoved (R29). -/
theorem unmoved_start : Unmoved (s.start pins checked) := by
  intro b v hv
  rw [State.bench?, (start_tables s pins checked).2.2] at hv
  exact unmoved_startInventory _ b v hv

/-- The layers of a segment after a start (R93). -/
theorem start_layers (c : Corridor) (k : Nat) : ((s.start pins checked).seg c k).running = none ∧ ((s.start pins checked).seg c k).waiting = [] ∧
    (k ∉ (s.start pins checked).segsInUse c ∨ (∀ n, (s.start pins checked).wanting c k ≠ [n]) →
      ((s.start pins checked).seg c k).standing = none) ∧
    (k ∈ (s.start pins checked).segsInUse c → ∀ n, (s.start pins checked).wanting c k = [n] →
      ((s.start pins checked).seg c k).standing = some n) ∧
    (k ∈ (s.start pins checked).segsInUse c → 2 ≤ ((s.start pins checked).wanting c k).length →
      ((s.start pins checked).seg c k).fence ≠ none) := by
  rw [start_seg]
  by_cases hk : k ∈ (s.start pins checked).segsInUse c
  · rw [if_pos hk]
    refine ⟨Segment.seatedFor_running _ _, Segment.seatedFor_waiting _ _, fun h => ?_, fun _ n hn => ?_, fun _ h => ?_⟩
    · exact Segment.seatedFor_standing (h.resolve_left (Classical.not_not.2 hk))
    · rw [hn]; rfl
    · rw [Segment.seatedFor_fence_two h]; exact Option.some_ne_none _
  · rw [if_neg hk]
    exact ⟨rfl, rfl, fun _ => rfl, fun h => absurd h hk, fun h => absurd h hk⟩

/-- The gate records after a start (R99, log 81). -/
theorem start_gateRecord (c : Corridor) (k : Nat) :
    ((s.start pins checked).gate c k).misses = 0 ∧ ((s.start pins checked).gate c k).rising = none ∧
    ((s.start pins checked).gate c k).duration = none ∧ ((s.start pins checked).gate c k).attributed = none ∧
    ((s.start pins checked).gate c k).standstill = false ∧ ((s.start pins checked).gate c k).outcome = .none ∧
    (∀ i, (s.start pins checked).gateInput c k = some i →
      ((s.start pins checked).gate c k).level = if i ∈ pins.present then .present else .clear) ∧
    ((s.start pins checked).gate c k).samples =
      ⟨((s.start pins checked).gate c k).level, ((s.start pins checked).gate c k).level, ((s.start pins checked).gate c k).level⟩ := by
  obtain ⟨-, -, -, -, -, -, hinputs, -, -, -⟩ := start_values s pins checked
  rw [start_gate]
  obtain ⟨hmisses, hrising, hduration, hattributed, hstandstill, houtcome, -⟩ :=
    primedBy_fields { Gate.blank with service := ((s.retained checked).gate c k).service } ((s.start pins checked).levelAt c k)
  refine ⟨hmisses, hrising, hduration, hattributed, hstandstill, houtcome, fun i hi => ?_, ?_⟩
  · rw [State.levelAt, hi, Option.map_some, State.inputLevel, hinputs]
    simp [Gate.primedBy]
  · cases (s.start pins checked).levelAt c k <;> rfl

end

/-- Retained memory that is lost leaves no bench, list, fence, position, load or mark (R16). -/
theorem start_lost {s : State} {checked : Bool} (pins : Pins) (hc : checked = true) (h : s.retainedAgrees = false) :
    (s.start pins checked).benches = Table.empty ∧ (∀ n, ((s.start pins checked).lane n).benches = []) ∧
      (∀ c k, ((s.start pins checked).seg c k).fence = none) ∧ (∀ c k, ((s.start pins checked).gate c k).service = .inService) ∧
      ∀ n, ((s.start pins checked).car n).p = none ∧ ((s.start pins checked).car n).load = .empty
        ∧ ((s.start pins checked).car n).mark = none := by
  obtain ⟨hbenches, hlists⟩ := stocked_lost hc h
  obtain ⟨-, htables, htables'⟩ := start_tables s pins checked
  have hcar : ∀ n, ((s.start pins checked).car n).p = none ∧ ((s.start pins checked).car n).load = .empty
      ∧ ((s.start pins checked).car n).mark = none := by
    intro n
    rw [start_car, retained_lost hc h, clearRetained_car]
    obtain ⟨hp, hload, hmark⟩ := startedWith_kept Carriage.blank.settled (s.start pins checked).layout.unit.allowance
      ((s.start pins checked).item n).isSome
    exact ⟨hp, hload, hmark⟩
  refine ⟨htables'.trans hbenches, fun n => ?_, fun c k => ?_, fun c k => ?_, hcar⟩
  · rw [State.lane, htables]
    exact hlists n
  · rw [start_seg, wanting_unplaced fun n => (hcar n).1, retained_lost hc h, clearRetained_seg]
    split <;> rfl
  · obtain ⟨-, -, -, -, -, -, hservice⟩ :=
      primedBy_fields { Gate.blank with service := ((s.retained checked).gate c k).service } ((s.start pins checked).levelAt c k)
    rw [start_gate, hservice, retained_lost hc h, clearRetained_gate]
    rfl

/-- Retained memory that stands keeps every fence and every gate's service (R14, R16). -/
theorem start_standing {s : State} {checked : Bool} (pins : Pins) (h : checked = false ∨ s.retainedAgrees = true) :
    (∀ c k f, (s.seg c k).fence = some f → ((s.start pins checked).seg c k).fence = some f) ∧
      ∀ c k, ((s.start pins checked).gate c k).service = (s.gate c k).service := by
  refine ⟨fun c k f hf => ?_, fun c k => ?_⟩
  · rw [start_seg, retained_standing h]
    split
    · exact Segment.seatedFor_fenced (g := (s.seg c k).cleared) hf _
    · exact hf
  · obtain ⟨-, -, -, -, -, -, hservice⟩ :=
      primedBy_fields { Gate.blank with service := ((s.retained checked).gate c k).service } ((s.start pins checked).levelAt c k)
    rw [start_gate, hservice, retained_standing h]

/-- Settles O21, value by value and table by table. -/
theorem startLeavesTheStartValues : Obligations.StartLeavesTheStartValues := by
  unfold Obligations.StartLeavesTheStartValues
  intro s pins checked
  obtain ⟨hpowered, hstore, hmillis, hbook, hid, hsaved, hinputs, hpending, hline, hstops⟩ := start_values s pins checked
  refine ⟨hpowered, hstore, hmillis, hbook, hid, hsaved, hinputs, hpending,
    (start_tables s pins checked).1.trans (recorded_layout s checked).1, start_mode s pins checked, fun l => ?_,
    fun hc h => start_lost pins hc h, fun h => start_standing pins h, hline, fun n => ?_, hstops, start_lane s pins checked,
    unmoved_start s pins checked, start_layers s pins checked, start_gateRecord s pins checked⟩
  · rw [start_link, startNotices_eq]
    rfl
  · rw [start_car]
    exact startedWith_links _ _ _

/-! ## What a start makes of the carriages and of a transfer mark -/

/-- The record of a carriage with an item, from the record before the start (R68). -/
theorem created_settled (v : Carriage) (a : Nat) : v.settled.created a =
    { Carriage.blank with
      state := if v.p = none ∨ 1500 ≤ v.u + a then .unplaced else .unhomed
      p := v.p
      u := if v.p = none then v.u else min 1500 (v.u + a)
      uBase := if v.p = none then v.u else min 1500 (v.u + a)
      load := if v.mark = none then v.load else .straddled } := by
  obtain ⟨hp, hu, hmark, hload⟩ := v.settled_fields
  rw [Carriage.created, hp, hu, hmark, hload]
  rfl

section
variable {s : State} {pins : Pins} {checked : Bool} {n : CarriageName} {k : TransferMark} (h : checked = false ∨ s.retainedAgrees = true)
include h

theorem start_lane_list (hk : (s.car n).mark = some k) (hothers : ∀ m, m ≠ n → (s.car m).mark = none) (j : Nat) :
    ((s.start pins checked).lane j).benches = (s.lane j).benches.erase k.bench := by
  have hlane : (s.start pins checked).lane j = (s.stocked checked).lane j := by
    rw [State.lane, State.lane, (start_tables s pins checked).2.1]
  have hmarks : ((CarriageName.all.foldl State.settleMark (s.retained checked).loadLayout.withoutClaims).lane j).benches =
      (s.lane j).benches.erase k.bench := by
    rw [retained_standing h]
    exact lane_settleMarks (s := s.loadLayout.withoutClaims) hk hothers j
  rw [hlane, State.stocked, lane_startInventory, ← hmarks]
  split
  · unfold State.relocked
    split <;> rfl
  · rfl

/-- The bench of a mark straddles after a start where its record is there. -/
theorem start_bench_astride (hk : (s.car n).mark = some k) (hothers : ∀ m, m ≠ n → (s.car m).mark.map (·.bench) ≠ some k.bench)
    {v : Bench} (hv : s.bench? k.bench = some v) :
    ((s.start pins checked).bench? k.bench).map Bench.place = some (.straddling n k.lane k.mouth) := by
  have hbench : (s.start pins checked).bench? k.bench = (s.stocked checked).bench? k.bench := by
    rw [State.bench?, State.bench?, (start_tables s pins checked).2.2]
  have hunclaimed : s.loadLayout.withoutClaims.bench? k.bench = some { v with claim := none, lastMoved := 0 } := by
    refine (Table.get?_mapValues _ s.benches k.bench).trans ?_
    have hget : s.benches.get? k.bench = some v := hv
    rw [hget]; rfl
  have hmarks := bench?_settleMarks (s := s.loadLayout.withoutClaims) hk hothers
  rw [hunclaimed] at hmarks
  rw [hbench, State.stocked, bench?_startInventory, retained_standing h, hmarks]
  rfl

theorem start_straddles (hk : (s.car n).mark = some k) (hothers : ∀ m, m ≠ n → (s.car m).mark.map (·.bench) ≠ some k.bench)
    {v : Bench} (hv : s.bench? k.bench = some v) : StraddlesAt (s.start pins checked) k.lane k.mouth := by
  obtain ⟨w, hw, hplace⟩ := Option.map_eq_some_iff.1 (start_bench_astride (pins := pins) h hk hothers hv)
  exact ⟨(k.bench, w), mem_entries_of_get? _ _ _ hw, n, hplace⟩

end

/-- Settles O22. -/
theorem startPlacesTheCarriages : Obligations.StartPlacesTheCarriages := by
  unfold Obligations.StartPlacesTheCarriages
  intro s pins checked n h
  have hcar := start_car s pins checked n
  rw [retained_standing h] at hcar
  refine ⟨fun hitem => ?_, fun k v hk hothers hv => ?_⟩
  · rw [hcar, Option.isSome_iff_ne_none.2 hitem, Carriage.startedWith, if_pos rfl, created_settled]
  · obtain ⟨-, hload, hmark⟩ := startedWith_kept (s.car n).settled (s.start pins checked).layout.unit.allowance
      ((s.start pins checked).item n).isSome
    obtain ⟨-, -, hmark', hload'⟩ := (s.car n).settled_fields
    have hmarked : (s.car n).mark ≠ none := by rw [hk]; exact Option.some_ne_none k
    refine ⟨start_bench_astride h hk hothers hv, ?_, ?_, fun hall j => start_lane_list h hk hall j, fun h1 h2 hbay hother => ?_⟩
    · rw [hcar, hload, hload', if_neg hmarked]
    · rw [hcar, hmark, hmark']
    · obtain ⟨-, -, -, -, -, hlock⟩ := start_lane s pins checked k.lane
      exact hlock k.mouth h1 h2 hbay (start_straddles h hk hothers hv) hother

end Sys2Proof.Machine
end

section
/-! PROOFS. Every step ends with no allocator run owed (R69, log 15): an event settles the runs it owes, and what is done beside events
owes none. -/

namespace Sys2Proof.Machine

/-- No run is owed after, where none was before. -/
structure Settles (s t : State) : Prop where
  settled : NothingOwed s → NothingOwed t

namespace Settles

theorem refl (s : State) : Settles s s := ⟨id⟩
theorem trans {s t u : State} (h : Settles s t) (k : Settles t u) : Settles s u := ⟨fun hs => k.settled (h.settled hs)⟩
theorem of_owed {s t : State} (h : t.owed = s.owed) : Settles s t := ⟨fun hs => h.trans hs⟩
theorem of_nothingOwed {s t : State} (h : NothingOwed t) : Settles s t := ⟨fun _ => h⟩
theorem ite {s t u : State} {b : Prop} [Decidable b] (h : Settles s t) (k : Settles s u) : Settles s (if b then t else u) := by
  split <;> assumption

/-! ## Ports and events -/

theorem answer (s : State) (l : LinkId) (w : ReqWord) (r : Reply) : Settles s (s.answer l w r) := of_owed rfl
theorem takeLine (s : State) (l : LinkId) (w : ReqWord) : Settles s (s.takeLine l w) := of_owed rfl
theorem overrunLine (s : State) (l : LinkId) : Settles s (s.overrunLine l) := of_owed rfl

theorem answerIsSent (s : State) (l : LinkId) : Settles s (s.answerIsSent l) := by
  unfold State.answerIsSent
  split
  · exact refl s
  · exact ite (of_owed rfl) (refl s)

theorem request {α : Type} (s : State) (l : LinkId) (w : ReqWord) (form : α → Bool) (q : Req α) (serve : State → α → Served) :
    Settles s (request s l w form q serve) := by
  unfold Machine.request
  refine ite (refl s) (ite (overrunLine s l) ?_)
  split
  · exact (takeLine ..).trans (answer ..)
  · simp only [served]
    have h := fun u => State.finish_nothingOwed (s.takeLine l w) u
    split
    · exact (of_nothingOwed (h _)).trans (answer ..)
    · exact of_nothingOwed (h _)

theorem event (s : State) (g : State → State) : Settles s (event s g) := by
  unfold Machine.event
  exact ite (of_nothingOwed (State.finish_nothingOwed s _)) (refl s)

theorem start (s t : State) (pins : Pins) (checked : Bool) : Settles s (t.start pins checked) := by
  refine of_nothingOwed ?_
  have h : ∀ b u : State, Begins b u → u.owed = b.owed := fun b u hb => by rw [hb.fields]
  exact h _ _ (begins_start t pins checked)

theorem modLink (s : State) (l : LinkId) (g : Link → Link) : Settles s (s.modLink l g) := of_owed rfl

theorem restart (s t : State) (l : LinkId) (pins : Pins) : Settles s (t.restart l pins) := (start s t pins false).trans (modLink ..)

theorem pending (s : State) (l : List Instr) : Settles s { s with pending := l } := of_owed rfl

/-! ## The drive lines -/

theorem modLine (s : State) (c : Corridor) (g : Line → Line) : Settles s (s.modLine c g) := of_owed rfl

theorem nextExchange (s : State) (c : Corridor) : Settles s (s.nextExchange c) := by
  unfold State.nextExchange
  simp only []
  refine ite (refl s) ?_
  split
  · exact refl s
  · exact of_owed rfl

theorem cycleDone (s : State) (c : Corridor) : Settles s (s.cycleDone c) := by
  unfold State.cycleDone
  exact ite (of_nothingOwed (State.settle_nothingOwed _)) (refl s)

theorem endExchange (s : State) (c : Corridor) : Settles s (s.endExchange c) :=
  ((modLine ..).trans (nextExchange ..)).trans (cycleDone ..)

theorem beginCycle (s : State) (c : Corridor) : Settles s (s.beginCycle c) :=
  ((modLine ..).trans (nextExchange ..)).trans (cycleDone ..)

theorem atLeast (s : State) (m : Nat) : Settles s (s.atLeast m) := of_owed rfl

theorem finish (s b u : State) : Settles s (b.finish u) := of_nothingOwed (State.finish_nothingOwed b u)

theorem answerArrives (s : State) (c : Corridor) (a : StatusAnswer) : Settles s (s.answerArrives c a) := by
  unfold State.answerArrives
  split
  · exact refl s
  · refine ite (refl s) (ite ?_ (modLine ..))
    split
    · exact (ite (refl s) (finish ..)).trans (endExchange ..)
    · exact endExchange ..

theorem windowCloses (s : State) (c : Corridor) : Settles s (s.windowCloses c) := by
  unfold State.windowCloses
  split
  · exact refl s
  · simp only []
    split
    · exact (finish s _ _).trans (endExchange ..)
    · exact (atLeast ..).trans (endExchange ..)

theorem endBroadcast (s : State) (c : Corridor) (e : Nat) : Settles s (s.endBroadcast c e) := by
  unfold State.endBroadcast
  have h : Settles s ((s.atLeast e).modLine c fun w => { w with broadcastEnds := none }) := .of_owed rfl
  exact h.trans (ite (modLine ..) ((nextExchange ..).trans (cycleDone ..)))

theorem sendBroadcast (s : State) (c : Corridor) : Settles s (s.sendBroadcast c) := by
  unfold State.sendBroadcast
  split
  · exact endBroadcast ..
  · exact ite (modLine ..) (refl s)

end Settles

/-! ## The step -/

theorem settles_of_next {s u t : State} (h : Host.Outcome.next (φ := Fault) (ρ := Refusal) u = .next t) (hk : Settles s u) :
    Settles s t := Host.Outcome.next.inj h ▸ hk

/-- The commands that are neither requests nor events. -/
theorem settles_exec (i : Instr) (s t : State) (h : exec i s = .next t) : Settles s t := by
  cases i with
  | powerOn pins => exact settles_of_next h (.start ..)
  | restart l q pins =>
    refine settles_of_next h (.ite (.refl s) (.ite (.overrunLine ..) ?_))
    split
    · exact (Settles.takeLine ..).trans (.answer ..)
    · exact .ite ((Settles.takeLine ..).trans (.answer ..)) (Settles.restart ..)
  | badLine l cause => exact settles_of_next h (.ite (.of_owed rfl) (.refl s))
  | overrun l => exact settles_of_next h (.ite (.overrunLine ..) (.refl s))
  | answerSent l => exact settles_of_next h (.ite (.answerIsSent ..) (.refl s))
  | pollingCycle c => exact settles_of_next h (.ite ((Settles.atLeast ..).trans (.beginCycle ..)) (.refl s))
  | statusAnswer c a => exact settles_of_next h (.ite (.answerArrives ..) (.refl s))
  | missedExchange c => exact settles_of_next h (.ite (.windowCloses ..) (.refl s))
  | broadcastBrake c => exact settles_of_next h (.ite (.sendBroadcast ..) (.refl s))
  | powerLoss cut => exact settles_of_next h (.ite (.of_owed rfl) (.refl s))
  | saveComplete same => exact settles_of_next h (.event ..)
  | orderAging id => exact settles_of_next h (.event ..)
  | gateRisingEdge c k mid => exact settles_of_next h (.event ..)
  | gateFallingEdge c k mid => exact settles_of_next h (.event ..)
  | stopOpen c mid => exact settles_of_next h (.event ..)
  | stopClosed c mid => exact settles_of_next h (.event ..)
  | transferTimeout n => exact settles_of_next h (.event ..)
  | homingTimeout n => exact settles_of_next h (.event ..)
  | _ => exact settles_of_next h (.request ..)

theorem settles_tick (s : State) : Settles s s.tick := by
  simp only [State.tick]
  refine .ite ?_ (.refl s)
  rw [sample_eq]
  exact .of_owed rfl

theorem settles_step (s t : State) (h : step s = .next t) : Settles s t := by
  unfold step at h
  split at h
  · exact settles_of_next h (settles_tick s)
  · exact (Settles.pending s _).trans (settles_exec _ _ _ h)

end Sys2Proof.Machine
end

section
/-! PROOFS. The placing of shifts (R73): a plan clears the stretch, and where there is none no shifts clear it. -/

namespace Sys2Proof.Machine

/-! ## What stands against a stretch -/

theorem meet_iff (a b : Int × Int) : meet a b = true ↔ ¬ Apart a b := by
  simp only [meet, Bool.and_eq_true, decide_eq_true_eq, Apart]
  omega

theorem meetsBusy_eq_false (s : State) (c : Corridor) (r : Int × Int) (w : CarriageName) : s.meetsBusy c r w = false ↔
    ∀ m ∈ s.carsOf c, m ≠ w → ∀ k, (s.car m).task = some k → Apart (k.lo, k.hi) r := by
  rw [State.meetsBusy, List.any_eq_false]
  refine forall₂_congr fun m _ => ?_
  cases htask : (s.car m).task with
  | none => simp
  | some k =>
    have h : (meet (k.lo, k.hi) r = true) ↔ ¬ Apart (k.lo, k.hi) r := meet_iff _ _
    simp only [Bool.and_eq_true, decide_eq_true_eq, h, not_and, Classical.not_not, Option.some.injEq, forall_eq']

theorem meetsObstacle_eq_false (s : State) (c : Corridor) (r : Int × Int) (out : Option CarriageName) : s.meetsObstacle c r out = false ↔
    ∀ m ∈ s.carsOf c, some m ≠ out → ((s.car m).state = .faulted ∨ (s.car m).state = .unhomed ∨ (s.car m).state = .unplaced) →
      ∀ q, s.uncertain m = some q → Apart q r := by
  rw [State.meetsObstacle, List.any_eq_false]
  refine forall₂_congr fun m _ => ?_
  by_cases hst : (s.car m).state = .faulted ∨ (s.car m).state = .unhomed ∨ (s.car m).state = .unplaced
  · rw [State.obstacle, if_pos hst]
    cases s.uncertain m with
    | none => simp
    | some q =>
      have h : (meet q r = true) ↔ ¬ Apart q r := meet_iff _ _
      simp only [Bool.and_eq_true, decide_eq_true_eq, h, not_and, Classical.not_not, Option.some.injEq, forall_eq', hst, true_implies, ne_eq]
  · rw [State.obstacle, if_neg hst]
    simp [hst]

theorem wayClear_iff (s : State) (c : Corridor) (r : Int × Int) (w : CarriageName) (out : Option CarriageName) :
    WayClear s c r w out ↔ s.meetsBusy c r w = false ∧ s.meetsObstacle c r out = false := by
  rw [meetsBusy_eq_false, meetsObstacle_eq_false, WayClear]

theorem isFree_iff (s : State) (n : CarriageName) :
    s.isFree n = true ↔ s.hasRecord n = true ∧ (s.car n).state = .idle ∧ (s.car n).task = none := by
  simp only [State.isFree, Bool.and_eq_true, decide_eq_true_eq, Option.isNone_iff_eq_none, and_assoc]

theorem item_of_uncertain {s : State} {n : CarriageName} {q : Int × Int} (h : s.uncertain n = some q) : ∃ it, s.item n = some it := by
  unfold State.uncertain at h
  cases hit : s.item n with
  | none => rw [hit] at h; cases h
  | some it => exact ⟨it, rfl⟩

/-! ## One carriage of a plan -/

/-- A free carriage stands in the stretch, or where the one shifted before it goes. -/
def InTheWay (s : State) (r : Int × Int) (prev : Option (Int × Int)) (m : CarriageName) : Prop :=
  (s.car m).state = .idle ∧ (s.car m).task = none ∧
    ∃ now, s.uncertain m = some now ∧ (¬ Apart now r ∨ ∃ q, prev = some q ∧ ¬ Apart now q)

/-- The shift of a carriage to its side of a stretch. -/
def State.shiftClear (s : State) (side : Dir) (q : Int × Int) (m : CarriageName) : Shift :=
  let length := ((s.item m).map (·.length)).getD 0
  let target := shiftTarget side q length (s.car m).u
  ⟨m, target, hull ((s.uncertain m).getD (0, 0)) (target - (s.car m).u, target + length + (s.car m).u)⟩

/-- A shift stays within the corridor, and its way is clear. -/
def Placeable (s : State) (w : CarriageName) (h : Shift) : Prop :=
  0 ≤ h.target ∧ h.target + (((s.item h.carriage).map (·.length)).getD 0 : Nat) ≤ (((s.layout.length.get w.corridor).getD 0 : Nat) : Int) ∧
    WayClear s w.corridor h.interval w none

section
variable {s : State} {w m : CarriageName} {side : Dir} {r : Int × Int} {prev : Option (Int × Int)} {rest : List CarriageName}

theorem planSide_unfold {it : CarriageItem} {now : Int × Int} (hit : s.item m = some it) (hnow : s.uncertain m = some now)
    (hcorridor : m.corridor = w.corridor) :
    planSide s w side r none prev (m :: rest) =
      if s.isFree m && (meet now r || prev.any (meet now)) then
        (let h := s.shiftClear side (prev.getD r) m
         if 0 ≤ h.target ∧ h.target + it.length ≤ (((s.layout.length.get w.corridor).getD 0 : Nat) : Int)
            ∧ s.meetsBusy w.corridor h.interval w = false ∧ s.meetsObstacle w.corridor h.interval none = false then
          (planSide s w side r none (some (s.there h)) rest).map (h :: ·)
         else none)
      else planSide s w side r none prev rest := by
  have hforced : decide (some m = (none : Option CarriageName)) = false := rfl
  simp only [planSide, hit, hnow, hforced, Bool.false_or, State.shiftClear, Option.getD_some, hcorridor, State.there, Option.map_some]
  split
  · split
    · cases planSide s w side r none _ rest <;> rfl
    · rfl
  · rfl

theorem inTheWay_iff {now : Int × Int} (hnow : s.uncertain m = some now) :
    InTheWay s r prev m ↔ (s.isFree m && (meet now r || prev.any (meet now))) = true := by
  obtain ⟨it, hit⟩ := item_of_uncertain hnow
  have hrecord : s.hasRecord m = true := by rw [State.hasRecord, hit]; rfl
  simp only [InTheWay, hnow, Option.some.injEq, exists_eq_left', Bool.and_eq_true, isFree_iff, hrecord, true_and, Bool.or_eq_true, meet_iff,
    Option.any_eq_true, and_assoc]

theorem placeable_iff {it : CarriageItem} (hit : s.item m = some it) (q : Int × Int) : Placeable s w (s.shiftClear side q m) ↔
    0 ≤ (s.shiftClear side q m).target ∧
      (s.shiftClear side q m).target + it.length ≤ (((s.layout.length.get w.corridor).getD 0 : Nat) : Int) ∧
      s.meetsBusy w.corridor (s.shiftClear side q m).interval w = false ∧
      s.meetsObstacle w.corridor (s.shiftClear side q m).interval none = false := by
  have hlength : ((s.item (s.shiftClear side q m).carriage).map (·.length)).getD 0 = it.length := by
    show ((s.item m).map (·.length)).getD 0 = it.length
    rw [hit]; rfl
  rw [Placeable, hlength, wayClear_iff]

theorem planSide_skip (hcorridor : m.corridor = w.corridor) (h : ¬ InTheWay s r prev m) :
    planSide s w side r none prev (m :: rest) = planSide s w side r none prev rest := by
  cases hnow : s.uncertain m with
  | none =>
    rw [planSide, hnow]
    cases s.item m <;> rfl
  | some now =>
    obtain ⟨it, hit⟩ := item_of_uncertain hnow
    rw [planSide_unfold hit hnow hcorridor, if_neg (mt (inTheWay_iff hnow).2 h)]

theorem planSide_take (hcorridor : m.corridor = w.corridor) (h : InTheWay s r prev m)
    (hp : Placeable s w (s.shiftClear side (prev.getD r) m)) :
    planSide s w side r none prev (m :: rest) =
      (planSide s w side r none (some (s.there (s.shiftClear side (prev.getD r) m))) rest).map (s.shiftClear side (prev.getD r) m :: ·) := by
  obtain ⟨_, _, now, hnow, _⟩ := id h
  obtain ⟨it, hit⟩ := item_of_uncertain hnow
  rw [planSide_unfold hit hnow hcorridor, if_pos ((inTheWay_iff hnow).1 h)]
  exact if_pos ((placeable_iff hit _).1 hp)

theorem planSide_fail (hcorridor : m.corridor = w.corridor) (h : InTheWay s r prev m)
    (hp : ¬ Placeable s w (s.shiftClear side (prev.getD r) m)) : planSide s w side r none prev (m :: rest) = none := by
  obtain ⟨_, _, now, hnow, _⟩ := id h
  obtain ⟨it, hit⟩ := item_of_uncertain hnow
  rw [planSide_unfold hit hnow hcorridor, if_pos ((inTheWay_iff hnow).1 h)]
  exact if_neg (mt (placeable_iff hit _).2 hp)

end

/-! ## A shift of the specification is the shift of a plan -/

/-- A carriage is of lower ordinal than the worker, or of higher. -/
def OnSide : Dir → CarriageName → CarriageName → Prop
  | .north, w, m => m.ordinal < w.ordinal
  | .south, w, m => w.ordinal < m.ordinal

/-- Where the carriage shifted between the worker and another goes, if there is one. -/
def Ahead (s : State) (w : CarriageName) (l : List Shift) (m : CarriageName) (prev : Option (Int × Int)) : Prop :=
  ∀ p, prev = some p ↔ ∃ g ∈ l, Between w g.carriage m ∧ p = s.there g

section
variable {s : State} {w : CarriageName} {side : Dir} {r : Int × Int} {prev : Option (Int × Int)} {l : List Shift}

theorem clears_iff {h : Shift} (hahead : Ahead s w l h.carriage prev) (q : Int × Int) : Clears s w r l h q ↔ q = prev.getD r := by
  cases hprev : prev with
  | none =>
    have hnone : ∀ g ∈ l, ¬ Between w g.carriage h.carriage := fun g hg hb => by
      have := (hahead (s.there g)).2 ⟨g, hg, hb, rfl⟩
      rw [hprev] at this
      cases this
    refine ⟨fun hc => ?_, fun hq => .inl ⟨hq, hnone⟩⟩
    rcases hc with ⟨hq, -⟩ | ⟨g, hg, hb, -⟩
    · exact hq
    · exact absurd hb (hnone g hg)
  | some p =>
    obtain ⟨g, hg, hb, hp⟩ := (hahead p).1 hprev
    refine ⟨fun hc => ?_, fun hq => .inr ⟨g, hg, hb, hq.trans hp⟩⟩
    rcases hc with ⟨-, hnone⟩ | ⟨g', hg', hb', hq⟩
    · exact absurd hb (hnone g hg)
    · have := (hahead q).2 ⟨g', hg', hb', hq⟩
      rw [hprev, Option.some.injEq] at this
      exact this.symm

theorem shift_ext {a b : Shift} (hc : a.carriage = b.carriage) (ht : a.target = b.target) (hi : a.interval = b.interval) : a = b := by
  cases a; cases b; cases hc; cases ht; cases hi; rfl

/-- On its side of a stretch a carriage has one target. -/
theorem target_iff {m : CarriageName} {it : CarriageItem} (hit : s.item m = some it) (hside : OnSide side w m) (q : Int × Int) {h : Shift}
    (hm : h.carriage = m) :
    ((m.ordinal < w.ordinal ∧ (s.there h).2 + 1 = q.1) ∨ (w.ordinal < m.ordinal ∧ q.2 + 1 = (s.there h).1)) ↔
      h.target = (s.shiftClear side q m).target := by
  subst hm
  simp only [State.there, State.shiftClear, hit, Option.map_some, Option.getD_some]
  cases side <;> simp only [OnSide] at hside <;> simp only [shiftTarget] <;> omega

theorem shiftFits_iff {h : Shift} (hc : h.carriage ∈ s.carsOf w.corridor) (hside : OnSide side w h.carriage)
    (hahead : Ahead s w l h.carriage prev) : ShiftFits s w r l h ↔
      InTheWay s r prev h.carriage ∧ h = s.shiftClear side (prev.getD r) h.carriage ∧ Placeable s w h := by
  constructor
  · rintro ⟨-, hidle, htask, now, q, it, hnow, hit, hclears, hway, hdir, hlow, hhigh, hint, hclear⟩
    rw [clears_iff hahead] at hclears
    subst hclears
    have hlength : ((s.item h.carriage).map (·.length)).getD 0 = it.length := by rw [hit]; rfl
    have htarget := (target_iff hit hside (prev.getD r) rfl).1 hdir
    refine ⟨⟨hidle, htask, now, hnow, ?_⟩, shift_ext rfl htarget ?_, hlow, by rw [hlength]; exact hhigh, hclear⟩
    · cases hprev : prev with
      | none => rw [hprev] at hway; exact .inl (hway.elim id id)
      | some p => rw [hprev] at hway; exact hway.imp id fun h => ⟨p, rfl, h⟩
    · rw [hint]
      simp only [State.shiftClear, hnow, hull, Option.getD_some] at htarget ⊢
      rw [← htarget]
      rfl
  · rintro ⟨⟨hidle, htask, now, hnow, hway⟩, heq, hlow, hhigh, hclear⟩
    obtain ⟨it, hit⟩ := item_of_uncertain hnow
    have hlength : ((s.item h.carriage).map (·.length)).getD 0 = it.length := by rw [hit]; rfl
    have htarget := congrArg Shift.target heq
    refine ⟨hc, hidle, htask, now, prev.getD r, it, hnow, hit, (clears_iff hahead _).2 rfl, ?_,
      (target_iff hit hside (prev.getD r) rfl).2 htarget, hlow, by rw [hlength] at hhigh; exact hhigh, ?_, hclear⟩
    · refine hway.imp id fun ⟨p, hp, hapart⟩ => ?_
      rw [hp]; exact hapart
    · have hinterval := congrArg Shift.interval heq
      rw [hinterval]
      simp only [State.shiftClear, hnow, hull, Option.getD_some] at htarget ⊢
      rw [← htarget]
      rfl

end

end Sys2Proof.Machine
end

section
/-! PROOFS. A plan of shifts (R73): it is built over the carriages of each side outward, and it exists just where shifts clear the stretch. -/

namespace Sys2Proof.Machine

/-! ## What is asked of one carriage -/

/-- What a set of shifts owes one carriage: the shift it holds fits, and it holds one where the carriage is in the way. -/
structure Fits (s : State) (w : CarriageName) (r : Int × Int) (l : List Shift) (m : CarriageName) : Prop where
  fits : ∀ h ∈ l, h.carriage = m → ShiftFits s w r l h
  held : (s.car m).state = .idle → (s.car m).task = none → ∀ now, s.uncertain m = some now →
    (¬ Apart now r ∨ ∃ g ∈ l, Between w g.carriage m ∧ ¬ Apart now (s.there g)) → m ∈ l.map Shift.carriage

/-- A carriage in the way has its one shift, which can be placed. -/
structure Taken (s : State) (w : CarriageName) (side : Dir) (r : Int × Int) (l : List Shift) (prev : Option (Int × Int)) (m : CarriageName) :
    Prop where
  inTheWay : InTheWay s r prev m
  only : ∀ h, (h ∈ l ∧ h.carriage = m) ↔ h = s.shiftClear side (prev.getD r) m
  placed : Placeable s w (s.shiftClear side (prev.getD r) m)

/-- A carriage not in the way has no shift. -/
structure Left (s : State) (r : Int × Int) (l : List Shift) (prev : Option (Int × Int)) (m : CarriageName) : Prop where
  clear : ¬ InTheWay s r prev m
  none : ∀ h ∈ l, h.carriage ≠ m

section
variable {s : State} {w m : CarriageName} {side : Dir} {r : Int × Int} {prev : Option (Int × Int)} {l : List Shift}

theorem ahead_apart {now : Int × Int} (hahead : Ahead s w l m prev) :
    (∃ g ∈ l, Between w g.carriage m ∧ ¬ Apart now (s.there g)) ↔ ∃ q, prev = some q ∧ ¬ Apart now q := by
  constructor
  · rintro ⟨g, hg, hb, ha⟩
    exact ⟨s.there g, (hahead _).2 ⟨g, hg, hb, rfl⟩, ha⟩
  · rintro ⟨q, hq, ha⟩
    obtain ⟨g, hg, hb, rfl⟩ := (hahead q).1 hq
    exact ⟨g, hg, hb, ha⟩

theorem Fits.held_iff (hahead : Ahead s w l m prev) :
    ((s.car m).state = .idle → (s.car m).task = none → ∀ now, s.uncertain m = some now →
      (¬ Apart now r ∨ ∃ g ∈ l, Between w g.carriage m ∧ ¬ Apart now (s.there g)) → m ∈ l.map Shift.carriage) ↔
    (InTheWay s r prev m → ∃ h ∈ l, h.carriage = m) := by
  simp only [ahead_apart hahead, List.mem_map, InTheWay]
  exact ⟨fun h ⟨hidle, htask, now, hnow, hway⟩ => h hidle htask now hnow hway,
    fun h hidle htask now hnow hway => h ⟨hidle, htask, now, hnow, hway⟩⟩

theorem fits_iff (hm : m ∈ s.carsOf w.corridor) (hside : OnSide side w m) (hahead : Ahead s w l m prev) :
    Fits s w r l m ↔ Taken s w side r l prev m ∨ Left s r l prev m := by
  have hfits : ∀ h, h.carriage = m → (ShiftFits s w r l h ↔
      InTheWay s r prev m ∧ h = s.shiftClear side (prev.getD r) m ∧ Placeable s w h) := by
    rintro h rfl
    exact shiftFits_iff hm hside hahead
  have hheld := Fits.held_iff (r := r) hahead
  constructor
  · rintro ⟨hf, hh⟩
    rw [hheld] at hh
    by_cases hway : InTheWay s r prev m
    · obtain ⟨h, hmem, hcar⟩ := hh hway
      obtain ⟨-, heq, hplaced⟩ := (hfits h hcar).1 (hf h hmem hcar)
      subst heq
      refine .inl ⟨hway, fun h' => ⟨fun ⟨hmem', hcar'⟩ => ((hfits h' hcar').1 (hf h' hmem' hcar')).2.1, fun he => he ▸ ⟨hmem, hcar⟩⟩, hplaced⟩
    · exact .inr ⟨hway, fun h hmem hcar => hway ((hfits h hcar).1 (hf h hmem hcar)).1⟩
  · rintro (⟨hway, honly, hplaced⟩ | ⟨hway, hnone⟩)
    · refine ⟨fun h hmem hcar => ?_, hheld.2 fun _ => ⟨_, (honly _).2 rfl⟩⟩
      have heq := (honly h).1 ⟨hmem, hcar⟩
      exact (hfits h hcar).2 ⟨hway, heq, heq ▸ hplaced⟩
    · exact ⟨fun h hmem hcar => absurd hcar (hnone h hmem), hheld.2 fun h => absurd h hway⟩

end

/-! ## One side -/

/-- What a set of shifts does to the carriages of a side, taken outward as a plan takes them. -/
def Walks (s : State) (w : CarriageName) (side : Dir) (r : Int × Int) (l : List Shift) : Option (Int × Int) → List CarriageName → Prop
  | _, [] => True
  | prev, m :: rest =>
    (Taken s w side r l prev m ∧ Walks s w side r l (some (s.there (s.shiftClear side (prev.getD r) m))) rest) ∨
    (Left s r l prev m ∧ Walks s w side r l prev rest)

/-- A list holds the shifts of a set whose carriages are among these. -/
def Holds (l : List Shift) (cars : List CarriageName) (la : List Shift) : Prop := ∀ h, (h ∈ l ∧ h.carriage ∈ cars) ↔ h ∈ la

theorem Holds.cons_taken {s : State} {w m : CarriageName} {side : Dir} {r : Int × Int} {prev : Option (Int × Int)} {l la : List Shift}
    {rest : List CarriageName} (ht : Taken s w side r l prev m) (hla : Holds l rest la) :
    Holds l (m :: rest) (s.shiftClear side (prev.getD r) m :: la) := fun h => by
  rw [List.mem_cons, List.mem_cons, and_or_left, ht.only, hla h]

theorem Holds.cons_left {m : CarriageName} {l la : List Shift} {rest : List CarriageName} (hm : ∀ h ∈ l, h.carriage ≠ m)
    (hla : Holds l rest la) : Holds l (m :: rest) la := fun h => by
  rw [List.mem_cons, and_or_left, ← hla h]
  exact or_iff_right fun ⟨hmem, hcar⟩ => hm h hmem hcar

theorem planSide_carriages {s : State} {w : CarriageName} {side : Dir} {r : Int × Int} :
    ∀ {cars : List CarriageName} {prev : Option (Int × Int)} {la : List Shift}, (∀ m ∈ cars, m.corridor = w.corridor) →
      planSide s w side r none prev cars = some la → (la.map Shift.carriage).Sublist cars
  | [], _, _, _, h => by
    rw [planSide] at h
    cases h
    exact List.Sublist.refl _
  | m :: rest, prev, la, hcars, h => by
    have hm := hcars m List.mem_cons_self
    have hrest := fun x hx => hcars x (List.mem_cons_of_mem _ hx)
    by_cases hway : InTheWay s r prev m
    · by_cases hplaced : Placeable s w (s.shiftClear side (prev.getD r) m)
      · rw [planSide_take hm hway hplaced, Option.map_eq_some_iff] at h
        obtain ⟨more, hmore, rfl⟩ := h
        exact (planSide_carriages hrest hmore).cons_cons _
      · rw [planSide_fail hm hway hplaced] at h
        cases h
    · rw [planSide_skip hm hway] at h
      exact (planSide_carriages hrest h).cons _

theorem walks_iff {s : State} {w : CarriageName} {side : Dir} {r : Int × Int} {l : List Shift} :
    ∀ {cars : List CarriageName} {prev : Option (Int × Int)}, (∀ m ∈ cars, m.corridor = w.corridor) → cars.Nodup →
      (Walks s w side r l prev cars ↔ ∃ la, planSide s w side r none prev cars = some la ∧ Holds l cars la)
  | [], prev, _, _ => by
    refine iff_of_true trivial ⟨[], by rw [planSide], fun h => ?_⟩
    simp only [List.not_mem_nil, and_false]
  | m :: rest, prev, hcars, hnodup => by
    have hm := hcars m List.mem_cons_self
    have hrest := fun x hx => hcars x (List.mem_cons_of_mem _ hx)
    obtain ⟨hnotin, hnodup'⟩ := List.nodup_cons.1 hnodup
    rw [Walks]
    by_cases hway : InTheWay s r prev m
    · rw [or_iff_left fun h => h.1.clear hway]
      by_cases hplaced : Placeable s w (s.shiftClear side (prev.getD r) m)
      · rw [planSide_take hm hway hplaced, walks_iff hrest hnodup']
        constructor
        · rintro ⟨ht, la, hplan, hla⟩
          exact ⟨_, by rw [hplan]; rfl, hla.cons_taken ht⟩
        · rintro ⟨la', hplan, hla'⟩
          obtain ⟨la, hla, rfl⟩ := Option.map_eq_some_iff.1 hplan
          have hsub := planSide_carriages hrest hla
          have hout : ∀ h ∈ la, h.carriage ≠ m := fun h hmem hcar =>
            hnotin (hcar ▸ hsub.subset (List.mem_map_of_mem hmem))
          have honly : ∀ h, (h ∈ l ∧ h.carriage = m) ↔ h = s.shiftClear side (prev.getD r) m := fun h => by
            constructor
            · rintro ⟨hmem, hcar⟩
              have := (hla' h).1 ⟨hmem, hcar ▸ List.mem_cons_self⟩
              exact (List.mem_cons.1 this).resolve_right fun hmem' => hout h hmem' hcar
            · rintro rfl
              exact ⟨((hla' _).2 List.mem_cons_self).1, rfl⟩
          refine ⟨⟨hway, honly, hplaced⟩, la, hla, fun h => ?_⟩
          constructor
          · rintro ⟨hmem, hcar⟩
            refine (List.mem_cons.1 ((hla' h).1 ⟨hmem, List.mem_cons_of_mem _ hcar⟩)).resolve_left ?_
            rintro rfl
            exact hnotin hcar
          · intro hmem
            exact ⟨((hla' h).2 (List.mem_cons_of_mem _ hmem)).1, hsub.subset (List.mem_map_of_mem hmem)⟩
      · rw [planSide_fail hm hway hplaced]
        refine iff_of_false (fun h => hplaced h.1.placed) ?_
        rintro ⟨la, h, -⟩
        cases h
    · rw [or_iff_right fun h => hway h.1.inTheWay, planSide_skip hm hway, walks_iff hrest hnodup']
      constructor
      · rintro ⟨hl, la, hplan, hla⟩
        exact ⟨la, hplan, hla.cons_left hl.none⟩
      · rintro ⟨la, hplan, hla⟩
        have hsub := planSide_carriages hrest hplan
        refine ⟨⟨hway, fun h hmem hcar => ?_⟩, la, hplan, fun h => ?_⟩
        · have := (hla h).1 ⟨hmem, hcar ▸ List.mem_cons_self⟩
          exact hnotin (hcar ▸ hsub.subset (List.mem_map_of_mem this))
        · exact ⟨fun ⟨hmem, hcar⟩ => (hla h).1 ⟨hmem, List.mem_cons_of_mem _ hcar⟩,
            fun hmem => ⟨((hla h).2 hmem).1, hsub.subset (List.mem_map_of_mem hmem)⟩⟩

/-- The carriages of one side of a worker, outward; with three in a corridor a side has two at the most. -/
structure Arm (s : State) (w : CarriageName) (side : Dir) (cars : List CarriageName) : Prop where
  on : ∀ m ∈ cars, m ∈ s.carsOf w.corridor ∧ OnSide side w m
  whole : ∀ g ∈ s.carsOf w.corridor, ∀ m ∈ cars, Between w g m → g ∈ cars
  outward : cars.Pairwise (Between w)
  few : cars.length ≤ 2

theorem not_between_self (w m : CarriageName) : ¬ Between w m m := by
  unfold Between
  omega

theorem not_between_swap {w a b : CarriageName} (h : Between w a b) : ¬ Between w b a := by
  unfold Between at *
  omega

namespace Arm
variable {s : State} {w : CarriageName} {side : Dir} {r : Int × Int} {l : List Shift} {cars : List CarriageName}

theorem corridor (harm : Arm s w side cars) : ∀ m ∈ cars, m.corridor = w.corridor := fun m hm => ((mem_carsOf s _ m).1 (harm.on m hm).1).1

theorem nodup (harm : Arm s w side cars) : cars.Nodup :=
  harm.outward.imp fun {a b} (h : Between w a b) (he : a = b) => not_between_self w b (he ▸ h)

/-- On a side, shifts do what they owe to each carriage just where they walk it outward. -/
theorem fits_iff_walks (harm : Arm s w side cars) (hl : ∀ h ∈ l, h.carriage ∈ s.carsOf w.corridor) :
    (∀ m ∈ cars, Fits s w r l m) ↔ Walks s w side r l none cars := by
  have hfirst : ∀ {a : CarriageName}, a ∈ cars → (∀ x ∈ cars, ¬ Between w x a) → Ahead s w l a none := fun {a} ha h p => by
    refine iff_of_false (fun h => by cases h) ?_
    rintro ⟨g, hg, hb, -⟩
    exact h _ (harm.whole _ (hl g hg) a ha hb) hb
  match cars, harm with
  | [], _ => simp only [List.not_mem_nil, false_implies, implies_true, Walks]
  | [a], harm =>
    obtain ⟨hmem, hside⟩ := harm.on a List.mem_cons_self
    have hahead := hfirst List.mem_cons_self fun x hx => by
      rw [List.mem_singleton.1 hx]; exact not_between_self w a
    simp only [List.mem_singleton, forall_eq, Walks, and_true]
    exact fits_iff hmem hside hahead
  | [a, b], harm =>
    obtain ⟨hmema, hsidea⟩ := harm.on a List.mem_cons_self
    obtain ⟨hmemb, hsideb⟩ := harm.on b (List.mem_cons_of_mem _ List.mem_cons_self)
    have htwo : ∀ x, x ∈ [a, b] ↔ x = a ∨ x = b := fun x => by simp only [List.mem_cons, List.not_mem_nil, or_false]
    have hab : Between w a b := (List.pairwise_cons.1 harm.outward).1 b List.mem_cons_self
    have haheada := hfirst List.mem_cons_self fun x hx => by
      rcases (htwo _).1 hx with rfl | rfl
      · exact not_between_self w _
      · exact not_between_swap hab
    have honly : ∀ g ∈ l, Between w g.carriage b → g.carriage = a := fun g hg hb => by
      have := harm.whole _ (hl g hg) b (List.mem_cons_of_mem _ List.mem_cons_self) hb
      refine ((htwo _).1 this).resolve_right fun he => ?_
      rw [he] at hb
      exact not_between_self w b hb
    have htaken : Taken s w side r l none a → Ahead s w l b (some (s.there (s.shiftClear side r a))) := fun ht p => by
      rw [Option.some.injEq]
      constructor
      · rintro rfl
        have := (ht.only _).2 rfl
        exact ⟨_, this.1, this.2 ▸ hab, rfl⟩
      · rintro ⟨g, hg, hb, rfl⟩
        rw [(ht.only g).1 ⟨hg, honly g hg hb⟩]
        rfl
    have hleft : Left s r l none a → Ahead s w l b none := fun ht p => by
      refine iff_of_false (fun h => by cases h) ?_
      rintro ⟨g, hg, hb, -⟩
      exact ht.none g hg (honly g hg hb)
    simp only [List.mem_cons, List.not_mem_nil, or_false, forall_eq_or_imp, forall_eq, Walks, and_true]
    rw [fits_iff hmema hsidea haheada, or_and_right]
    exact or_congr (and_congr_right fun ht => fits_iff hmemb hsideb (htaken ht))
      (and_congr_right fun ht => fits_iff hmemb hsideb (hleft ht))
  | _ :: _ :: _ :: _, harm => exact absurd harm.few (by simp only [List.length_cons]; omega)

theorem fits_iff_plan (harm : Arm s w side cars) (hl : ∀ h ∈ l, h.carriage ∈ s.carsOf w.corridor) :
    (∀ m ∈ cars, Fits s w r l m) ↔ ∃ la, planSide s w side r none none cars = some la ∧ Holds l cars la :=
  (harm.fits_iff_walks hl).trans (walks_iff harm.corridor harm.nodup)

end Arm

end Sys2Proof.Machine
end

section
/-! PROOFS. The shifts of both sides together (R73), and the order of an allocator run's candidates (R70). -/

namespace Sys2Proof.Machine

/-! ## The two sides of a worker -/

theorem carsOf_outward (s : State) (c : Corridor) : (s.carsOf c).Pairwise fun a b => a.ordinal < b.ordinal :=
  List.Pairwise.filter _ (by cases c <;> decide)

/-- The carriages of lower ordinal than the worker's, outward. -/
def State.northern (s : State) (w : CarriageName) : List CarriageName :=
  ((s.carsOf w.corridor).filter fun n => decide (n.ordinal < w.ordinal)).reverse

/-- The carriages of higher ordinal than the worker's, outward. -/
def State.southern (s : State) (w : CarriageName) : List CarriageName :=
  (s.carsOf w.corridor).filter fun n => decide (w.ordinal < n.ordinal)

theorem mem_northern {s : State} {w m : CarriageName} : m ∈ s.northern w ↔ m ∈ s.carsOf w.corridor ∧ m.ordinal < w.ordinal := by
  rw [State.northern, List.mem_reverse, List.mem_filter, decide_eq_true_eq]

theorem mem_southern {s : State} {w m : CarriageName} : m ∈ s.southern w ↔ m ∈ s.carsOf w.corridor ∧ w.ordinal < m.ordinal := by
  rw [State.southern, List.mem_filter, decide_eq_true_eq]

theorem arm_northern (s : State) (w : CarriageName) : Arm s w .north (s.northern w) where
  on m hm := mem_northern.1 hm
  whole g hg m hm hb := by
    have := (mem_northern.1 hm).2
    refine mem_northern.2 ⟨hg, ?_⟩
    unfold Between at hb
    omega
  outward := by
    rw [State.northern, List.pairwise_reverse]
    refine List.Pairwise.imp_of_mem ?_ ((carsOf_outward s _).filter _)
    intro a b _ hb hab
    exact .inl ⟨hab, of_decide_eq_true (List.mem_filter.1 hb).2⟩
  few := by
    rw [State.northern, List.length_reverse]
    have hsub : ((s.carsOf w.corridor).filter fun n => decide (n.ordinal < w.ordinal)).Sublist
        (w.corridor.carriages.filter fun n => decide (n.ordinal < w.ordinal)) := List.filter_sublist.filter _
    exact Nat.le_trans hsub.length_le (by cases w <;> decide)

theorem arm_southern (s : State) (w : CarriageName) : Arm s w .south (s.southern w) where
  on m hm := mem_southern.1 hm
  whole g hg m hm hb := by
    have := (mem_southern.1 hm).2
    refine mem_southern.2 ⟨hg, ?_⟩
    unfold Between at hb
    omega
  outward := by
    rw [State.southern]
    refine List.Pairwise.imp_of_mem ?_ ((carsOf_outward s _).filter _)
    intro a b ha _ hab
    exact .inr ⟨of_decide_eq_true (List.mem_filter.1 ha).2, hab⟩
  few := by
    have hsub : (s.southern w).Sublist (w.corridor.carriages.filter fun n => decide (w.ordinal < n.ordinal)) :=
      List.filter_sublist.filter _
    exact Nat.le_trans hsub.length_le (by cases w <;> decide)

theorem mem_sides {s : State} {w m : CarriageName} (hm : m ∈ s.carsOf w.corridor) (hne : m ≠ w) :
    m ∈ s.northern w ∨ m ∈ s.southern w := by
  rw [mem_northern, mem_southern]
  have hcorridor := ((mem_carsOf s _ m).1 hm).1
  have hord : m.ordinal ≠ w.ordinal := fun h => hne (by
    revert hcorridor h
    cases m <;> cases w <;> decide)
  rcases Nat.lt_or_gt_of_ne hord with h | h
  · exact .inl ⟨hm, h⟩
  · exact .inr ⟨hm, h⟩

section
variable {s : State} {w : CarriageName} {r : Int × Int} {l : List Shift}

theorem shiftsClear_iff : ShiftsClear s w r l ↔ (l.map Shift.carriage).Nodup ∧
    (∀ h ∈ l, h.carriage ∈ s.northern w ∨ h.carriage ∈ s.southern w) ∧
    (∀ m ∈ s.northern w, Fits s w r l m) ∧ ∀ m ∈ s.southern w, Fits s w r l m := by
  have hne : ∀ m, m ∈ s.northern w ∨ m ∈ s.southern w → m ∈ s.carsOf w.corridor ∧ m ≠ w := by
    rintro m (h | h)
    · have h' := mem_northern.1 h
      exact ⟨h'.1, fun he => absurd h'.2 (he ▸ Nat.lt_irrefl _)⟩
    · have h' := mem_southern.1 h
      exact ⟨h'.1, fun he => absurd h'.2 (he ▸ Nat.lt_irrefl _)⟩
  constructor
  · rintro ⟨hnodup, hfits, hheld⟩
    have hall : ∀ m, m ∈ s.northern w ∨ m ∈ s.southern w → Fits s w r l m := fun m hm =>
      ⟨fun h hmem _ => hfits h hmem, hheld m (hne m hm).1 (hne m hm).2⟩
    refine ⟨hnodup, fun h hmem => ?_, fun m hm => hall m (.inl hm), fun m hm => hall m (.inr hm)⟩
    obtain ⟨hcar, -, -, _, _, _, -, -, -, -, hdir, -⟩ := hfits h hmem
    refine mem_sides hcar fun he => ?_
    rw [he] at hdir
    omega
  · rintro ⟨hnodup, hsides, hnorth, hsouth⟩
    have hall : ∀ m, m ∈ s.northern w ∨ m ∈ s.southern w → Fits s w r l m := fun m hm => hm.elim (hnorth m) (hsouth m)
    exact ⟨hnodup, fun h hmem => (hall _ (hsides h hmem)).fits h hmem rfl, fun m hm hmw => (hall m (mem_sides hm hmw)).held⟩

theorem mem_carsOf_of_sides {m : CarriageName} (h : m ∈ s.northern w ∨ m ∈ s.southern w) : m ∈ s.carsOf w.corridor :=
  h.elim (fun h => (mem_northern.1 h).1) fun h => (mem_southern.1 h).1

theorem planShifts_eq_some : planShifts s w r none = some l ↔ ∃ a b, planSide s w .north r none none (s.northern w) = some a ∧
    planSide s w .south r none none (s.southern w) = some b ∧ l = a ++ b := by
  have heq : planShifts s w r none =
      match planSide s w .north r none none (s.northern w), planSide s w .south r none none (s.southern w) with
      | some a, some b => some (a ++ b)
      | _, _ => none := rfl
  rw [heq]
  cases planSide s w .north r none none (s.northern w) with
  | none => simp
  | some a =>
    cases planSide s w .south r none none (s.southern w) with
    | none => simp
    | some b => simp [eq_comm]

theorem sides_disjoint {m : CarriageName} (hn : m ∈ s.northern w) (hs : m ∈ s.southern w) : False :=
  Nat.lt_asymm (mem_northern.1 hn).2 (mem_southern.1 hs).2

/-- A plan's shifts clear the stretch. -/
theorem shiftsClear_of_plan (h : planShifts s w r none = some l) : ShiftsClear s w r l := by
  obtain ⟨a, b, ha, hb, rfl⟩ := planShifts_eq_some.1 h
  have hsuba := planSide_carriages (arm_northern s w).corridor ha
  have hsubb := planSide_carriages (arm_southern s w).corridor hb
  have hcara : ∀ h ∈ a, h.carriage ∈ s.northern w := fun h hm => hsuba.subset (List.mem_map_of_mem hm)
  have hcarb : ∀ h ∈ b, h.carriage ∈ s.southern w := fun h hm => hsubb.subset (List.mem_map_of_mem hm)
  have hsides : ∀ h ∈ a ++ b, h.carriage ∈ s.northern w ∨ h.carriage ∈ s.southern w := fun h hm =>
    (List.mem_append.1 hm).imp (hcara h) (hcarb h)
  have hl : ∀ h ∈ a ++ b, h.carriage ∈ s.carsOf w.corridor := fun h hm => mem_carsOf_of_sides (hsides h hm)
  refine shiftsClear_iff.2 ⟨?_, hsides, ((arm_northern s w).fits_iff_plan hl).2 ⟨a, ha, fun h => ?_⟩,
    ((arm_southern s w).fits_iff_plan hl).2 ⟨b, hb, fun h => ?_⟩⟩
  · rw [List.map_append]
    refine List.nodup_append.2 ⟨hsuba.nodup (arm_northern s w).nodup, hsubb.nodup (arm_southern s w).nodup, fun m hma m' hmb he => ?_⟩
    exact sides_disjoint (hsuba.subset hma) (hsubb.subset (he ▸ hmb))
  · exact ⟨fun ⟨hm, hn⟩ => (List.mem_append.1 hm).resolve_right fun hb => sides_disjoint hn (hcarb h hb),
      fun hm => ⟨List.mem_append_left _ hm, hcara h hm⟩⟩
  · exact ⟨fun ⟨hm, hn⟩ => (List.mem_append.1 hm).resolve_left fun ha => sides_disjoint (hcara h ha) hn,
      fun hm => ⟨List.mem_append_right _ hm, hcarb h hm⟩⟩

/-- Where shifts clear a stretch there is a plan. -/
theorem plan_of_shiftsClear (h : ShiftsClear s w r l) : planShifts s w r none ≠ none := by
  obtain ⟨-, hsides, hnorth, hsouth⟩ := shiftsClear_iff.1 h
  have hl : ∀ h ∈ l, h.carriage ∈ s.carsOf w.corridor := fun h hm => mem_carsOf_of_sides (hsides h hm)
  obtain ⟨a, ha, -⟩ := ((arm_northern s w).fits_iff_plan hl).1 hnorth
  obtain ⟨b, hb, -⟩ := ((arm_southern s w).fits_iff_plan hl).1 hsouth
  rw [planShifts_eq_some.2 ⟨a, b, ha, hb, rfl⟩]
  exact Option.some_ne_none _

theorem ShiftsClear.ne_worker (h : ShiftsClear s w r l) : w ∉ l.map Shift.carriage := by
  obtain ⟨-, hsides, -, -⟩ := shiftsClear_iff.1 h
  rintro hw
  obtain ⟨g, hg, he⟩ := List.mem_map.1 hw
  rcases hsides g hg with hn | hn
  · exact absurd (mem_northern.1 hn).2 (he ▸ Nat.lt_irrefl _)
  · exact absurd (mem_southern.1 hn).2 (he ▸ Nat.lt_irrefl _)

end

/-! ## The candidates -/

/-- One order stands State.before another by class and placed-at stamp, or level with it. -/
def Precedes (a b : Order) : Prop := classRank a.eff < classRank b.eff ∨ (a.eff = b.eff ∧ a.placedAt ≤ b.placedAt)

theorem classRank_injective {a b : OrderClass} (h : classRank a = classRank b) : a = b := by
  revert h
  cases a <;> cases b <;> decide

theorem before_iff (a b : Order) : State.before a b = true ↔ ¬ Precedes b a := by
  simp only [State.before, Bool.or_eq_true, Bool.and_eq_true, decide_eq_true_eq, Precedes, not_or, not_and, Nat.not_lt, Nat.not_le]
  constructor
  · rintro (h | ⟨he, hp⟩)
    · exact ⟨Nat.le_of_lt h, fun he => absurd h (he ▸ Nat.lt_irrefl _)⟩
    · exact ⟨he ▸ Nat.le_refl _, fun _ => hp⟩
  · rintro ⟨hle, hp⟩
    rcases Nat.lt_or_eq_of_le hle with h | h
    · exact .inl h
    · exact .inr ⟨classRank_injective h, hp (classRank_injective h).symm⟩

theorem Precedes.of_not {a b : Order} (h : ¬ Precedes b a) : Precedes a b := by
  rw [← before_iff] at h
  simp only [State.before, Bool.or_eq_true, Bool.and_eq_true, decide_eq_true_eq] at h
  exact h.imp id fun h => ⟨h.1, Nat.le_of_lt h.2⟩

theorem Precedes.trans {a b c : Order} (h : Precedes a b) (k : Precedes b c) : Precedes a c := by
  rcases h with h | ⟨he, hp⟩ <;> rcases k with k | ⟨ke, kp⟩
  · exact .inl (Nat.lt_trans h k)
  · exact .inl (ke ▸ h)
  · exact .inl (he ▸ k)
  · exact .inr ⟨he.trans ke, Nat.le_trans hp kp⟩

theorem mem_insertCandidate (o x : Order) : ∀ l, x ∈ State.insertCandidate o l ↔ x = o ∨ x ∈ l
  | [] => by simp only [State.insertCandidate, List.mem_singleton, List.not_mem_nil, or_false]
  | q :: rest => by
    rw [State.insertCandidate]
    split
    · rw [List.mem_cons]
    · rw [List.mem_cons, mem_insertCandidate o x rest, List.mem_cons, or_left_comm]

theorem pairwise_insertCandidate (o : Order) : ∀ {l}, l.Pairwise Precedes → (State.insertCandidate o l).Pairwise Precedes
  | [], _ => List.pairwise_singleton _ _
  | q :: rest, h => by
    obtain ⟨hq, hrest⟩ := List.pairwise_cons.1 h
    rw [State.insertCandidate]
    split
    next hbefore =>
      have hoq := Precedes.of_not ((before_iff o q).1 hbefore)
      refine List.pairwise_cons.2 ⟨fun x hx => ?_, h⟩
      rcases List.mem_cons.1 hx with rfl | hx
      · exact hoq
      · exact hoq.trans (hq x hx)
    next hbefore =>
      have hqo : Precedes q o := Classical.not_not.1 fun h => hbefore ((before_iff o q).2 h)
      refine List.pairwise_cons.2 ⟨fun x hx => ?_, pairwise_insertCandidate o hrest⟩
      rcases (mem_insertCandidate o x rest).1 hx with rfl | hx
      · exact hqo
      · exact hq x hx

/-- Among the orders of one class and stamp a new one comes last. -/
theorem filter_insertCandidate (o : Order) (k : OrderClass) (stamp : Nat) : ∀ {l}, l.Pairwise Precedes →
    (State.insertCandidate o l).filter (fun x => decide (x.eff = k ∧ x.placedAt = stamp)) =
      l.filter (fun x => decide (x.eff = k ∧ x.placedAt = stamp)) ++ [o].filter (fun x => decide (x.eff = k ∧ x.placedAt = stamp))
  | [], _ => rfl
  | q :: rest, h => by
    obtain ⟨hq, hrest⟩ := List.pairwise_cons.1 h
    rw [State.insertCandidate]
    split
    next hbefore =>
      have hoq := (before_iff o q).1 hbefore
      by_cases ho : o.eff = k ∧ o.placedAt = stamp
      · have hnone : (q :: rest).filter (fun x => decide (x.eff = k ∧ x.placedAt = stamp)) = [] := by
          rw [List.filter_eq_nil_iff]
          intro x hx hkey
          obtain ⟨hke, hks⟩ := of_decide_eq_true hkey
          have hxo : Precedes x o := .inr ⟨hke.trans ho.1.symm, Nat.le_of_eq (hks.trans ho.2.symm)⟩
          rcases List.mem_cons.1 hx with rfl | hx
          · exact hoq hxo
          · exact hoq ((hq x hx).trans hxo)
        rw [List.filter_cons, hnone, List.nil_append, List.filter_cons, List.filter_nil]
      · rw [List.filter_cons_of_neg (by simpa only [decide_eq_true_eq] using ho),
          List.filter_cons_of_neg (l := []) (by simpa only [decide_eq_true_eq] using ho), List.filter_nil, List.append_nil]
    next hbefore =>
      rw [List.filter_cons, filter_insertCandidate o k stamp hrest, List.filter_cons (xs := rest)]
      split <;> rfl

theorem insertAll (k : OrderClass) (stamp : Nat) : ∀ (os : List Order) {l}, l.Pairwise Precedes →
    (os.foldl (fun l o => State.insertCandidate o l) l).Pairwise Precedes ∧
    (os.foldl (fun l o => State.insertCandidate o l) l).filter (fun x => decide (x.eff = k ∧ x.placedAt = stamp)) =
      l.filter (fun x => decide (x.eff = k ∧ x.placedAt = stamp)) ++ os.filter (fun x => decide (x.eff = k ∧ x.placedAt = stamp))
  | [], l, h => ⟨h, by rw [List.filter_nil, List.append_nil]; rfl⟩
  | o :: os, l, h => by
    obtain ⟨hsorted, hfilter⟩ := insertAll k stamp os (pairwise_insertCandidate o h)
    refine ⟨hsorted, hfilter.trans ?_⟩
    rw [filter_insertCandidate o k stamp h, List.append_assoc]
    exact congrArg _ (List.filter_append [o] os).symm

theorem candidateOrder_candidates (s : State) (c : Corridor) : ∃ l, s.candidates c = l.map (·.id) ∧ CandidateOrder s c l := by
  refine ⟨_, rfl, (insertAll .normal 0 _ List.Pairwise.nil).1, fun k stamp => ((insertAll k stamp _ List.Pairwise.nil).2).trans ?_⟩
  rw [List.filter_nil, List.nil_append, List.filter_filter]
  refine List.filter_congr fun o _ => ?_
  simp only [← Bool.decide_and, decide_eq_decide]
  grind

end Sys2Proof.Machine
end

section
/-! PROOFS. An order's turn in an allocator run (R71 to R73): who is eligible, which carriage is chosen, and what it is given. -/

namespace Sys2Proof.Machine

/-! ## The shifts given out -/

theorem giveShift_self (work : Work) (s : State) (h : Shift) :
    (giveShift (some work) s h).car h.carriage = shifted (s.car h.carriage) h work := by
  rw [giveShift, State.beginLeg, car_modCar, if_pos rfl, car_modCar, if_pos rfl]
  rfl

theorem giveShifts_fields (work : Option Work) (l : List Shift) (s : State) :
    giveShifts work l s = { s with carriages := (giveShifts work l s).carriages } := by
  induction l generalizing s with
  | nil => rfl
  | cons h rest ih => exact carriages_trans (s := s) (t := giveShift work s h) (u := giveShifts work rest (giveShift work s h)) rfl (ih _)

theorem giveShifts_other (work : Option Work) (l : List Shift) (s : State) {m : CarriageName} (hm : m ∉ l.map Shift.carriage) :
    (giveShifts work l s).car m = s.car m := by
  induction l generalizing s with
  | nil => rfl
  | cons h rest ih =>
    rw [List.map_cons, List.mem_cons, not_or] at hm
    exact (ih (giveShift work s h) hm.2).trans (Steady.giveShift_other work s h m hm.1)

theorem giveShifts_shifted (work : Work) (l : List Shift) (s : State) (hd : (l.map Shift.carriage).Nodup) :
    ∀ h ∈ l, (giveShifts (some work) l s).car h.carriage = shifted (s.car h.carriage) h work := by
  induction l generalizing s with
  | nil => exact fun h hm => absurd hm List.not_mem_nil
  | cons a rest ih =>
    rw [List.map_cons, List.nodup_cons] at hd
    intro h hm
    rcases List.mem_cons.1 hm with rfl | hm
    · exact (giveShifts_other (some work) rest (giveShift (some work) s h) hd.1).trans (giveShift_self work s h)
    · have hne : h.carriage ≠ a.carriage := fun e => hd.1 (e ▸ List.mem_map_of_mem hm)
      have := ih (giveShift (some work) s a) hd.2 h hm
      rw [Steady.giveShift_other (some work) s a _ hne] at this
      exact this

theorem book_carriages_trans {s u t : State} (hu : u = { s with book := u.book, carriages := u.carriages })
    (ht : t = { u with carriages := t.carriages }) : t = { s with book := t.book, carriages := t.carriages } := by
  have hbook : t.book = u.book := by rw [ht]
  rw [hbook]
  exact ht.trans (congrArg (fun a : State => { a with carriages := t.carriages }) hu)

theorem waitsFor_giveShifts {s u : State} {n : CarriageName} {l : List Shift} {work : Work} {v : Carriage}
    (hu : u = { s with book := u.book, carriages := u.carriages }) (hn : u.car n = v) (hother : ∀ m, m ≠ n → u.car m = s.car m)
    (hd : (l.map Shift.carriage).Nodup) (hnot : n ∉ l.map Shift.carriage) : WaitsFor s (giveShifts (some work) l u) n l work v := by
  refine ⟨book_carriages_trans hu (giveShifts_fields _ l u), (giveShifts_other _ l u hnot).trans hn, fun h hm => ?_,
    fun m hm hml => (giveShifts_other _ l u hml).trans (hother m hm)⟩
  rw [giveShifts_shifted work l u hd h hm, hother]
  rintro rfl
  exact hnot (List.mem_map_of_mem hm)

/-! ## Who is eligible -/

section
variable {s : State} {o : Order} {n : CarriageName} {r : Int × Int} {start : Int}

/-- The load of a carriage is the bench of an ABOARD order. -/
theorem aboardLoad_iff (v : Load) (b : Option Nat) : (match v, b with
    | .bench x, some y => decide (x = y)
    | _, _ => false) = true ↔ ∃ x, v = .bench x ∧ b = some x := by
  cases v with
  | bench x =>
    cases b with
    | none => exact iff_of_false nofun fun ⟨_, _, h⟩ => nomatch h
    | some y => exact decide_eq_true_iff.trans ⟨fun h => ⟨x, rfl, h ▸ rfl⟩, fun ⟨_, hx, hy⟩ => (Load.bench.inj hx).trans (Option.some.inj hy).symm⟩
  | empty => exact iff_of_false nofun fun ⟨_, h, _⟩ => nomatch h
  | straddled => exact iff_of_false nofun fun ⟨_, h, _⟩ => nomatch h

theorem suitable_iff (hn : n ∈ s.carsOf o.corridor) : s.suitable o n = true ↔ Suits s o n := by
  have hrecord : s.hasRecord n = true := Option.isSome_iff_ne_none.2 ((mem_carsOf s _ n).1 hn).2
  have hload := aboardLoad_iff (s.car n).load o.bench
  cases ho : o.source with
  | aboard m =>
    simp only [State.suitable, Suits, ho, Bool.and_eq_true, isFree_iff, hrecord, hn, true_and, Bool.not_eq_true', and_assoc, decide_eq_true_eq]
    exact and_congr_right fun _ => and_congr_right fun _ => and_congr_right fun _ => and_congr_right fun _ => hload
  | bench b =>
    simp only [State.suitable, Suits, ho, Bool.and_eq_true, isFree_iff, hrecord, hn, true_and, Bool.not_eq_true', and_assoc, decide_eq_true_eq]
  | laneEnd k =>
    simp only [State.suitable, Suits, ho, Bool.and_eq_true, isFree_iff, hrecord, hn, true_and, Bool.not_eq_true', and_assoc, decide_eq_true_eq]

/-- The stretch from one position to another, at which a carriage stands with its uncertainty. -/
theorem hull_footprints (p d len u : Int) : hull (p - u, p + len + u) (d - u, d + len + u) = (min p d - u, max p d + len + u) := by
  rw [hull, Prod.mk.injEq]
  omega

theorem hull_footprint (a b d len u : Int) : hull (a - u, b + len + u) (d - u, d + len + u) = (min a d - u, max b d + len + u) := by
  rw [hull, Prod.mk.injEq]
  omega

theorem travelInterval_none (h : s.item n = none ∨ (s.car n).p = none ∨ s.mouth o.dest o.corridor = none) : s.travelInterval o n = none := by
  unfold State.travelInterval State.uncertain State.dock
  cases hit : s.item n with
  | none => rfl
  | some it =>
    cases hp : (s.car n).p with
    | none => rfl
    | some p =>
      cases hm : s.mouth o.dest o.corridor with
      | none => rfl
      | some m => simp only [hit, hp, hm, reduceCtorEq, or_self] at h

section
variable {it : CarriageItem} {p : Int} {m : MouthItem} (hit : s.item n = some it) (hp : (s.car n).p = some p)
  (hm : s.mouth o.dest o.corridor = some m)
include hit hp hm

theorem travelInterval_aboard {x : CarriageName} (ho : o.source = .aboard x) :
    s.travelInterval o n = some (min p m.dock - (s.car n).u, max p m.dock + it.length + (s.car n).u) := by
  simp only [State.travelInterval, State.uncertain, State.dock, hit, hp, hm, ho, Option.map_some, hull_footprints]

theorem travelInterval_afar (ho : ∀ x, o.source ≠ .aboard x) {k : Nat} (hk : o.srcLane = some k) :
    s.travelInterval o n = (s.mouth k o.corridor).map fun f =>
      (min (min p m.dock) f.dock - (s.car n).u, max (max p m.dock) f.dock + it.length + (s.car n).u) := by
  cases hs : o.source with
  | aboard x => exact absurd hs (ho x)
  | _ => simp only [State.travelInterval, State.uncertain, State.dock, hit, hp, hm, hs, hk, Option.map_some, hull_footprints, Option.map_map,
      Function.comp_def, hull_footprint]

theorem travelInterval_laneless (ho : ∀ x, o.source ≠ .aboard x) (hk : o.srcLane = none) : s.travelInterval o n = none := by
  cases hs : o.source with
  | aboard x => exact absurd hs (ho x)
  | _ => simp only [State.travelInterval, State.uncertain, State.dock, hit, hp, hm, hs, hk, Option.map_some]

end

theorem travelStretch_aboard {x : CarriageName} (ho : o.source = .aboard x) : TravelStretch s o n r start ↔
    ∃ (it : CarriageItem) (p : Int) (m : MouthItem), s.item n = some it ∧ (s.car n).p = some p ∧ s.mouth o.dest o.corridor = some m ∧
      start = m.dock ∧ r = (min p m.dock - (s.car n).u, max p m.dock + it.length + (s.car n).u) := by
  simp only [TravelStretch, ho]

theorem travelStretch_afar (ho : ∀ x, o.source ≠ .aboard x) : TravelStretch s o n r start ↔
    ∃ (it : CarriageItem) (p : Int) (m : MouthItem), s.item n = some it ∧ (s.car n).p = some p ∧ s.mouth o.dest o.corridor = some m ∧
      ∃ (k : Nat) (f : MouthItem), o.srcLane = some k ∧ s.mouth k o.corridor = some f ∧ start = f.dock ∧
        r = (min (min p m.dock) f.dock - (s.car n).u, max (max p m.dock) f.dock + it.length + (s.car n).u) := by
  cases hs : o.source with
  | aboard x => exact absurd hs (ho x)
  | _ => simp only [TravelStretch, hs]

theorem aboard_or_afar (o : Order) : (∃ x, o.source = .aboard x) ∨ ∀ x, o.source ≠ .aboard x := by
  by_cases h : ∃ x, o.source = .aboard x
  · exact .inl h
  · exact .inr fun x hx => h ⟨x, hx⟩

theorem travelInterval_eq_some : s.travelInterval o n = some r ↔ ∃ start, TravelStretch s o n r start := by
  constructor
  · intro h
    have hsome : ∃ it p m, s.item n = some it ∧ (s.car n).p = some p ∧ s.mouth o.dest o.corridor = some m := by
      refine Classical.byContradiction fun hnot => ?_
      have hnone : s.item n = none ∨ (s.car n).p = none ∨ s.mouth o.dest o.corridor = none := by
        refine Classical.byContradiction fun hall => ?_
        simp only [not_or, ← ne_eq, Option.ne_none_iff_exists'] at hall
        obtain ⟨⟨it, hit⟩, ⟨p, hp⟩, m, hm⟩ := hall
        exact hnot ⟨it, p, m, hit, hp, hm⟩
      rw [travelInterval_none hnone] at h
      cases h
    obtain ⟨it, p, m, hit, hp, hm⟩ := hsome
    rcases aboard_or_afar o with ⟨x, ho⟩ | ho
    · rw [travelInterval_aboard hit hp hm ho, Option.some.injEq] at h
      exact ⟨m.dock, (travelStretch_aboard ho).2 ⟨it, p, m, hit, hp, hm, rfl, h.symm⟩⟩
    · cases hk : o.srcLane with
      | none => rw [travelInterval_laneless hit hp hm ho hk] at h; cases h
      | some k =>
        rw [travelInterval_afar hit hp hm ho hk, Option.map_eq_some_iff] at h
        obtain ⟨f, hf, h⟩ := h
        exact ⟨f.dock, (travelStretch_afar ho).2 ⟨it, p, m, hit, hp, hm, k, f, hk, hf, rfl, h.symm⟩⟩
  · rintro ⟨start, h⟩
    rcases aboard_or_afar o with ⟨x, ho⟩ | ho
    · obtain ⟨it, p, m, hit, hp, hm, -, rfl⟩ := (travelStretch_aboard ho).1 h
      exact travelInterval_aboard hit hp hm ho
    · obtain ⟨it, p, m, hit, hp, hm, k, f, hk, hf, -, rfl⟩ := (travelStretch_afar ho).1 h
      rw [travelInterval_afar hit hp hm ho hk, hf, Option.map_some]

theorem eligible_iff (hn : n ∈ s.carsOf o.corridor) : s.eligible o n = true ↔ ∃ r start, Eligible s o n r start := by
  have hcorridor := ((mem_carsOf s _ n).1 hn).1
  rw [State.eligible, Bool.and_eq_true, suitable_iff hn]
  simp only [Eligible, wayClear_iff, ← hcorridor, exists_and_left, exists_and_right]
  refine and_congr_right fun _ => ?_
  cases htravel : s.travelInterval o n with
  | none =>
    refine iff_of_false nofun ?_
    rintro ⟨r, ⟨start, h⟩, -⟩
    rw [travelInterval_eq_some.2 ⟨start, h⟩] at htravel
    cases htravel
  | some r =>
    simp only [Bool.and_eq_true, Bool.not_eq_true', ← travelInterval_eq_some, htravel, Option.some.injEq, exists_eq_left']

theorem mem_eligible : n ∈ (s.carsOf o.corridor).filter (s.eligible o) ↔ ∃ r start, Eligible s o n r start := by
  rw [List.mem_filter]
  constructor
  · exact fun h => (eligible_iff h.1).1 h.2
  · intro h
    have hn : n ∈ s.carsOf o.corridor := h.elim fun _ h => h.elim fun _ h => h.1.1
    exact ⟨hn, (eligible_iff hn).2 h⟩

/-! ## The chosen carriage -/

theorem nearest_spec : ∀ {l : List CarriageName}, l.Pairwise (fun a b => a.ordinal < b.ordinal) → l ≠ [] →
    ∃ m ∈ l, s.nearest o l = some m ∧ ∀ x ∈ l, s.sourceDistance o m < s.sourceDistance o x ∨
      (s.sourceDistance o m = s.sourceDistance o x ∧ m.ordinal ≤ x.ordinal)
  | [a], _, _ => ⟨a, List.mem_cons_self, rfl, fun x hx => by rw [List.mem_singleton.1 hx]; exact .inr ⟨rfl, Nat.le_refl _⟩⟩
  | a :: b :: rest, h, _ => by
    obtain ⟨ha, hrest⟩ := List.pairwise_cons.1 h
    obtain ⟨m, hm, hnearest, hleast⟩ := nearest_spec hrest (List.cons_ne_nil b rest)
    by_cases hd : s.sourceDistance o a ≤ s.sourceDistance o m
    · refine ⟨a, List.mem_cons_self, by rw [State.nearest, hnearest]; exact if_pos hd, fun x hx => ?_⟩
      rcases List.mem_cons.1 hx with rfl | hx
      · exact .inr ⟨rfl, Nat.le_refl _⟩
      · have hax := ha x hx
        rcases hleast x hx with hlt | ⟨heq, -⟩ <;> omega
    · refine ⟨m, List.mem_cons_of_mem _ hm, by rw [State.nearest, hnearest]; exact if_neg hd, fun x hx => ?_⟩
      rcases List.mem_cons.1 hx with rfl | hx
      · exact .inl (Nat.not_le.1 hd)
      · exact hleast x hx

theorem sourceDistance_afar {m : CarriageName} (ho : ∀ x, o.source ≠ .aboard x) (h : TravelStretch s o n r start) {q : Int × Int} {x : Int}
    (hm : TravelStretch s o m q x) : ∃ b, (s.car m).p = some b ∧ s.sourceDistance o m = (b - start).natAbs := by
  obtain ⟨-, -, -, -, -, -, k, f, hk, hf, rfl, -⟩ := (travelStretch_afar ho).1 h
  obtain ⟨-, b, -, -, hb, -, -⟩ := (travelStretch_afar ho).1 hm
  refine ⟨b, hb, ?_⟩
  simp only [State.sourceDistance, hb, hk, Option.bind_some, State.dock, hf, Option.map_some]

theorem nearest_of_chosen (h : Chosen s o n r start) : s.nearest o ((s.carsOf o.corridor).filter (s.eligible o)) = some n := by
  obtain ⟨hn, hleast⟩ := h
  have hmem := mem_eligible.2 ⟨r, start, hn⟩
  obtain ⟨m, hm, hnearest, hmin⟩ := nearest_spec (s := s) (o := o) ((carsOf_outward s o.corridor).filter (s.eligible o))
    (List.ne_nil_of_mem hmem)
  obtain ⟨q, x, hmq⟩ := mem_eligible.1 hm
  suffices hmn : m = n by rw [hnearest, hmn]
  obtain ⟨hsuitsn, htraveln, -⟩ := hn
  obtain ⟨hsuitsm, htravelm, -⟩ := id hmq
  rcases aboard_or_afar o with ⟨y, ho⟩ | ho
  · obtain ⟨-, -, -, -, hyn⟩ := hsuitsn
    obtain ⟨-, -, -, -, hym⟩ := hsuitsm
    rw [ho] at hyn hym
    exact hym.1.symm.trans hyn.1
  · obtain ⟨a, ha, hda⟩ := sourceDistance_afar ho htraveln htraveln
    obtain ⟨b, hb, hdb⟩ := sourceDistance_afar ho htraveln htravelm
    have hnm := hleast m q x hmq a b ha hb
    have hmn := hmin n hmem
    rw [hda, hdb] at hmn
    have hord : m.ordinal = n.ordinal := by omega
    have hcm := ((mem_carsOf s _ m).1 hsuitsm.1).1
    have hcn := ((mem_carsOf s _ n).1 hsuitsn.1).1
    have hcorridor : m.corridor = n.corridor := hcm.trans hcn.symm
    revert hord hcorridor
    cases m <;> cases n <;> decide

/-! ## The turn -/

/-- A carriage once an order is given it, before it starts or waits for shifts. -/
def Carriage.tasked (v : Carriage) (id : Nat) (r : Int × Int) (l : List Shift) : Carriage :=
  { v with task := some ⟨.order, r.1, r.2, l.map (·.carriage), none, none⟩, assigned := some id }

/-- An order once a carriage is given it (R72). -/
def Order.givenTo (o : Order) (n : CarriageName) : Order := { o with carriage := some n }

variable {id : Nat}

theorem tryOrder_idle (hq : s.order? id = some o) (h : s.sourceReady o = false ∨ ∀ n r start, ¬ Eligible s o n r start) : s.tryOrder id = s := by
  rcases h with h | h
  · simp only [State.tryOrder, hq, h, Bool.false_eq_true, if_false]
  · have hnone : (s.carsOf o.corridor).filter (s.eligible o) = [] :=
      List.eq_nil_iff_forall_not_mem.2 fun n hn => (mem_eligible.1 hn).elim fun r hr => hr.elim fun start hs => h n r start hs
    simp only [State.tryOrder, hq, hnone, State.nearest, ite_self]

section
variable (hq : s.order? id = some o) (hready : s.sourceReady o = true) (hchosen : Chosen s o n r start)
include hq hready hchosen

theorem tryOrder_unplaced (hplan : planShifts s n r none = none) : s.tryOrder id = s := by
  have htravel := travelInterval_eq_some.2 ⟨start, hchosen.1.2.1⟩
  simp only [State.tryOrder, hq, hready, if_true, nearest_of_chosen hchosen, htravel, hplan]

theorem tryOrder_started (hplan : planShifts s n r none = some []) : s.tryOrder id =
    ((s.modCar n fun v => v.tasked id r []).modOrder id (Order.givenTo · n)).startOrder n := by
  have htravel := travelInterval_eq_some.2 ⟨start, hchosen.1.2.1⟩
  simp only [State.tryOrder, hq, hready, if_true, nearest_of_chosen hchosen, htravel, hplan, List.isEmpty_nil]
  rfl

theorem tryOrder_waits {l : List Shift} (hplan : planShifts s n r none = some l) (hl : l ≠ []) : s.tryOrder id =
    giveShifts (some (.order id)) l
      ((s.modCar n fun v => v.tasked id r l).modOrder id fun q => { q with carriage := some n, phase := .assigned }) := by
  have htravel := travelInterval_eq_some.2 ⟨start, hchosen.1.2.1⟩
  have hempty : l.isEmpty = false := List.isEmpty_eq_false_iff.2 hl
  simp only [State.tryOrder, hq, hready, if_true, nearest_of_chosen hchosen, htravel, hplan, hempty, Bool.false_eq_true, if_false]
  rfl

end

theorem firstLane_of_travel (h : TravelStretch s o n r start) : ∃ j m, o.firstLane = some j ∧ s.mouth j o.corridor = some m ∧ start = m.dock := by
  rcases aboard_or_afar o with ⟨x, ho⟩ | ho
  · obtain ⟨-, -, m, -, -, hm, rfl, -⟩ := (travelStretch_aboard ho).1 h
    exact ⟨o.dest, m, by simp only [Order.firstLane, ho], hm, rfl⟩
  · obtain ⟨-, -, -, -, -, -, k, f, hk, hf, rfl, -⟩ := (travelStretch_afar ho).1 h
    refine ⟨k, f, ?_, hf, rfl⟩
    cases hs : o.source with
    | aboard x => exact absurd hs (ho x)
    | _ => simp only [Order.firstLane, hs, hk]

theorem modOrder_modOrder (s : State) (id : Nat) {g : Order → Order} (k : Order → Order) (hg : ∀ o, (g o).id = o.id) :
    (s.modOrder id g).modOrder id k = s.modOrder id fun o => k (g o) := by
  simp only [State.modOrder, List.map_map]
  congr 1
  refine List.map_congr_left fun o _ => ?_
  simp only [Function.comp_apply]
  by_cases h : o.id = id
  · rw [if_pos h, if_pos ((hg o).trans h), if_pos h]
  · rw [if_neg h, if_neg h, if_neg h]

/-- An order given to a carriage that starts at once (R46, R72). -/
theorem startOrder_given {p : Int} (hq : s.order? id = some o) (hp : (s.car n).p = some p) (h : TravelStretch s o n r start) :
    ((s.modCar n fun v => v.tasked id r []).modOrder id (Order.givenTo · n)).startOrder n =
      (s.setCar n { (s.car n).tasked id r [] with state := .running, leg := some ⟨start, if p ≤ start then .south else .north⟩ }).modOrder id
        fun q => (q.givenTo n).started := by
  obtain ⟨j, m, hj, hm, rfl⟩ := firstLane_of_travel h
  obtain ⟨u, hu⟩ : ∃ u, (s.modCar n fun v => v.tasked id r []).modOrder id (Order.givenTo · n) = u := ⟨_, rfl⟩
  have hcar : u.car n = (s.car n).tasked id r [] := by
    rw [← hu, car_modOrder, car_modCar, if_pos rfl]
  have horder : u.order? id = some (o.givenTo n) := by
    rw [← hu, order?_modOrder (g := (Order.givenTo · n)) fun _ => rfl]
    exact congrArg (Option.map (Order.givenTo · n)) hq
  have hmouth : u.mouth j o.corridor = some m := by rw [← hu]; exact hm
  have hwork : u.startWork n = u.startOrder n := by simp only [State.startWork, hcar, Carriage.tasked]
  have hstart := startWork_order (k := ⟨.order, r.1, r.2, [], none, none⟩) (id := id) (o := o.givenTo n) (p := p)
    (congrArg Carriage.task hcar) rfl (congrArg Carriage.assigned hcar) horder ((congrArg Carriage.p hcar).trans hp) hj hmouth
  rw [hwork, hcar] at hstart
  rw [hu, hstart, ← hu, modOrder_modOrder _ id Order.started (g := (Order.givenTo · n)) fun _ => rfl]
  exact congrArg (fun t : State => t.modOrder id fun q => (q.givenTo n).started) (setCar_setCar s n _ _)

end

end Sys2Proof.Machine
end

section
/-! PROOFS. A homing's turn in an allocator run (R74), and what a run gives out (R69 to R74). -/

namespace Sys2Proof.Machine

section
variable {s : State} {n : CarriageName} {r : Int × Int}

/-! ## Who needs a homing, and its stretch -/

theorem needsHoming_iff (s : State) (n : CarriageName) : s.needsHoming n = true ↔ NeedsHoming s n := by
  simp only [State.needsHoming, Bool.and_eq_true, Bool.or_eq_true, decide_eq_true_eq, Option.isNone_iff_eq_none, isFree_iff, State.hasRecord,
    Option.isSome_iff_ne_none, NeedsHoming]
  grind

theorem homingInterval_eq_some : s.homingInterval n = some r ↔ HomingStretch s n r := by
  cases hit : s.item n with
  | none => simp only [State.homingInterval, HomingStretch, hit, reduceCtorEq, false_and, exists_false]
  | some it =>
    cases hnow : s.uncertain n with
    | none => simp only [State.homingInterval, HomingStretch, hit, hnow, reduceCtorEq, false_and, and_false, exists_false]
    | some now =>
      cases hgate : s.expectedGate n with
      | none => simp only [State.homingInterval, HomingStretch, hit, hnow, hgate, Option.some.injEq, exists_and_left, exists_eq_left', eq_comm]
      | some g =>
        simp only [State.homingInterval, HomingStretch, hit, hnow, hgate, Option.some.injEq, exists_and_left, exists_eq_left', exists_eq_left]
        exact eq_comm

/-! ## The turn -/

/-- A carriage once a homing is given it, before it starts or waits for shifts. -/
def Carriage.sentHome (v : Carriage) (r : Int × Int) (l : List Shift) : Carriage :=
  { v with task := some ⟨.homing, r.1, r.2, l.map (·.carriage), none, none⟩ }

theorem tryHoming_idle (h : ¬ NeedsHoming s n ∨ ∀ r, HomingStretch s n r → ¬ WayClear s n.corridor r n (some n)) : s.tryHoming n = s := by
  unfold State.tryHoming
  split
  next hneeds =>
    have hway := h.resolve_left (Classical.not_not.2 ((needsHoming_iff s n).1 hneeds))
    split
    · rfl
    next r hr =>
      refine if_pos ?_
      have hmeets := hway r (homingInterval_eq_some.1 hr)
      rw [wayClear_iff, Classical.not_and_iff_not_or_not, Bool.not_eq_false, Bool.not_eq_false] at hmeets
      exact Bool.or_eq_true_iff.2 hmeets
  next => rfl

section
variable (hneeds : NeedsHoming s n) (hr : HomingStretch s n r) (hway : WayClear s n.corridor r n (some n))
include hneeds hr hway

theorem tryHoming_unplaced (hplan : planShifts s n r none = none) : s.tryHoming n = s := by
  obtain ⟨hbusy, hobstacle⟩ := (wayClear_iff s _ r n _).1 hway
  simp only [State.tryHoming, (needsHoming_iff s n).2 hneeds, homingInterval_eq_some.2 hr, hbusy, hobstacle, hplan, if_true, Bool.or_self,
    Bool.false_eq_true, if_false]

theorem tryHoming_started (hplan : planShifts s n r none = some []) : s.tryHoming n = (s.modCar n fun v => v.sentHome r []).enterHoming n := by
  obtain ⟨hbusy, hobstacle⟩ := (wayClear_iff s _ r n _).1 hway
  simp only [State.tryHoming, (needsHoming_iff s n).2 hneeds, homingInterval_eq_some.2 hr, hbusy, hobstacle, hplan, if_true, Bool.or_self,
    Bool.false_eq_true, if_false, List.isEmpty_nil]
  rfl

theorem tryHoming_waits {l : List Shift} (hplan : planShifts s n r none = some l) (hl : l ≠ []) :
    s.tryHoming n = giveShifts (some (.homing n)) l (s.modCar n fun v => v.sentHome r l) := by
  obtain ⟨hbusy, hobstacle⟩ := (wayClear_iff s _ r n _).1 hway
  have hempty : l.isEmpty = false := List.isEmpty_eq_false_iff.2 hl
  simp only [State.tryHoming, (needsHoming_iff s n).2 hneeds, homingInterval_eq_some.2 hr, hbusy, hobstacle, hplan, if_true, Bool.or_self,
    Bool.false_eq_true, if_false, hempty]
  rfl

end

theorem expectedGate_setCar {v : Carriage} (hp : v.p = (s.car n).p) (hu : v.u = (s.car n).u) :
    (s.setCar n v).expectedGate n = s.expectedGate n := by
  have hcar : (s.setCar n v).car n = v := setCar_car_self s n v
  have hfoot : (s.setCar n v).footprint n = s.footprint n := by
    simp only [State.footprint, hcar, hp]
    rfl
  simp only [State.expectedGate, hfoot, hcar, hu]
  rfl

theorem enterHoming_gate {it : CarriageItem} {g : Nat × Int} (hit : s.item n = some it) (hgate : s.expectedGate n = some (g, false)) {x : Int}
    (hx : x = (match it.home with
      | .south => g.2 + (s.timing n.corridor).tol - it.length
      | .north => g.2 - (s.timing n.corridor).tol)) :
    s.enterHoming n = s.setCar n { s.car n with state := .homing, homing := some ⟨g.1, x, s.millis⟩, leg := some ⟨x, it.home⟩ } := by
  subst hx
  simp only [State.enterHoming, hit, hgate]
  rfl

theorem enterHoming_fails (h : ∀ g, s.expectedGate n ≠ some (g, false)) :
    ((s.enterHoming n).car n) = (s.car n).faultedBy .homingFailed none := by
  have heq : s.enterHoming n = (s.enterFaulted n .homingFailed none).notifyAll (.fault n .homingFailed none) := by
    unfold State.enterHoming
    split
    next it g _ hgate => exact absurd hgate (h g)
    next => rfl
  rw [heq, State.car_notifyAll, enterFaulted_self]

/-! ## The run -/

theorem allocate_blocked {c : Corridor} (h : s.mode = .configuring ∨ s.loopOpen c = true ∨ s.hold c = true ∨ s.starting.get c = true) :
    s.allocate c = s := by
  have hblocked : s.allocatorBlocked c = true := by
    simpa only [State.allocatorBlocked, Bool.or_eq_true, decide_eq_true_eq, or_assoc] using h
  rw [State.allocate, if_pos hblocked]

theorem allocate_runs {c : Corridor} (hmode : s.mode = .running) (hloop : s.loopOpen c = false) (hhold : s.hold c = false)
    (hstarting : s.starting.get c = false) : s.allocate c =
      (((s.carsOf c).foldl State.tryHoming s).candidates c).foldl State.tryOrder ((s.carsOf c).foldl State.tryHoming s) := by
  have hblocked : s.allocatorBlocked c = false := by
    simp only [State.allocatorBlocked, hmode, hloop, hhold, hstarting, reduceCtorEq, decide_false, Bool.or_self]
  rw [State.allocate, hblocked]
  exact if_neg Bool.false_ne_true

end

/-- Settles O4: an event settles the runs it owes; the plan of shifts is followed outward on each side; and each turn of a run is taken
through its equations. -/
theorem noRunStaysOwed : Obligations.NoRunStaysOwed := by
  refine ⟨fun s t hs h => (settles_step s t h).settled hs, fun s c => ⟨allocate_blocked, fun hmode hloop hhold hstarting u hu => ?_,
    candidateOrder_candidates s c⟩, fun s n r => ⟨fun l => shiftsClear_of_plan, fun hplan l hl => plan_of_shiftsClear hl hplan⟩,
    fun s id o hq => ⟨tryOrder_idle hq, fun n r start p hready hchosen hp => ⟨tryOrder_unplaced hq hready hchosen, fun hplan => ?_,
      fun l hplan hl => ?_⟩⟩,
    fun s n => ⟨tryHoming_idle, fun r hneeds hr hway => ⟨tryHoming_unplaced hneeds hr hway, fun hplan => ⟨fun it g x hit hgate hx => ?_,
      fun hgate => ?_⟩, fun l hplan hl => ?_⟩⟩⟩
  · rw [hu]
    exact allocate_runs hmode hloop hhold hstarting
  · rw [tryOrder_started hq hready hchosen hplan, startOrder_given hq hp hchosen.1.2.1]
    rfl
  · have hclear := shiftsClear_of_plan hplan
    rw [tryOrder_waits hq hready hchosen hplan hl]
    refine ⟨?_, waitsFor_giveShifts rfl ?_ (fun m hm => ?_) hclear.1 hclear.ne_worker⟩
    · rw [giveShifts_fields]
      rfl
    · rw [car_modOrder, car_modCar, if_pos rfl]
      rfl
    · rw [car_modOrder, car_modCar, if_neg hm]
  · have hsent : (s.setCar n ((s.car n).sentHome r [])).car n = (s.car n).sentHome r [] := setCar_car_self s n _
    have hgate' : (s.setCar n ((s.car n).sentHome r [])).expectedGate n = some (g, false) :=
      (expectedGate_setCar (v := (s.car n).sentHome r []) rfl rfl).trans hgate
    have hstart := enterHoming_gate (s := s.setCar n ((s.car n).sentHome r [])) hit hgate' hx
    rw [hsent, setCar_setCar] at hstart
    rw [tryHoming_started hneeds hr hway hplan, State.modCar, hstart]
    rfl
  · have hsent : ∀ g, (s.modCar n fun v => v.sentHome r []).expectedGate n ≠ some (g, false) := fun g h =>
      hgate g ((expectedGate_setCar (v := (s.car n).sentHome r []) rfl rfl).symm.trans h)
    rw [tryHoming_started hneeds hr hway hplan, enterHoming_fails hsent]
    exact ⟨rfl, rfl⟩
  · have hclear := shiftsClear_of_plan hplan
    rw [tryHoming_waits hneeds hr hway hplan hl]
    refine ⟨?_, waitsFor_giveShifts rfl ?_ (fun m hm => ?_) hclear.1 hclear.ne_worker⟩
    · rw [giveShifts_fields]
      rfl
    · rw [car_modCar, if_pos rfl]
      rfl
    · rw [car_modCar, if_neg hm]

end Sys2Proof.Machine
end
